-- ==== Sys2Proof/Word.lean ====
section
/-!
DEFINITION. The exchange word of the UT-430 (spec/00_scope.md, Section 1.5): sixteen bits, two-word quantities stored low
word first, signed quantities in two's complement.
-/
namespace Sys2Proof

/-- A word is 16 bits (Section 1.5). -/
abbrev Word := BitVec 16

namespace Word

/-- A flag shown as a word: 0 or 1. -/
def flag (b : Bool) : Word := if b then 1 else 0

/-- A count shown as a word, modulo 65,536; the low word of a two-word quantity. -/
def nat (n : Nat) : Word := BitVec.ofNat 16 n

/-- The high word of a two-word quantity. -/
def natHi (n : Nat) : Word := BitVec.ofNat 16 (n / 65536)

/-- A signed quantity shown as a word in two's complement; the low word of a signed two-word quantity. -/
def int (i : Int) : Word := BitVec.ofInt 16 i

/-- The high word of a signed two-word quantity. -/
def intHi (i : Int) : Word := BitVec.ofInt 16 (i / 65536)

/-- The two-word quantity with these words (low word first). -/
def join (lo hi : Word) : Nat := lo.toNat + hi.toNat * 65536

end Word

end Sys2Proof
end

