-- ==== Sys2Proof/Syntax.lean ====
section
/-!
DEFINITION. The commands of the UT-430: one constructor for each row of spec/opcode_table.json, with the operands the command
carries from outside (an address, a word, a level, a measurement). The rows give no bits; a command is data.
-/
namespace Sys2Proof

/-- The four vehicle inputs, filtered for 50 ms (R50). -/
inductive VehicleInput where
  | ignition | engineRun | shorePresent | door
  deriving DecidableEq, Repr

/-- The end-stop inputs, filtered for 20 ms (R143). -/
inductive EndStop where
  | stow0 | stow1 | out1
  deriving DecidableEq, Repr

/-- Every filtered input (R50, R104, R143). -/
inductive FilteredInput where
  | vehicle (i : VehicleInput)
  | pressureLow
  | endStop (e : EndStop)
  deriving DecidableEq, Repr

/-- Mover 0 is the AWNING and mover 1 is the STEP (Section 1.3). -/
inductive Mover where
  | awning | step
  deriving DecidableEq, Repr

/-- One of the ten samples of a second: bank voltage (mV) and bank current (mA, positive when charging), before the limits of
R45. -/
structure Sample where
  mV : Nat
  mA : Int
  deriving DecidableEq, Repr

/-- One cell of the flash as VERIFY reads it back, where it differs from what PROGRAM wrote. -/
structure FlashCell where
  offset : Nat
  word : Word
  deriving DecidableEq, Repr

/-- The commands and events, in the order of spec/opcode_table.json. An operand `sub` is the moment of a node-link event, in ms
after the last second close; `duringUpdate` says whether the restart meets a digest update in progress. -/
inductive Instr where
  -- host accesses (Chapter 1)
  | hostRead (addr : BitVec 13)
  | slotWordWrite (slot : Fin 32) (word : Fin 16) (value : Word)
  | slotPost (slot : Fin 32)
  | slotCancelPosted (slot : Fin 32)
  | slotCancelTaken (slot : Fin 32)
  | slotCancelLate (slot : Fin 32)
  | slotGiveBack (slot : Fin 32)
  | slotStateFault (slot : Fin 32) (value : Word)
  | sceneWrite (scene : Fin 32) (word : Fin 16) (value : Word)
  | stagingWrite (addr : BitVec 13) (value : Word)
  | digestWrite (addr : BitVec 13) (value : Word)
  | unmappedWrite (addr : BitVec 13) (value : Word)
  | registerWrite (addr : BitVec 13) (value : Word)
  | restart (value : Word)
  | attnEn (value : Word)
  | ordAutoclr (value : Word)
  | noticeClear (value : Word)
  | noticeMask (value : Word)
  -- dispatches (Chapter 1 and the owning chapters)
  | badKind
  | chargeSet
  | shedFloor
  | restNow
  | auxSet
  | tripClear
  | termsLoad
  | pumpMode
  | pumpReset
  | fill
  | drainDump
  | drainClose
  | climateMode
  | zoneSet
  | heaterClear
  | move
  | moverStop
  | sceneRecall
  | lightSet
  | settingsFetch
  | settingsStore
  -- settings store (Chapter 10)
  | validateEnd
  | eraseEnd (ok : Bool)
  | eraseTimeout
  | programEnd (ok : Bool)
  | programTimeout
  | verifyEnd (differing : List FlashCell)
  | serviceInput (level : Bool)
  -- start (Chapter 10)
  | powerOn
  | resetAssert (duringUpdate : Bool)
  | resetRelease
  | linkStartQuiet (sub : Nat)
  | startComplete
  -- second close (Chapter 3)
  | secondClose (samples : List Sample)
  | fullSync (samples : List Sample)
  | emptySync (samples : List Sample)
  | voltageFloorEntry (samples : List Sample)
  | voltageFloorExit (samples : List Sample)
  | restEntry (samples : List Sample)
  | filteredInputEdge (input : FilteredInput) (level : Bool)
  | vehicleInput (input : VehicleInput) (level : Bool)
  -- outlets (Chapter 4)
  | valvePullInEnd (outlet : Fin 16)
  | immediateTrip (outlet : Fin 16) (mA : Nat)
  | sustainedTrip (outlet : Fin 16) (mA : Nat)
  -- node link (Chapter 2)
  | turnaroundEnd (sub : Nat)
  | pollDue (record : Fin 12) (sub : Nat)
  | requestSent
  | ackWindowExpiry (sub : Nat)
  | replyGapExpiry
  | replyWordFault (index : Nat) (word : Word) (parityOk : Bool) (stopOk : Bool)
  | replyQuietEnd (sub : Nat)
  | goodReply (status : Word) (data : List Word) (sub : Nat)
  | readingStale (record : Fin 12) (samples : List Sample)
  -- water (Chapter 6)
  | pressureLow (level : Bool)
  | pumpRunLimit
  | fillFlowPulse
  | fillWaitTimeout
  | fillFlowTimeout
  | frostBlindGrace
  | padTimeout
  | heatTimeout
  -- climate (Chapter 7)
  | retryHoldEnd
  | grantWaitTimeout
  | ignitionLimit
  | runOnEnd
  | cooldownMinimum
  | cooldownMaximum
  | supplyHoldEnd
  -- movers (Chapter 8)
  | hallPulse (mover : Mover)
  | endStop (input : EndStop) (level : Bool)
  | grantWindowExpiry (mover : Mover)
  | stallWindowExpiry (mover : Mover)
  | moveTimeout (mover : Mover)
  | windPulse
  | windHighSet (samples : List Sample)
  | windHighClear (samples : List Sample)
  -- lighting and sampling (Chapters 9 and 4)
  | rampTick
  | currentSample (outlet : Fin 16) (mA : Nat)
  deriving DecidableEq, Repr

end Sys2Proof
end

