-- ==== Sys2Proof/Decode.lean ====
section
/-!
DEFINITION. Decoding of command words. Every row of spec/opcode_table.json has an empty list of fields and gives no bits: the
commands of this block are accesses and events, not encoded words, so no word spells one.
-/
namespace Sys2Proof

/-- The command that a word of `nbits` bits spells by the table's bits: none, for no row of the table gives bits. -/
def decodeTableWord (_nbits _w : Nat) : Option Instr := none

end Sys2Proof
end

