-- ==== Sys2Proof/Machine/Memory.lean ====
section
/-!
DEFINITION. A memory of 16-bit words: a list of (word address, word) pairs in one canonical form, addresses strictly rising and
no entry equal to `d`, what an unlisted address reads as. The spec addresses words only (Section 1.5).
-/
namespace Sys2Proof.Machine

abbrev Mem := List (Nat × Word)

/-- The word at address `a`. -/
def Mem.read (d : Word) : Mem → Nat → Word
  | [], _ => d
  | (b, w) :: m, a => if a = b then w else if a < b then d else Mem.read d m a

/-- Store `v` at `a`; storing the default removes the entry. -/
def Mem.write (d : Word) : Mem → Nat → Word → Mem
  | [], a, v => if v = d then [] else [(a, v)]
  | (b, w) :: m, a, v =>
    if a = b then (if v = d then m else (a, v) :: m)
    else if a < b then (if v = d then (b, w) :: m else (a, v) :: (b, w) :: m)
    else (b, w) :: Mem.write d m a v

/-- Store a list of words from address `a` upward. -/
def Mem.writeList (d : Word) (m : Mem) (a : Nat) : List Word → Mem
  | [] => m
  | v :: vs => Mem.writeList d (Mem.write d m a v) (a + 1) vs

/-- Store a list of addressed words. -/
def Mem.writeCells (d : Word) (m : Mem) : List (Nat × Word) → Mem
  | [] => m
  | (a, v) :: l => Mem.writeCells d (Mem.write d m a v) l

/-- The `n` words from address `a` upward. -/
def Mem.readList (d : Word) (m : Mem) (a : Nat) : Nat → List Word
  | 0 => []
  | n + 1 => Mem.read d m a :: Mem.readList d m (a + 1) n

/-- The cells with `lo ≤ address < hi`. -/
def Mem.window (m : Mem) (lo hi : Nat) : Mem := m.filter fun c => decide (lo ≤ c.1) && decide (c.1 < hi)

/-- Every address moved down by `k`. -/
def Mem.rebase (m : Mem) (k : Nat) : Mem := m.map fun c => (c.1 - k, c.2)

/-- The sum of the stored words (the default being 0), modulo 65,536. -/
def Mem.sum (m : Mem) : Word := m.foldl (fun a c => a + c.2) 0

/-- The canonical form. -/
abbrev Mem.Wf (d : Word) (m : Mem) : Prop := m.Pairwise (fun a b => a.1 < b.1) ∧ ∀ c ∈ m, c.2 ≠ d

end Sys2Proof.Machine
end

