-- ==== Sys2Proof/Config.lean ====
section
/-!
DEFINITION. The fixed numbers of the UT-430 that no setting changes, and the free values: quantities the spec gives an effect
without stating the value. A free value has no body, so no proof can learn it.
-/
namespace Sys2Proof.Config

/-! ### Exchange map (Section 1.1) -/

def slotBase : Nat := 0x000
def digestBase : Nat := 0x200
def sceneBase : Nat := 0x400
def stagingBase : Nat := 0x600
def unassignedBase : Nat := 0x700
def windowBase : Nat := 0x800
def registerBase : Nat := 0x1000
def registerEnd : Nat := 0x1006

/-- IDENT: part number 0x430, silicon revision 2 (Section 1.8.1). -/
def ident : Word := 0x4302

/-- FOLLOW_ON, KEEP, END and the other "none" words of the layouts. -/
def noneWord : Word := 0xFFFF

/-! ### Fixed durations and limits -/

/-- Full-sync hold, seconds (Section 3.1). -/
def fullSyncHold : Nat := 600
/-- Empty-sync hold, seconds (Section 3.1). -/
def emptySyncHold : Nat := 60
def floorEntryMv : Nat := 11600
def floorEntryHold : Nat := 10
def floorExitMv : Nat := 12400
def floorExitHold : Nat := 60
def shedExitMargin : Nat := 50
/-- Sustained trip time, ms (Section 4.1). -/
def sustainedTripMs : Nat := 200
/-- Hold duty of a valve after its pull-in, per mille (R65). -/
def valveHoldDuty : Nat := 400
def pumpRunLimit : Nat := 45
def pumpLowLevel : Nat := 20
def dryRecoveryRise : Nat := 50
def fillFullLevel : Nat := 980
def fillFlowTimeout : Nat := 60
def fillWaitTimeout : Nat := 30
def greyFullLevel : Nat := 900
def freshLowLevel : Nat := 100
def padTimeout : Nat := 120
def heatTimeout : Nat := 300
def frostBlindGrace : Nat := 60
def grantWaitLimit : Nat := 300
def retryHold : Nat := 60
def runOnLimit : Nat := 120
def phaseMax : Nat := 600
def failedStartsLimit : Nat := 2
def zoneColdLevel : Int := 50
def lockerFrostTarget : Int := 50
def grantWindow : Nat := 2
/-- Stall window, ms (R151). -/
def stallWindow : Nat := 400
/-- The time between two samples of an outlet in ON, ms (R80). -/
def samplePeriod : Nat := 10
def awningCharge : Nat := 18000
def stepCharge : Nat := 8000
def windMax : Nat := 250
def windSetHold : Nat := 5
def windClearHold : Nat := 60
def missLimit : Nat := 3
def missingInterval : Nat := 10
def restFactor : Nat := 30
def ageMax : Nat := 65535

/-! ### Free values

Each is an unconstrained constant of the part (log entries name them). -/

/-- FREE VALUE (assumption log 3). Whether a mean that is not a whole number is rounded up: R45 and R80 average samples and do
not say what becomes of the fraction. Applied to the sum and the number of the samples. -/
opaque meanRoundsUp : Int → Nat → Bool

/-- FREE VALUE (assumption log 4). What the flash holds at an offset that an incomplete erase has left unknown, or at the offset an
incomplete program was writing. Applied to the number of the flash operation and the offset. -/
opaque flashRemnant : Nat → Nat → Word

/-- FREE VALUE (assumption log 4). How far an incomplete program has come in its ascending order: the offset it was writing. Applied
to the number of the flash operation. -/
opaque programReach : Nat → Nat

/-- FREE VALUE (assumption log 19). Whether a restart requested by a CONTROL write meets a digest update in progress (R188): commands
reach the model between updates. Applied to the number of such restarts before it. -/
opaque restartCutsUpdate : Nat → Bool

/-- FREE VALUE (assumption log 5). The digest word at an address whose item is absent where Section 10.1.1 gives no coding for
the absence (the move fields of a mover in no move, the data words of an absent reading, the unit words of an absent unit
reading, the last automatic outcome NONE). -/
opaque absentWord : Nat → Word

/-- FREE VALUE (assumption log 5). The digest code of a mover's last direction: 0 stands for NONE, 1 for OUT, 2 for IN; Section
10.1.1 gives no coding. -/
opaque lastDirectionCode : Nat → Word

/-- FREE VALUE (assumption log 5). The digest code of a move's phase (false GRANT_WAIT, true DRIVING). -/
opaque movePhaseCode : Bool → Word

/-- FREE VALUE (assumption log 5). The digest code of a move's segment (false RUN, true CREEP). -/
opaque moveSegmentCode : Bool → Word

end Sys2Proof.Config
end

