-- ==== Sys2Proof/Machine/Types.lean ====
section
/-!
DEFINITION. The enumerations of the spec (Section 1.5, "Codes") and the codes by which the exchange area shows them.
-/
namespace Sys2Proof.Machine

/-! ### Exchange area and orders (Chapter 1) -/

/-- Slot states (Section 1.2). -/
inductive SlotState where
  | empty | posted | taken | cancel | done | failed
  deriving DecidableEq, Repr

def SlotState.code : SlotState → Word
  | .empty => 0 | .posted => 1 | .taken => 2 | .cancel => 3 | .done => 4 | .failed => 5

/-- The state a state word shows; the watch lets no other code than these six into a state word (R8, R9). -/
def SlotState.ofWord (w : Word) : SlotState :=
  match w.toNat with
  | 1 => .posted | 2 => .taken | 3 => .cancel | 4 => .done | 5 => .failed | _ => .empty

/-- Order kinds (Section 1.9). -/
inductive Kind where
  | chargeSet | shedFloor | restNow | auxSet | tripClear | termsLoad | pumpMode | pumpReset | fill | drainDump | drainClose
  | climateMode | zoneSet | heaterClear | move | moverStop | sceneRecall | lightSet | settingsFetch | settingsStore
  deriving DecidableEq, Repr

/-- The kind a KIND code names; none for every code outside the table (R13). -/
def Kind.ofCode (c : Nat) : Option Kind :=
  match c with
  | 0x01 => some .chargeSet | 0x02 => some .shedFloor | 0x03 => some .restNow
  | 0x10 => some .auxSet | 0x11 => some .tripClear | 0x18 => some .termsLoad
  | 0x20 => some .pumpMode | 0x21 => some .pumpReset | 0x22 => some .fill | 0x23 => some .drainDump
  | 0x24 => some .drainClose | 0x30 => some .climateMode | 0x31 => some .zoneSet | 0x32 => some .heaterClear
  | 0x40 => some .move | 0x41 => some .moverStop | 0x50 => some .sceneRecall | 0x51 => some .lightSet
  | 0x60 => some .settingsFetch | 0x61 => some .settingsStore
  | _ => none

/-- Outcomes (Section 1.9). -/
inductive Outcome where
  | ok | cancelled | busy | badKind | badParam | chainInvalid | chainBroken | interlocked | shed | noBudget | bridgeHeld
  | positionUnknown | tripped | stalled | timeout | stopped | superseded | notPermitted | locked | invalidImage
  | flashFault | restart
  deriving DecidableEq, Repr

def Outcome.code : Outcome → Word
  | .ok => 0 | .cancelled => 1 | .busy => 2 | .badKind => 3 | .badParam => 4 | .chainInvalid => 5 | .chainBroken => 6
  | .interlocked => 7 | .shed => 8 | .noBudget => 9 | .bridgeHeld => 10 | .positionUnknown => 11 | .tripped => 12
  | .stalled => 13 | .timeout => 14 | .stopped => 15 | .superseded => 16 | .notPermitted => 18 | .locked => 20
  | .invalidImage => 21 | .flashFault => 22 | .restart => 23

/-- What an order is finished with (R17): OK means DONE, every other outcome FAILED. -/
structure Finish where
  outcome : Outcome
  r0 : Word := 0
  r1 : Word := 0
  r2 : Word := 0
  deriving DecidableEq, Repr

/-- The blocks that own long orders (Section 1.9). -/
inductive Block where
  | water | movers | lights | store
  deriving DecidableEq, Repr

/-- Notice groups (Section 1.7). -/
inductive Group where
  | start | orders | energy | outlets | water | climate | movers | lights | link | port
  deriving DecidableEq, Repr

def Group.index : Group → Fin 10
  | .start => 0 | .orders => 1 | .energy => 2 | .outlets => 3 | .water => 4 | .climate => 5 | .movers => 6 | .lights => 7
  | .link => 8 | .port => 9

/-- Port fault kinds (Section 1.8). -/
inductive PortFault where
  | unmapped | readOnly | slotState | slotLocked
  deriving DecidableEq, Repr

def PortFault.code : PortFault → BitVec 3
  | .unmapped => 1 | .readOnly => 2 | .slotState => 3 | .slotLocked => 4

/-! ### Charge monitor (Chapter 3) -/

inductive PowerState where
  | starting | active | rest
  deriving DecidableEq, Repr

def PowerState.code : PowerState → Word
  | .starting => 0 | .active => 1 | .rest => 2

/-- The result of a node-link command (R39). -/
inductive CmdResult where
  | accepted | refused | missed
  deriving DecidableEq, Repr

def CmdResult.code : CmdResult → Word
  | .accepted => 1 | .refused => 2 | .missed => 3

/-! ### Outlets (Chapter 4) -/

inductive OutletState where
  | off | waiting | on | shed | inhibited | tripped
  deriving DecidableEq, Repr

def OutletState.code : OutletState → Word
  | .off => 0 | .waiting => 1 | .on => 2 | .shed => 3 | .inhibited => 4 | .tripped => 5

/-- Outlet classes, by the rank of Section 10.2: 0 PROTECTED, 1 ESSENTIAL, 2 COMFORT, 3 LUXURY. A lower rank is a higher class. -/
abbrev Class := Nat

/-- Travel and bridge direction. -/
inductive Dir where
  | out | inward
  deriving DecidableEq, Repr

def Dir.code : Dir → Word
  | .out => 0 | .inward => 1

/-- A demand that stands (R64): the requested charge, for BRIDGE a direction, for HEATER SUPPLY the elevation flag. -/
structure Demand where
  charge : Nat
  dir : Option Dir := none
  elevated : Bool := false
  deriving DecidableEq, Repr

/-- The kind of cut a release request names (R78). -/
inductive Cut where
  | shed | revoked
  deriving DecidableEq, Repr

/-! ### Water (Chapter 6) -/

inductive PumpState where
  | idle | running | paused | dry
  deriving DecidableEq, Repr

def PumpState.code : PumpState → Word
  | .idle => 0 | .running => 1 | .paused => 2 | .dry => 3

inductive DryCause where
  | none | runLimit | lowLevel | tripped
  deriving DecidableEq, Repr

def DryCause.code : DryCause → Word
  | .none => 0 | .runLimit => 1 | .lowLevel => 2 | .tripped => 3

inductive Stage where
  | watch | pad | heat | dump
  deriving DecidableEq, Repr

def Stage.code : Stage → Nat
  | .watch => 0 | .pad => 1 | .heat => 2 | .dump => 3

/-! ### Climate (Chapter 7) -/

inductive ClimateMode where
  | off | frostOnly | auto
  deriving DecidableEq, Repr

def ClimateMode.code : ClimateMode → Word
  | .off => 0 | .frostOnly => 1 | .auto => 2

def ClimateMode.ofWord (w : Word) : ClimateMode :=
  match w.toNat with
  | 0 => .off | 1 => .frostOnly | _ => .auto

inductive SeqState where
  | off | grantWait | igniting | running | stopping | lockedOut | unitLost
  deriving DecidableEq, Repr

def SeqState.code : SeqState → Word
  | .off => 0 | .grantWait => 1 | .igniting => 2 | .running => 3 | .stopping => 4 | .lockedOut => 5 | .unitLost => 6

/-- HEATER_ACTIVE is 1 in these states (Section 5.2). -/
def SeqState.active : SeqState → Bool
  | .igniting | .running | .stopping => true
  | _ => false

/-- The unit phases (Section 2.7). -/
inductive Phase where
  | idle | priming | igniting | flame | cooling | fault
  deriving DecidableEq, Repr

def Phase.ofCode : Nat → Phase
  | 0 => .idle | 1 => .priming | 2 => .igniting | 3 => .flame | 4 => .cooling | _ => .fault

def Phase.code : Phase → Word
  | .idle => 0 | .priming => 1 | .igniting => 2 | .flame => 3 | .cooling => 4 | .fault => 5

/-- A heater reading with its faulty mark (R34, R129). -/
structure UnitReading where
  phase : Phase
  fault : Nat
  level : Nat
  faulty : Bool
  deriving DecidableEq, Repr

/-! ### Node link (Chapter 2) -/

inductive Role where
  | fresh | grey | frostProbe | zoneProbe | heater | solar
  deriving DecidableEq, Repr

def Role.ofCode (c : Nat) : Option Role :=
  match c with
  | 1 => some .fresh | 2 => some .grey | 3 => some .frostProbe | 4 => some .zoneProbe | 5 => some .heater | 6 => some .solar
  | _ => none

def Role.code : Role → Nat
  | .fresh => 1 | .grey => 2 | .frostProbe => 3 | .zoneProbe => 4 | .heater => 5 | .solar => 6

/-- Reply data words by role (Section 2.3). -/
def Role.words : Role → Nat
  | .heater | .solar => 3
  | _ => 1

inductive NodeState where
  | unseen | present | missing
  deriving DecidableEq, Repr

def NodeState.code : NodeState → Word
  | .unseen => 0 | .present => 1 | .missing => 2

inductive MissKind where
  | none | noReply | parity | format
  deriving DecidableEq, Repr

def MissKind.code : MissKind → Word
  | .none => 0 | .noReply => 1 | .parity => 2 | .format => 3

/-- Heater commands in flight (Section 2.7); the halves of a bound pair are told apart (R40). -/
inductive HeaterCmd where
  | setLevel (level : Nat) | start (level : Nat) | stop | clearFault | pairLevel (level : Nat)
  deriving DecidableEq, Repr

/-- One heater buffer entry: a single command or the bound pair SET_LEVEL then START (R38, R40). -/
inductive HeaterEntry where
  | single (c : HeaterCmd) | pair (level : Nat)
  deriving DecidableEq, Repr

/-- What a transaction carries (R28). -/
inductive LinkCmd where
  | poll | heater (c : HeaterCmd) | float
  deriving DecidableEq, Repr

/-- The phases of the link (R28, R29, R42). -/
inductive LinkPhase where
  | startQuiet | idle | sending | listening | badReply (kind : MissKind) | turnaround
  deriving DecidableEq, Repr

/-! ### Movers (Chapter 8) -/

inductive MoverState where
  | unknown | stowed | partialOut | extended | movingOut | movingIn | stalled
  deriving DecidableEq, Repr

def MoverState.code : MoverState → Word
  | .unknown => 0 | .stowed => 1 | .partialOut => 2 | .extended => 3 | .movingOut => 4 | .movingIn => 5 | .stalled => 6

def MoverState.moving : MoverState → Bool
  | .movingOut | .movingIn => true
  | _ => false

/-- The tag of a move (R141). -/
inductive MoveTag where
  | host (slot : Fin 32) | retract | extend
  deriving DecidableEq, Repr

/-- The target of a move: a count, or END (R141). -/
inductive Target where
  | count (n : Nat) | stop
  deriving DecidableEq, Repr

def moverIndex : Mover → Nat
  | .awning => 0 | .step => 1

/-! ### Lighting (Chapter 9) -/

/-- The owner of a channel: a host order, or ENTRY (R164). An entry recall carries a number of the model's own, which tells it from
an earlier one still in hand (log entry 35). -/
inductive LightOwner where
  | host (slot : Fin 32) | entry (number : Nat)
  deriving DecidableEq, Repr

/-! ### Settings store and start (Chapter 10) -/

inductive StorePhase where
  | idle | validate | erase | program | verify
  deriving DecidableEq, Repr

def StorePhase.code : StorePhase → Word
  | .idle => 0 | .validate => 1 | .erase => 2 | .program => 3 | .verify => 4

/-- What a begun erase or program has done to the sector (R184). -/
inductive Tear where
  | whole | erasing | programming
  deriving DecidableEq, Repr

inductive LoadResult where
  | valid | blank | incomplete | badSum | badField
  deriving DecidableEq, Repr

def LoadResult.code : LoadResult → Word
  | .valid => 0 | .blank => 1 | .incomplete => 2 | .badSum => 3 | .badField => 4

inductive StartKind where
  | powerOn | restart
  deriving DecidableEq, Repr

end Sys2Proof.Machine
end

