-- ==== Sys2Proof/Machine/Terms.lean ====
section
/-!
DEFINITION. The term record (Section 5.3), its checks (R99), and the conditions of terms on the signal set (R91, R92).
-/
namespace Sys2Proof.Machine

/-- A term record: sixteen words, in the form of Section 5.3. -/
abbrev TermRec := List Word

/-- The signal set: the value of signal code n stands at index n, index 0 is unused. -/
abbrev Signals := Vector Nat 16

/-- The signals by name (Section 5.2). -/
inductive Signal where
  | ignition | engineRun | shore | door | windHigh | shedLevel | rest | frostStage | drainOpen | greyFull | freshLow
  | heaterActive | awningStowed | stepStowed | zoneCold
  deriving DecidableEq, Repr

def Signal.index : Signal → Fin 16
  | .ignition => 1 | .engineRun => 2 | .shore => 3 | .door => 4 | .windHigh => 5 | .shedLevel => 6 | .rest => 7
  | .frostStage => 8 | .drainOpen => 9 | .greyFull => 10 | .freshLow => 11 | .heaterActive => 12 | .awningStowed => 13
  | .stepStowed => 14 | .zoneCold => 15

namespace TermRec

def word (t : TermRec) (i : Nat) : Word := t.getD i 0

def enabled (t : TermRec) : Bool := word t 0 == 1

/-- The SIGNAL field of condition i (0 to 3). -/
def condSignal (t : TermRec) (i : Nat) : Nat := (word t (1 + 2 * i)).toNat % 256

/-- The TEST field of condition i. -/
def condTest (t : TermRec) (i : Nat) : Nat := (word t (1 + 2 * i)).toNat / 256 % 16

def condValue (t : TermRec) (i : Nat) : Nat := (word t (2 + 2 * i)).toNat

def effect (t : TermRec) : Nat := (word t 9).toNat

def target (t : TermRec) : Nat := (word t 10).toNat

/-- A condition whose SIGNAL is 0 is unused (R91). -/
def condUsed (t : TermRec) (i : Nat) : Bool := condSignal t i != 0

/-- The largest value of a signal (Section 5.2). -/
def signalMax (s : Nat) : Nat := if s = 6 ∨ s = 8 then 3 else 1

/-- One condition's checks, reasons 2 to 4 of R99. -/
def checkCond (t : TermRec) (i : Nat) : Option (Nat × Nat) :=
  if 15 < condSignal t i then some (2, 1 + 2 * i)
  else if condUsed t i && decide (3 < condTest t i) then some (3, 1 + 2 * i)
  else if condUsed t i && decide (signalMax (condSignal t i) < condValue t i) then some (4, 2 + 2 * i)
  else none

/-- The TARGET checks, reasons 7 to 10 of R99. -/
def checkTarget (t : TermRec) : Option (Nat × Nat) :=
  if effect t = 1 then
    if 15 < target t then some (7, 10)
    else if target t = 1 ∨ target t = 2 ∨ target t = 5 then some (8, 10) else none
  else if effect t = 2 then (if 1 < target t then some (9, 10) else none)
  else if effect t = 3 then (if 12 < target t then some (10, 10) else none)
  else none

/-- R99: the first failing check of a record, as (reason, word offset). -/
def check (t : TermRec) : Option (Nat × Nat) :=
  (if 1 < (word t 0).toNat then some (1, 0) else none)
    <|> checkCond t 0 <|> checkCond t 1 <|> checkCond t 2 <|> checkCond t 3
    <|> (if enabled t && !(condUsed t 0 || condUsed t 1 || condUsed t 2 || condUsed t 3) then some (5, 1) else none)
    <|> (if 3 < effect t ∨ (effect t = 0 ∧ enabled t = true) then some (6, 9) else none)
    <|> checkTarget t

/-- R91: one condition on the held signals; an unused one holds. -/
def condHolds (t : TermRec) (g : Signals) (i : Nat) : Bool :=
  !condUsed t i ||
    (let v := g.toList.getD (condSignal t i) 0
     match condTest t i with
     | 0 => v == condValue t i
     | 1 => v != condValue t i
     | 2 => decide (condValue t i ≤ v)
     | _ => decide (v < condValue t i))

/-- R91: a term is active while it is enabled and every used condition holds. -/
def holds (t : TermRec) (g : Signals) : Bool :=
  enabled t && condHolds t g 0 && condHolds t g 1 && condHolds t g 2 && condHolds t g 3

/-- The term names the signal in a used condition (R93). -/
def names (t : TermRec) (s : Signal) : Bool :=
  let n := s.index.val
  condSignal t 0 == n || condSignal t 1 == n || condSignal t 2 == n || condSignal t 3 == n

end TermRec

/-- The effects of a term on its target (R95 to R97, R92). -/
inductive Effect where
  | inhibit (o : Nat) | blockOut (m : Mover) | notice (code : Nat) | travelUnsafe | nothing
  deriving DecidableEq, Repr

def TermRec.effectOf (t : TermRec) : Effect :=
  match TermRec.effect t with
  | 1 => .inhibit (TermRec.target t)
  | 2 => .blockOut (if TermRec.target t = 0 then .awning else .step)
  | 3 => .notice (TermRec.target t)
  | _ => .nothing

/-- The six built-in terms B0 to B5 (Section 5.4): signals named, condition, effect. -/
structure BuiltIn where
  signal : Signal
  other : Option Signal
  effect : Effect
  deriving DecidableEq, Repr

def builtIns : List BuiltIn :=
  [⟨.ignition, none, .blockOut .awning⟩, ⟨.ignition, none, .blockOut .step⟩, ⟨.windHigh, none, .blockOut .awning⟩,
   ⟨.drainOpen, none, .inhibit 0⟩, ⟨.drainOpen, none, .inhibit 7⟩, ⟨.ignition, some .awningStowed, .travelUnsafe⟩]

/-- A built-in's condition: its signal is 1 and, for B5, AWNING_STOWED is 0 (Section 5.4). -/
def BuiltIn.holds (b : BuiltIn) (g : Signals) : Bool :=
  g[b.signal.index] == 1 && (match b.other with | none => true | some x => g[x.index] == 0)

def BuiltIn.names (b : BuiltIn) (s : Signal) : Bool := b.signal == s || b.other == some s

end Sys2Proof.Machine
end

