-- ==== Sys2Proof/Machine/Settings.lean ====
section
/-!
DEFINITION. The settings image (Section 10.2): its fields, the built-in defaults, validation (R180), and the form SETTINGS_FETCH
writes (R181). The active settings are held as such an image, 513 words by offset.
-/
namespace Sys2Proof.Machine

/-- A settings image: words by offset 0x000 to 0x200, 0 where nothing is listed. -/
abbrev Image := Mem

namespace Image

def word (i : Image) (o : Nat) : Word := Mem.read 0 i o
def num (i : Image) (o : Nat) : Nat := (word i o).toNat
/-- A signed field (Section 1.5, temperature). -/
def signed (i : Image) (o : Nat) : Int := (word i o).toInt
/-- A two-word field. -/
def wide (i : Image) (o : Nat) : Nat := Word.join (word i o) (word i (o + 1))

def capacity (i : Image) : Nat := wide i 0x001
def fullPoint (i : Image) : Nat := num i 0x003
def tailCurrent (i : Image) : Nat := num i 0x004
def emptyPoint (i : Image) : Nat := num i 0x005
/-- The shed point of level n (1 to 3). -/
def shedPoint (i : Image) (n : Nat) : Nat := num i (0x005 + n)
def batteryLimit (i : Image) : Nat := wide i 0x009
def shoreAllowance (i : Image) : Nat := num i 0x00B
def alternatorAllowance (i : Image) : Nat := num i 0x00C
def restDelay (i : Image) : Nat := wide i 0x00D
def outletClass (i : Image) (o : Nat) : Class := num i (0x010 + 4 * o)
def rated (i : Image) (o : Nat) : Nat := num i (0x011 + 4 * o)
def fullScale (i : Image) (o : Nat) : Nat := wide i (0x012 + 4 * o)
def freshCapacity (i : Image) : Nat := num i 0x050
def greyCapacity (i : Image) : Nat := num i 0x051
def fillPulses (i : Image) : Nat := num i 0x052
def pumpAuto (i : Image) : Bool := word i 0x053 == 1
def padThreshold (i : Image) : Int := signed i 0x054
def heatThreshold (i : Image) : Int := signed i 0x055
def dumpThreshold (i : Image) : Int := signed i 0x056
def climateMode (i : Image) : ClimateMode := ClimateMode.ofWord (word i 0x058)
def zoneTarget (i : Image) (z : Nat) : Int := signed i (0x059 + 2 * z)
def zoneOn (i : Image) (z : Nat) : Bool := word i (0x05A + 2 * z) == 1
def startCurrent (i : Image) : Nat := num i 0x05F
def runCurrent (i : Image) : Nat := num i 0x060
def ignitionLimit (i : Image) : Nat := num i 0x061
def cooldownMinimum (i : Image) : Nat := num i 0x062
def travel (i : Image) (m : Mover) : Nat := num i (0x064 + moverIndex m)
def runDuty (i : Image) (m : Mover) : Nat := num i (0x066 + 4 * moverIndex m)
def creepDuty (i : Image) (m : Mover) : Nat := num i (0x067 + 4 * moverIndex m)
def creepCounts (i : Image) (m : Mover) : Nat := num i (0x068 + 4 * moverIndex m)
def moveLimit (i : Image) (m : Mover) : Nat := num i (0x069 + 4 * moverIndex m)
def autoStep (i : Image) : Bool := word i 0x06E == 1
def windLimit (i : Image) : Nat := num i 0x06F
def windFactor (i : Image) : Nat := num i 0x070
def rosterCount (i : Image) : Nat := num i 0x078
def address (i : Image) (r : Nat) : Nat := num i (0x080 + 4 * r)
def role (i : Image) (r : Nat) : Option Role := Role.ofCode (num i (0x081 + 4 * r))
def zoneIndex (i : Image) (r : Nat) : Nat := num i (0x082 + 4 * r)
def pollPeriod (i : Image) (r : Nat) : Nat := num i (0x083 + 4 * r)
def termCount (i : Image) : Nat := num i 0x0B0
def term (i : Image) (t : Nat) : TermRec := Mem.readList 0 i (0x100 + 16 * t) 16
def terms (i : Image) : List TermRec := (List.range (termCount i)).map (term i)

/-- The sum of offsets 0x000 to 0x1FF modulo 65,536. -/
def sum (i : Image) : Word := Mem.sum (Mem.window i 0 0x200)

/-- The image with SUM computed anew. -/
def withSum (i : Image) : Image := Mem.write 0 i 0x200 (sum i)

/-! ### Defaults -/

/-- Charge monitor fields (Default column of Section 10.2). -/
def defaultCharge : Image :=
  [(0x000, 1), (0x001, 34464), (0x002, 1), (0x003, 14200), (0x004, 2000), (0x005, 11800), (0x006, 500), (0x007, 300),
   (0x008, 150), (0x009, 60000), (0x00B, 16000), (0x00C, 20000), (0x00D, 1800)]

/-- Outlet fields (Section 4.2). -/
def defaultOutlets : Image :=
  [(0x010, 1), (0x011, 6000), (0x012, 20000), (0x015, 500), (0x016, 10000), (0x018, 1), (0x019, 10000),
   (0x01A, 40000), (0x01C, 2), (0x01D, 400), (0x01E, 10000), (0x020, 1), (0x021, 400), (0x022, 10000), (0x024, 2),
   (0x025, 20000), (0x026, 60000), (0x029, 1000), (0x02A, 10000), (0x02C, 2), (0x02D, 500), (0x02E, 10000),
   (0x030, 3), (0x031, 8000), (0x032, 20000), (0x034, 1), (0x035, 4000), (0x036, 20000), (0x038, 1), (0x039, 1500),
   (0x03A, 10000), (0x03C, 2), (0x03D, 1500), (0x03E, 10000), (0x040, 2), (0x041, 1500), (0x042, 10000), (0x044, 2),
   (0x045, 1500), (0x046, 10000), (0x048, 2), (0x049, 1500), (0x04A, 10000), (0x04C, 2), (0x04D, 1500),
   (0x04E, 10000)]

/-- Water, climate, mover and wind fields. -/
def defaultBlocks : Image :=
  [(0x050, 1000), (0x051, 800), (0x052, 450), (0x053, 1), (0x054, 30), (0x055, 20), (0x056, 5), (0x058, 1),
   (0x059, 200), (0x05A, 1), (0x05B, 160), (0x05C, 1), (0x05D, 80), (0x05F, 9500), (0x060, 2500), (0x061, 240),
   (0x062, 180), (0x064, 4000), (0x065, 600), (0x066, 800), (0x067, 300), (0x068, 300), (0x069, 75), (0x06A, 800),
   (0x06B, 300), (0x06C, 60), (0x06D, 12), (0x06E, 1), (0x06F, 40), (0x070, 7)]

/-- The default roster (Section 2.3). -/
def defaultRoster : Image :=
  [(0x078, 8), (0x080, 1), (0x081, 1), (0x082, 65535), (0x083, 2), (0x084, 2), (0x085, 2), (0x086, 65535),
   (0x087, 2), (0x088, 3), (0x089, 3), (0x08A, 65535), (0x08B, 5), (0x08C, 4), (0x08D, 4), (0x08F, 5), (0x090, 5),
   (0x091, 4), (0x092, 1), (0x093, 5), (0x094, 6), (0x095, 4), (0x096, 2), (0x097, 5), (0x098, 7), (0x099, 5),
   (0x09A, 65535), (0x09B, 1), (0x09C, 8), (0x09D, 6), (0x09E, 65535), (0x09F, 2)]

/-- The built-in defaults: no host terms (R186). -/
def default : Image := withSum (defaultCharge ++ defaultOutlets ++ defaultBlocks ++ defaultRoster)

/-! ### Validation (R180) -/

/-- A field check: the first failure is kept. -/
def need (o : Nat) (ok : Bool) (rest : Option (Nat × Nat)) : Option (Nat × Nat) := if ok then rest else some (o, 0)

def between (lo v hi : Nat) : Bool := decide (lo ≤ v) && decide (v ≤ hi)
def betweenInt (lo v hi : Int) : Bool := decide (lo ≤ v) && decide (v ≤ hi)

/-- Run a list of (offset, in range) checks in order. -/
def needAll : List (Nat × Bool) → Option (Nat × Nat)
  | [] => none
  | (o, ok) :: l => need o ok (needAll l)

def chargeChecks (i : Image) : List (Nat × Bool) :=
  [(0x000, word i 0 == 1), (0x001, between 20000 (capacity i) 1000000), (0x003, between 12500 (fullPoint i) 15500),
   (0x004, between 100 (tailCurrent i) 20000),
   (0x005, between 10500 (emptyPoint i) 12400 && decide (emptyPoint i + 500 ≤ fullPoint i)),
   (0x006, between 100 (shedPoint i 1) 900),
   (0x007, between 100 (shedPoint i 2) 900 && decide (shedPoint i 2 + 100 ≤ shedPoint i 1)),
   (0x008, between 100 (shedPoint i 3) 900 && decide (shedPoint i 3 + 100 ≤ shedPoint i 2)),
   (0x009, between 10000 (batteryLimit i) 150000), (0x00B, between 0 (shoreAllowance i) 50000),
   (0x00C, between 0 (alternatorAllowance i) 50000), (0x00D, between 60 (restDelay i) 86400)]

def outletChecks (i : Image) (n : Nat) : List (Nat × Bool) :=
  [(0x010 + 4 * n, if n = 1 then outletClass i n == 0 else between 0 (outletClass i n) 3),
   (0x011 + 4 * n, between 100 (rated i n) 30000),
   (0x012 + 4 * n, between 1000 (fullScale i n) 100000 && decide (rated i n ≤ fullScale i n))]

def waterChecks (i : Image) : List (Nat × Bool) :=
  [(0x050, between 50 (freshCapacity i) 10000), (0x051, between 50 (greyCapacity i) 10000),
   (0x052, between 50 (fillPulses i) 5000), (0x053, between 0 (num i 0x053) 1),
   (0x054, betweenInt (heatThreshold i + 5) (padThreshold i) 80),
   (0x055, betweenInt (dumpThreshold i + 5) (heatThreshold i) 60), (0x056, betweenInt 0 (dumpThreshold i) 30)]

def zoneChecks (i : Image) (z : Nat) : List (Nat × Bool) :=
  [(0x059 + 2 * z, betweenInt 50 (zoneTarget i z) 300), (0x05A + 2 * z, between 0 (num i (0x05A + 2 * z)) 1)]

def climateChecks (i : Image) : List (Nat × Bool) :=
  [(0x058, between 0 (num i 0x058) 2)] ++ (zoneChecks i 0 ++ zoneChecks i 1 ++ zoneChecks i 2) ++
  [(0x05F, between 1000 (startCurrent i) (rated i 2)), (0x060, between 500 (runCurrent i) (startCurrent i)),
   (0x061, between 60 (ignitionLimit i) 600), (0x062, between 60 (cooldownMinimum i) 599)]

def moverFieldChecks (i : Image) (m : Mover) (lo hi : Nat) : List (Nat × Bool) :=
  let b := 0x066 + 4 * moverIndex m
  [(b, between 100 (runDuty i m) 1000), (b + 1, between 100 (creepDuty i m) (runDuty i m)),
   (b + 2, between 0 (creepCounts i m) (travel i m)), (b + 3, between lo (moveLimit i m) hi)]

def moverChecks (i : Image) : List (Nat × Bool) :=
  [(0x064, between 1000 (travel i .awning) 4000), (0x065, between 200 (travel i .step) 600)] ++
  moverFieldChecks i .awning 20 180 ++ moverFieldChecks i .step 5 60 ++
  [(0x06E, between 0 (num i 0x06E) 1), (0x06F, between 10 (windLimit i) 120), (0x070, between 1 (windFactor i) 100),
   (0x078, between 0 (rosterCount i) 12)]

/-- Records 0 to r - 1 that satisfy `p`. -/
def earlier (p : Nat → Bool) (r : Nat) : Nat := ((List.range r).filter p).length

/-- R180: the role is known, within its per-role limit over records 0 to r, and a zone index is not taken twice. -/
def roleOk (i : Image) (r : Nat) : Bool :=
  match role i r with
  | none => false
  | some .frostProbe => decide (earlier (fun k => role i k == some .frostProbe) r < 5)
  | some .zoneProbe =>
    earlier (fun k => role i k == some .zoneProbe && zoneIndex i k == zoneIndex i r) r == 0
  | some x => earlier (fun k => role i k == some x) r == 0

/-- R180: the checks of one roster record. That a repeated address fails at the later record's address word is the model's choice (log
entry 49). -/
def rosterChecks (i : Image) (r : Nat) : List (Nat × Bool) :=
  let b := 0x080 + 4 * r
  [(b, between 1 (address i r) 15 && earlier (fun k => address i k == address i r) r == 0),
   (b + 1, roleOk i r),
   (b + 2, if role i r = some .zoneProbe then between 0 (zoneIndex i r) 2 else word i (b + 2) == Config.noneWord),
   (b + 3, between 1 (pollPeriod i r) 60)]

/-- R99 on host terms t, t + 1, … of the image; the failure names its offset and reason. -/
def termChecks (i : Image) (t : Nat) : Nat → Option (Nat × Nat)
  | 0 => none
  | n + 1 =>
    match TermRec.check (term i t) with
    | some (reason, w) => some (0x100 + 16 * t + w, reason)
    | none => termChecks i (t + 1) n

/-- The field checks in ascending order of offset, SUM not yet checked: (offset, reason) of the first failure. -/
def fieldCheck (i : Image) : Option (Nat × Nat) :=
  needAll (chargeChecks i) <|> needAll ((List.range 16).flatMap (outletChecks i)) <|> needAll (waterChecks i)
    <|> needAll (climateChecks i) <|> needAll (moverChecks i)
    <|> needAll ((List.range (rosterCount i)).flatMap (rosterChecks i))
    <|> needAll [(0x0B0, between 0 (termCount i) 16)] <|> termChecks i 0 (termCount i)

/-- R180: the first failing check as (offending offset, reason), or none for a valid image. -/
def validate (i : Image) : Option (Nat × Nat) :=
  fieldCheck i <|> (if word i 0x200 = sum i then none else some (0x200, 1))

/-- Section 10.3, R186: the load result of a sector; it is blank where all 513 words read 0xFFFF. A sector that a failed VERIFY left with
every field in range and SUM correct is VALID by R180 and is loaded, where R184 has the next start find a failed store not VALID: the
model's choice (log entry 62). -/
def judge (i : Image) : LoadResult :=
  if word i 0 = 0xFFFF then
    (if i.length = 0x201 ∧ i.all (fun c => c.2 == 0xFFFF) = true then .blank else .incomplete)
  else
    match fieldCheck i with
    | some _ => .badField
    | none => if word i 0x200 = sum i then .valid else .badSum

/-! ### SETTINGS_FETCH form (R181) -/

/-- The offsets that Section 10.2 lists: the fields, the roster records 0 to 11 and the host terms 0 to 15. -/
def listed (o : Nat) : Bool :=
  decide (o < 0x00F) || between 0x010 o 0x056 || between 0x058 o 0x062 || between 0x064 o 0x070 || o == 0x078 ||
    between 0x080 o 0x0B0 || between 0x100 o 0x1FF

/-- The image SETTINGS_FETCH writes: ignored offsets 0 and SUM computed anew. -/
def fetchForm (i : Image) : Image := withSum (i.filter fun c => listed c.1)

/-- The image of a list of words from offset 0. -/
def ofWords (o : Nat) : List Word → Image
  | [] => []
  | w :: l => if w = 0 then ofWords (o + 1) l else (o, w) :: ofWords (o + 1) l

end Image

end Sys2Proof.Machine
end

