-- ==== Sys2Proof/Machine/State.lean ====
section
/-!
DEFINITION. The state of the UT-430: plain data, holding every register, list, buffer, counter, mode and pin of the spec
(INVENTORY.md lists them with their rules), the queue of waiting commands, and the state right after a power-on.
-/
namespace Sys2Proof.Machine

/-! ### Exchange area (Chapter 1) -/

/-- The exchange RAM, by region of Section 1.1, each keyed by exchange word address. -/
structure Ram where
  slots : Mem := []
  digest : Mem := []
  scenes : Mem := []
  staging : Mem := []
  window : Mem := []
  deriving DecidableEq, Repr

/-- The port's registers (Section 1.8.1) and the notice unit's cause words (R20). -/
structure Port where
  attnEn : Bool := false
  autoClr : Bool := false
  notice : BitVec 10 := 0
  mask : BitVec 10 := 1
  valid : Bool := false
  further : Bool := false
  kind : BitVec 3 := 0
  addr : BitVec 13 := 0
  causes : Vector (BitVec 32) 10 := Vector.replicate 10 0
  bus : Word := 0
  deriving DecidableEq, Repr

/-- An entry of the held set (R11). -/
structure Held where
  slot : Fin 32
  claimed : Option (Fin 32)
  released : Option Nat
  deriving DecidableEq, Repr

structure Dispatcher where
  intake : List (Fin 32) := []
  held : List Held := []
  nextRelease : Nat := 0
  owners : List (Fin 32 × Block) := []
  deriving DecidableEq, Repr

/-! ### Input pins -/

/-- A filtered input: the level on the pin and the level the filter has taken. -/
structure Line where
  raw : Bool := false
  level : Bool := false
  deriving DecidableEq, Repr

structure Pins where
  ignition : Line := {}
  engineRun : Line := {}
  shorePresent : Line := {}
  door : Line := {}
  pressureLow : Line := {}
  stow0 : Line := {}
  stow1 : Line := {}
  out1 : Line := {}
  service : Bool := false
  reset : Bool := false
  deriving DecidableEq, Repr

/-! ### Charge monitor (Chapter 3) -/

/-- The tally record (R46). -/
structure Tally where
  capacity : Nat
  charge : Nat
  acc : Int
  synced : Bool
  fullCount : Nat
  emptyCount : Nat
  deriving DecidableEq, Repr

structure Charge where
  power : PowerState
  tally : Tally
  socLevel : Nat
  floor : Bool
  floorEntry : Nat
  floorExit : Nat
  hostFloor : Nat
  shedLevel : Nat
  shore : Bool
  alternator : Bool
  solar : Bool
  idle : Nat
  lastFloat : Option CmdResult
  limit : Nat
  volts : Nat
  amps : Int
  deriving DecidableEq, Repr

/-! ### Outlets (Chapter 4) -/

/-- An outlet record (R64); the configured fields are read from the active settings. The request order and the grant order of an outlet
that has had neither a request nor a grant are 0 (log entry 52). -/
structure Outlet where
  demand : Option Demand := none
  state : OutletState := .off
  charge : Nat := 0
  requestOrder : Nat := 0
  grantOrder : Nat := 0
  measured : Nat := 0
  sum : Nat := 0
  samples : Nat := 0
  whole : Bool := false
  overMs : Nat := 0
  inhibit : Nat := 0
  held : Bool := false
  pullIn : Bool := false
  deriving DecidableEq, Repr

structure Outlets where
  table : Vector Outlet 16 := Vector.replicate 16 {}
  nextRequest : Nat := 1
  nextGrant : Nat := 1
  shedLevel : Nat
  limit : Nat
  heater : SeqState := .off
  duty : Nat := 0
  deriving DecidableEq, Repr

/-! ### Interlock engine (Chapter 5) -/

/-- A host term in the term table with its active flag (Section 5.3). -/
structure Term where
  record : TermRec
  active : Bool
  deriving DecidableEq, Repr

structure Interlock where
  signals : Signals
  terms : List Term := []
  builtIn : List Bool := List.replicate 6 false
  blockAwning : Nat := 0
  blockStep : Nat := 0
  evaluated : Bool := false
  deriving DecidableEq, Repr

/-! ### Water (Chapter 6) -/

structure Pump where
  auto : Bool
  state : PumpState := .idle
  timer : Nat := 0
  cause : DryCause := .none
  entry : Option Nat := none
  deriving DecidableEq, Repr

/-- The fill record (Section 6.4), with the valve state last reported to it. -/
structure Fill where
  slot : Fin 32
  target : Nat
  pulses : Nat := 0
  flow : Nat := 0
  wait : Nat := 0
  valve : OutletState := .off
  deriving DecidableEq, Repr

structure Frost where
  temp : Option Int := none
  stage : Stage := .watch
  padTimer : Nat := 0
  heatTimer : Nat := 0
  padOn : Bool := false
  delivered : Bool := false
  blind : Bool := false
  grace : Nat := 0
  latch : Bool := false
  deriving DecidableEq, Repr

structure Water where
  fresh : Option Nat := none
  grey : Option Nat := none
  pump : Pump
  fill : Option Fill := none
  frost : Frost := {}
  deriving DecidableEq, Repr

/-! ### Climate (Chapter 7) -/

/-- A zone record (R122). -/
structure Zone where
  hostTarget : Int
  hostOn : Bool
  target : Int
  on : Bool
  measured : Option Int := none
  demand : Bool := false
  deficit : Nat := 0
  deriving DecidableEq, Repr

/-- The heater sequencer's record (R129). -/
structure Sequencer where
  state : SeqState := .off
  failed : Nat := 0
  lockout : Bool := false
  ran : Bool := false
  elevation : Bool := false
  clearPending : Bool := false
  started : Nat := 0
  phase : Nat := 0
  runOn : Nat := 0
  retry : Nat := 0
  supply : OutletState := .off
  last : Option UnitReading := none
  deriving DecidableEq, Repr

structure Climate where
  mode : ClimateMode
  zones : Vector Zone 3
  frost : Bool := false
  demand : Bool := false
  level : Nat := 1
  seq : Sequencer := {}
  stopAtActive : Bool := false
  deriving DecidableEq, Repr

/-! ### Movers (Chapter 8) -/

/-- A move record (R141); `ending` marks a move whose release request has been answered (R155). -/
structure Move where
  tag : MoveTag
  dir : Dir
  target : Target
  run : Nat
  creep : Nat
  creepCounts : Nat
  driving : Bool := false
  creeping : Bool := false
  timer : Nat := 0
  stall : Nat := 0
  grant : Nat := 0
  report : OutletState := .off
  ending : Bool := false
  deriving DecidableEq, Repr

structure MoverRec where
  state : MoverState := .unknown
  position : Nat := 0
  known : Bool := false
  lastDir : Option Dir := none
  move : Option Move := none
  lastAuto : Option Outcome := none
  deriving DecidableEq, Repr

/-- The mover controller: two records, the bridge semaphore (R145), the wind measurement (R158). That the wind speed is 0 from a start to
the first second close is the model's choice (log entry 28). -/
structure Movers where
  awning : MoverRec := {}
  step : MoverRec := {}
  owner : Option Mover := none
  pendingAwning : Bool := false
  pendingStep : Bool := false
  windPulses : Nat := 0
  windSpeed : Nat := 0
  windSet : Nat := 0
  windClear : Nat := 0
  windHigh : Bool := false
  deriving DecidableEq, Repr

/-! ### Lighting (Chapter 9) -/

structure Channel where
  output : Nat := 0
  target : Nat := 0
  rampStep : Nat := 1
  owner : Option LightOwner := none
  shedDark : Bool := false
  deriving DecidableEq, Repr

structure CacheEntry where
  scene : Fin 32 := 0
  valid : Bool := false
  copy : List Word := List.replicate 16 0
  deriving DecidableEq, Repr

/-- A recall or LIGHT_SET in hand, with what it reports at its arrival (R172). -/
structure Recall where
  owner : LightOwner
  retargeted : Nat
  hit : Bool
  deriving DecidableEq, Repr

structure Lights where
  channels : Vector Channel 6 := Vector.replicate 6 {}
  cache : Vector CacheEntry 8 := Vector.replicate 8 {}
  pointer : Fin 8 := 0
  recalls : List Recall := []
  /-- The model's own: the number of the next entry recall (log entry 35). -/
  nextEntry : Nat := 0
  lastEntry : Option Outcome := none
  deriving DecidableEq, Repr

/-! ### Node link (Chapter 2) -/

/-- The controller's fields of a roster record (Section 2.3); `due` and `lastEnd` in ms of part time. -/
structure Node where
  state : NodeState := .unseen
  misses : Nat := 0
  lastMiss : MissKind := .none
  reading : Option (List Word) := none
  faulty : Bool := false
  age : Nat := 0
  stale : Bool := true
  scaled : Bool := false
  due : Option Nat := none
  lastEnd : Nat := 0
  deriving DecidableEq, Repr

/-- The transaction in flight (R28). -/
structure Txn where
  record : Fin 12
  cmd : LinkCmd
  deriving DecidableEq, Repr

structure Link where
  nodes : Vector Node 12 := Vector.replicate 12 {}
  phase : LinkPhase := .startQuiet
  txn : Option Txn := none
  /-- The words of the request being sent, each with its parity bit (R28). -/
  request : List (Word × Bool) := []
  heater : Option HeaterEntry := none
  solar : Bool := false
  remainder : Option Nat := none
  remainderDue : Bool := false
  deriving DecidableEq, Repr

/-! ### Settings store and start (Chapter 10) -/

/-- The flash sector (R184). `cells` is what it holds while `tear` is whole; `source` is the image a begun program writes. -/
structure Flash where
  cells : Mem := []
  tear : Tear := .whole
  source : Image := []
  ops : Nat := 0
  deriving DecidableEq, Repr

structure Store where
  phase : StorePhase := .idle
  slot : Option (Fin 32) := none
  buffer : Image := []
  flash : Flash := {}
  result : LoadResult
  defaults : Bool
  active : Image
  deriving DecidableEq, Repr

/-- A mover's fields of the retained record. -/
structure Kept where
  position : Nat := 0
  known : Bool := false
  moving : Bool := false
  deriving DecidableEq, Repr

/-- The retained record (R185). -/
structure Retained where
  charge : Nat := 0
  acc : Int := 0
  synced : Bool := false
  heater : Bool := false
  latch : Bool := false
  awning : Kept := {}
  step : Kept := {}
  deriving DecidableEq, Repr

/-! ### The whole -/

structure State where
  /-- The commands that wait, first in first out. -/
  pending : List Instr
  ram : Ram
  port : Port
  disp : Dispatcher
  pins : Pins
  /-- Part time, s (R186). -/
  time : Nat
  charge : Charge
  outlets : Outlets
  interlock : Interlock
  water : Water
  climate : Climate
  movers : Movers
  lights : Lights
  link : Link
  store : Store
  retained : Retained
  start : StartKind
  /-- The model's own: a cascade of reactions ran past the model's bound (assumption log 16). -/
  overrun : Bool
  /-- The model's own: the restarts requested by a CONTROL write so far, the index of a free value (assumption log 19). -/
  restarts : Nat
  deriving DecidableEq, Repr

/-- No command of this block stops with a fault: there is no constructor, and nobody raises one. -/
inductive Fault where
  deriving DecidableEq, Repr

inductive Refusal where
  /-- A command whose meaning is not written yet; raised by `exec` alone. Safe: nothing is claimed of such a command. -/
  | notModelled (mnemonic : String)
  deriving DecidableEq, Repr

/-- The zone records of the built-in defaults (R140). -/
def State.resetZones : Vector Zone 3 :=
  #v[{ hostTarget := 200, hostOn := true, target := 200, on := true },
     { hostTarget := 160, hostOn := true, target := 160, on := true },
     { hostTarget := 80, hostOn := false, target := 80, on := false }]

/-- The machine right after a power-on with an erased sector and every input low: STARTING, the built-in defaults active, every
block in its power-on state (R26, R62, R87, R101, R121, R140, R162, R176, R42, R186; log entries 2 and 28). -/
def State.reset : State where
  pending := []
  ram := {}
  port := {}
  disp := {}
  pins := {}
  time := 0
  charge :=
    { power := .starting
      tally := { capacity := 100000, charge := 50000, acc := 0, synced := false, fullCount := 0, emptyCount := 0 }
      socLevel := 1, floor := false, floorEntry := 0, floorExit := 0, hostFloor := 0, shedLevel := 1
      shore := false, alternator := false, solar := false, idle := 0, lastFloat := none, limit := 60000
      volts := 0, amps := 0 }
  outlets := { shedLevel := 1, limit := 60000 }
  interlock := { signals := #v[0, 0, 0, 0, 0, 0, 1, 0, 0, 0, 0, 0, 0, 0, 0, 0] }
  water := { pump := { auto := true } }
  climate := { mode := .frostOnly, zones := State.resetZones }
  movers := {}
  lights := {}
  link := {}
  store := { result := .blank, defaults := true, active := Image.default }
  retained := { charge := 50000 }
  start := .powerOn
  overrun := false
  restarts := 0

end Sys2Proof.Machine
end

