-- ==== Sys2Proof/Machine/Ops.lean ====
section
/-!
DEFINITION. The named operations over the exchange area and the record tables: slot words and the completion service (R17 to R19),
notices (R20, R21, R23), the port-fault capture (R24), the digest writer's update (R177), outlet and node records, the
idle timer's conditions (R58).
-/
namespace Sys2Proof.Machine

/-! ### Slots (Section 1.2) -/

/-- Word `i` of slot `n`. -/
def slotWord (s : State) (n : Fin 32) (i : Nat) : Word := Mem.read 0 s.ram.slots (16 * n.val + i)

def setSlotWord (n : Fin 32) (i : Nat) (v : Word) (s : State) : State :=
  { s with ram := { s.ram with slots := Mem.write 0 s.ram.slots (16 * n.val + i) v } }

def slotState (s : State) (n : Fin 32) : SlotState := SlotState.ofWord (slotWord s n 0)

def setSlotState (n : Fin 32) (x : SlotState) (s : State) : State := setSlotWord n 0 x.code s

/-- Parameter p`i` of a slot. -/
def param (s : State) (n : Fin 32) (i : Nat) : Word := slotWord s n (3 + i)

def follower (s : State) (n : Fin 32) : Bool := (slotWord s n 1).getLsbD 15

def followOn (s : State) (n : Fin 32) : Word := slotWord s n 2

/-- The slot number a FOLLOW_ON word names. -/
def slotOf (w : Word) : Option (Fin 32) := if h : w.toNat < 32 then some ⟨w.toNat, h⟩ else none

/-! ### The digest writer (R177) -/

def digestWord (s : State) (a : Nat) : Word := Mem.read 0 s.ram.digest a

/-- One update: UPDATE COUNT made odd, the words written, UPDATE COUNT advanced again. A command is whole, so only the sum of the
two advances can be seen. -/
def updateMem (cells : List (Nat × Word)) (d : Mem) : Mem :=
  let e := Mem.writeCells 0 d cells
  Mem.write 0 e 0x200 (Mem.read 0 e 0x200 + 2)

def digestUpdate (cells : List (Nat × Word)) (s : State) : State :=
  { s with ram := { s.ram with digest := updateMem cells s.ram.digest } }

/-! ### Notices (R20 to R24) -/

/-- The digest words of a group's causes (Section 10.1.1): ORDERS has two. -/
def causeCells (g : Group) (c : BitVec 32) : List (Nat × Word) :=
  match g with
  | .start => [(0x3A0, c.setWidth 16)]
  | .orders => [(0x3A1, c.setWidth 16), (0x3A2, (c >>> 16).setWidth 16)]
  | .energy => [(0x3A3, c.setWidth 16)]
  | .outlets => [(0x3A4, c.setWidth 16)]
  | .water => [(0x3A5, c.setWidth 16)]
  | .climate => [(0x3A6, c.setWidth 16)]
  | .movers => [(0x3A7, c.setWidth 16)]
  | .lights => [(0x3A8, c.setWidth 16)]
  | .link => [(0x3A9, c.setWidth 16)]
  | .port => [(0x3AA, c.setWidth 16)]

/-- Cause bit `n`. -/
def bit (n : Nat) : BitVec 32 := BitVec.ofNat 32 (2 ^ n)

/-- R20 without the digest: the causes are ORed in and the group is pending. -/
def markNotice (g : Group) (bits : BitVec 32) (s : State) : State :=
  { s with port := { s.port with
      notice := s.port.notice ||| BitVec.ofNat 10 (2 ^ g.index.val)
      causes := s.port.causes.set g.index (s.port.causes[g.index] ||| bits) } }

/-- R20: raise a notice; its cause word is written in an update of its own (R177). -/
def raise (g : Group) (bits : BitVec 32) (s : State) : State :=
  let s := markNotice g bits s
  digestUpdate (causeCells g s.port.causes[g.index]) s

def groups : List Group :=
  [.start, .orders, .energy, .outlets, .water, .climate, .movers, .lights, .link, .port]

def isPending (s : State) (g : Group) : Bool := s.port.notice.getLsbD g.index.val

/-- R21: one group's pending bit and causes, the digest apart; PORT releases the capture (R24). -/
def dropGroup (g : Group) (s : State) : State :=
  let s := { s with port := { s.port with
    notice := s.port.notice &&& ~~~(BitVec.ofNat 10 (2 ^ g.index.val))
    causes := s.port.causes.set g.index 0 } }
  if g = .port then { s with port := { s.port with valid := false, further := false, kind := 0, addr := 0 } } else s

/-- R21, R177: clear these groups, which are pending, in one action: their cause words are emptied in one update. -/
def clearPending : List Group → State → State
  | [], s => s
  | g :: l, s =>
    digestUpdate ((g :: l).flatMap fun g => causeCells g 0) ((g :: l).foldl (fun s g => dropGroup g s) s)

/-- R21: clear one group if it is pending. -/
def clearGroup (g : Group) (s : State) : State := clearPending ([g].filter (isPending s)) s

/-- R21: a host write to NOTICE clears the pending groups whose bits are 1. -/
def clearGroups (v : Word) (l : List Group) (s : State) : State :=
  clearPending (l.filter fun g => v.getLsbD g.index.val && isPending s g) s

/-- R24: capture a rejected write. -/
def portFault (k : PortFault) (addr : BitVec 13) (s : State) : State :=
  if s.port.valid then { s with port := { s.port with further := true } }
  else raise .port 1 { s with port := { s.port with valid := true, further := false, kind := k.code, addr := addr } }

/-! ### Completion service and chains (R17 to R19) -/

/-- R9: OUTCOME, r0 to r2, STAMP, and the state word last. -/
def writeFinish (n : Fin 32) (f : Finish) (stamp : Nat) (s : State) : State :=
  let s := setSlotWord n 11 f.outcome.code s
  let s := setSlotWord n 12 f.r0 s
  let s := setSlotWord n 13 f.r1 s
  let s := setSlotWord n 14 f.r2 s
  let s := setSlotWord n 15 (Word.nat stamp) s
  setSlotState n (if f.outcome = .ok then .done else .failed) s

def dropOwner (n : Fin 32) (s : State) : State :=
  { s with disp := { s.disp with owners := s.disp.owners.filter fun e => e.1 != n } }

/-- R17 up to the chain effect: the slot's words, its owner-table entry, the ORDERS notice. -/
def service (n : Fin 32) (f : Finish) (s : State) : State :=
  raise .orders (bit n.val) (dropOwner n (writeFinish n f s.time s))

def heldOf (s : State) (n : Fin 32) : Option Held := s.disp.held.find? fun h => h.slot == n

def dropHeld (n : Fin 32) (s : State) : State :=
  { s with disp := { s.disp with held := s.disp.held.filter fun h => h.slot != n } }

def dropIntake (n : Fin 32) (s : State) : State :=
  { s with disp := { s.disp with intake := s.disp.intake.filter fun m => m != n } }

/-- The follower a leader holds claimed (R18, R19). -/
def claimedBy (s : State) (n : Fin 32) : Option (Fin 32) :=
  (s.disp.held.find? fun h => h.claimed == some n && h.released.isNone).map (·.slot)

/-- R18: release the follower, taking the next position in the order of release. -/
def release (f : Fin 32) (s : State) : State :=
  { s with disp := { s.disp with
      held := s.disp.held.map fun h => if h.slot = f then { h with released := some s.disp.nextRelease } else h
      nextRelease := s.disp.nextRelease + 1 } }

/-- R19: fail the follower and run on down its FOLLOW_ON; at most 31 steps. -/
def chainBreak : Nat → Fin 32 → State → State
  | 0, _, s => s
  | k + 1, f, s =>
    let s := service f { outcome := .chainBroken } (dropHeld f s)
    match slotOf (followOn s f) with
    | none => s
    | some g =>
      match heldOf s g with
      | some h => if h.claimed = none then chainBreak k g s else s
      | none => s

/-- R18, R19: the chain effect of a finished leader. -/
def chainEffect (n : Fin 32) (o : Outcome) (s : State) : State :=
  match claimedBy s n with
  | none => s
  | some f => if o = .ok then release f s else chainBreak 32 f s

/-- R17: finish a slot. -/
def finish (n : Fin 32) (f : Finish) (s : State) : State := chainEffect n f.outcome (service n f s)

/-- R16: the state word becomes TAKEN and the owner table gains the slot, which breaks an idle condition (R58). -/
def takeLong (n : Fin 32) (b : Block) (s : State) : State :=
  let s := setSlotState n .taken s
  { s with
    disp := { s.disp with owners := (n, b) :: s.disp.owners }
    charge := { s.charge with idle := 0 } }

/-! ### Record tables -/

def outlet (s : State) (o : Fin 16) : Outlet := s.outlets.table[o]

def setOutlet (o : Fin 16) (x : Outlet) (s : State) : State :=
  { s with outlets := { s.outlets with table := s.outlets.table.set o x } }

def outletsAll : List (Fin 16) := List.finRange 16

/-- The sum of the charges of the outlets in ON (R64). -/
def grantedTotal (s : State) : Nat := (s.outlets.table.toList.map (·.charge)).sum

def node (s : State) (i : Fin 12) : Node := s.link.nodes[i]

def setNode (i : Fin 12) (x : Node) (s : State) : State :=
  { s with link := { s.link with nodes := s.link.nodes.set i x } }

/-- The active settings. -/
def cfg (s : State) : Image := s.store.active

/-- The records of the roster, in roster order. -/
def roster (s : State) : List (Fin 12) := (List.finRange 12).filter fun i => decide (i.val < Image.rosterCount (cfg s))

def roleOf (s : State) (i : Fin 12) : Option Role := Image.role (cfg s) i.val

/-- The record of a role that has at most one. -/
def recordOf (s : State) (r : Role) : Option (Fin 12) := (roster s).find? fun i => roleOf s i == some r

def channel (s : State) (c : Fin 6) : Channel := s.lights.channels[c]

def setChannel (c : Fin 6) (x : Channel) (s : State) : State :=
  { s with lights := { s.lights with channels := s.lights.channels.set c x } }

/-- The outlet of a light channel (Section 4.2). -/
def lightOutlet (c : Fin 6) : Fin 16 := ⟨10 + c.val, by omega⟩

def mover (s : State) : Mover → MoverRec
  | .awning => s.movers.awning
  | .step => s.movers.step

/-- R144, R185: a mover's record; position, known and moving go to the retained record with it. -/
def setMover (m : Mover) (x : MoverRec) (s : State) : State :=
  let k : Kept := { position := x.position, known := x.known, moving := x.state.moving }
  match m with
  | .awning => { s with movers := { s.movers with awning := x }, retained := { s.retained with awning := k } }
  | .step => { s with movers := { s.movers with step := x }, retained := { s.retained with step := k } }

def zone (s : State) (z : Fin 3) : Zone := s.climate.zones[z]

def setZone (z : Fin 3) (x : Zone) (s : State) : State :=
  { s with climate := { s.climate with zones := s.climate.zones.set z x } }

def sigVal (s : State) (g : Signal) : Nat := s.interlock.signals[g.index]

/-- A block count (R96). -/
def blockCount (s : State) : Mover → Nat
  | .awning => s.interlock.blockAwning
  | .step => s.interlock.blockStep

def setBlockCount (m : Mover) (k : Nat) (s : State) : State :=
  match m with
  | .awning => { s with interlock := { s.interlock with blockAwning := k } }
  | .step => { s with interlock := { s.interlock with blockStep := k } }

/-! ### Host-owned state by field -/

def setIdle (n : Nat) (s : State) : State := { s with charge := { s.charge with idle := n } }

def setSeq (f : Sequencer → Sequencer) (s : State) : State :=
  { s with climate := { s.climate with seq := f s.climate.seq } }

def setPump (f : Pump → Pump) (s : State) : State := { s with water := { s.water with pump := f s.water.pump } }

def setFrost (f : Frost → Frost) (s : State) : State := { s with water := { s.water with frost := f s.water.frost } }

def setLink (f : Link → Link) (s : State) : State := { s with link := f s.link }

def setTally (f : Tally → Tally) (s : State) : State := { s with charge := { s.charge with tally := f s.charge.tally } }

end Sys2Proof.Machine
end

