-- ==== Sys2Proof/Machine/Flags.lean ====
section
/-!
DEFINITION. Values computed from the state: ATTN (R22), the register words (Section 1.8.1), SoC (R46), effective classes and
shedding (R66, R67), the idle conditions (R58), tank volumes (R103), the metered volume (R110), usable readings (R32), the
drive outputs (R65).
-/
namespace Sys2Proof.Machine

/-- R22: ATTN. -/
def attn (s : State) : Bool := s.port.attnEn && (s.port.notice &&& s.port.mask) != 0

/-- CONTROL as it reads: RESTART reads 0 (Section 1.8.1). -/
def controlWord (s : State) : Word := (if s.port.autoClr then 2 else 0) + (if s.port.attnEn then 1 else 0)

/-- PORT FAULT as it reads (Section 1.8.1). -/
def portFaultWord (s : State) : Word :=
  (if s.port.valid then 0x8000 else 0) + (if s.port.further then 0x4000 else 0) + s.port.kind.setWidth 16

/-- R46: charge × 1000 / capacity, fraction discarded. -/
def soc (s : State) : Nat := s.charge.tally.charge * 1000 / s.charge.tally.capacity

/-- The configured class of an outlet (R64). -/
def configuredClass (s : State) (o : Fin 16) : Class := Image.outletClass (cfg s) o.val

/-- The heater sequencer states that make the supply PROTECTED (R66). -/
def supplyProtected : SeqState → Bool
  | .igniting | .running | .stopping | .unitLost => true
  | _ => false

/-- R66: PROTECTED (rank 0) in effect, or the configured class. -/
def effClass (s : State) (o : Fin 16) : Class :=
  let d := (outlet s o).demand
  if o = 5 ∧ (d.bind (·.dir)) = some .inward then 0
  else if o = 2 ∧ (supplyProtected s.outlets.heater || (match d with | some x => x.elevated | none => false)) = true then 0
  else configuredClass s o

/-- R67: the class is shed at shed level n. -/
def classShed (c : Class) (n : Nat) : Bool := c != 0 && decide (4 ≤ c + n)

/-- R67: the outlet is shed at the held level. -/
def isShed (s : State) (o : Fin 16) : Bool := classShed (effClass s o) s.outlets.shedLevel

def requested (s : State) (o : Fin 16) : Nat :=
  match (outlet s o).demand with
  | some d => d.charge
  | none => 0

/-- R68 step 3: the request fits. -/
def fits (s : State) (o : Fin 16) : Bool := decide (grantedTotal s + requested s o ≤ s.outlets.limit)

def ratedOf (s : State) (o : Fin 16) : Nat := Image.rated (cfg s) o.val

/-- R58 for one outlet: ON, and not DRAIN VALVE, TANK PAD or SPLIT RELAY. -/
def keepsAwake (s : State) (o : Fin 16) : Bool :=
  o != 1 && o != 9 && o != 6 && (outlet s o).state == .on

/-- R58, R60: the first broken idle condition by its code, 0 when all hold. -/
def idleBroken (s : State) : Nat :=
  if s.disp.owners ≠ [] then 1
  else if s.movers.awning.state.moving || s.movers.step.state.moving then 2
  else if outletsAll.any (keepsAwake s) then 3
  else if s.pins.door.level then 4
  else if s.pins.ignition.level then 5
  else 0

/-- R58: a broken condition holds the idle timer at 0. -/
def idleCheck (s : State) : State := if idleBroken s = 0 then s else setIdle 0 s

/-- R32: present, not stale, not faulty. -/
def usable (n : Node) : Option (List Word) := if n.stale || n.faulty then none else n.reading

/-- R103: level × capacity / 1000, fraction discarded. -/
def volume (level : Option Nat) (capacity : Nat) : Option Nat := level.map fun l => l * capacity / 1000

/-- R110: pulse count × 10 / pulses per litre, fraction discarded. -/
def metered (s : State) (f : Fill) : Nat := f.pulses * 10 / Image.fillPulses (cfg s)

/-- R137, R134, R130: the configured class of outlet 2 is shed at the present shed level. -/
def supplyClassShed (s : State) : Bool := classShed (configuredClass s 2) s.charge.shedLevel

/-- Held dark: target above 0 and the outlet not ON (R164). -/
def heldDark (s : State) (c : Fin 6) : Bool :=
  decide (0 < (channel s c).target) && (outlet s (lightOutlet c)).state != .on

/-- R164: the output equals the target, or the channel is held dark. -/
def arrived (s : State) (c : Fin 6) : Bool := (channel s c).output == (channel s c).target || heldDark s c

/-- A duration that counts whole seconds has reached its limit. -/
def expired (count limit : Nat) : Bool := decide (limit ≤ count)

/-! ### Drive outputs (R65) -/

/-- The light channel of an outlet from 10 upward. -/
def channelOf (o : Fin 16) : Option (Fin 6) := if h : 10 ≤ o.val then some ⟨o.val - 10, by omega⟩ else none

/-- The duty on DRVo, per mille: 0 while the outlet is not ON. -/
def drive (s : State) (o : Fin 16) : Nat :=
  if (outlet s o).state ≠ .on then 0
  else if o = 1 ∨ o = 7 then (if (outlet s o).pullIn then 1000 else Config.valveHoldDuty)
  else if o = 5 then s.outlets.duty
  else match channelOf o with
    | some c => (channel s c).output
    | none => 1000

/-- BRA is active while BRIDGE is ON outward. -/
def driveBra (s : State) : Bool :=
  (outlet s 5).state == .on && ((outlet s 5).demand.bind (·.dir)) == some .out

/-- BRB is active while BRIDGE is ON inward. -/
def driveBrb (s : State) : Bool :=
  (outlet s 5).state == .on && ((outlet s 5).demand.bind (·.dir)) == some .inward

end Sys2Proof.Machine
end

