-- ==== Sys2Proof/Machine/Digest.lean ====
section
/-!
DEFINITION. The state digest (Section 10.1): the words each block shows, the update of a block's changes (R177), the measurements
of the second close (R178), the full update (R179).
-/
namespace Sys2Proof.Machine

/-- Addressed words from `a` upward. -/
def cellsFrom (a : Nat) : List Word → List (Nat × Word)
  | [] => []
  | w :: l => (a, w) :: cellsFrom (a + 1) l

def optWord (none : Word) : Option Word → Word
  | some w => w
  | _ => none

def optNat (x : Option Nat) : Word := optWord Config.noneWord (x.map Word.nat)

/-- Temperatures: absent is 0x8000. -/
def optTemp (x : Option Int) : Word := optWord 0x8000 (x.map Word.int)

def optOutcome (x : Option Outcome) : Word := optWord Config.noneWord (x.map Outcome.code)

def bits (l : List Bool) : Word := BitVec.ofNat 16 (l.foldr (fun b n => 2 * n + (if b then 1 else 0)) 0)

/-- The words of the layout by the record they show. The words of one action's records go into one update (log entry 15). -/
inductive Part where
  | charge | outlets | interlock | water | climate | mover (m : Mover) | bridge | channel (c : Fin 6) | cache | link | store
  deriving DecidableEq, Repr

/-- The status word 0x204: it shows a flag of the charge monitor's and one of the interlock engine's. -/
def statusCell (s : State) : Nat × Word :=
  (0x204, bits [s.store.defaults, !s.charge.tally.synced, s.interlock.builtIn.getD 5 false])

def storeWords (s : State) : List (Nat × Word) :=
  (0x205, s.store.result.code) ::
  cellsFrom 0x207 [s.store.phase.code, optNat (s.store.slot.map (·.val)), Word.flag s.pins.service]

def chargeWords (s : State) : List (Nat × Word) :=
  let c := s.charge
  [(0x201, c.power.code), statusCell s] ++
  cellsFrom 0x210 [Word.nat c.shedLevel, Word.nat c.socLevel, Word.nat c.hostFloor, Word.flag c.floor, Word.nat (soc s)] ++
  cellsFrom 0x218 [Word.nat c.tally.charge, Word.natHi c.tally.charge, Word.nat c.tally.capacity, Word.natHi c.tally.capacity] ++
  [(0x21D, bits [c.shore, c.alternator, c.solar]), (0x220, Word.nat c.limit), (0x221, Word.natHi c.limit),
   (0x226, optWord 0 (c.lastFloat.map CmdResult.code))]

def outletStateWord (s : State) (o : Fin 16) : Word :=
  let x := outlet s o
  x.state.code + Word.nat (effClass s o * 16) + (if x.held then 0x100 else 0) + (if x.demand.isSome then 0x200 else 0)

def outletWords (s : State) : List (Nat × Word) :=
  [(0x222, Word.nat (grantedTotal s)), (0x223, Word.natHi (grantedTotal s))] ++
  outletsAll.flatMap fun o =>
    let x := outlet s o
    cellsFrom (0x230 + 6 * o.val) [outletStateWord s o, Word.nat x.inhibit, Word.nat x.charge, Word.natHi x.charge]

def signalsWords (s : State) : List (Nat × Word) :=
  cellsFrom 0x371 ((s.interlock.signals.toList.drop 1).map Word.nat)

def interlockWords (s : State) : List (Nat × Word) :=
  let k := s.interlock
  statusCell s :: signalsWords s ++
  cellsFrom 0x380 [bits k.builtIn, bits (k.terms.map (·.active)), Word.nat k.terms.length, Word.nat k.blockAwning,
    Word.nat k.blockStep]

def waterWords (s : State) : List (Nat × Word) :=
  let w := s.water
  let m := (w.fill.map (metered s)).getD 0
  cellsFrom 0x290
    [optNat w.fresh, optNat (volume w.fresh (Image.freshCapacity (cfg s))), Word.flag w.fresh.isNone,
     optNat w.grey, optNat (volume w.grey (Image.greyCapacity (cfg s))), Word.flag w.grey.isNone,
     Word.flag w.pump.auto, w.pump.state.code, w.pump.cause.code, optNat w.pump.entry,
     optNat (w.fill.map (·.slot.val)), Word.nat m, Word.natHi m, optTemp w.frost.temp, Word.nat w.frost.stage.code] ++
  cellsFrom 0x2A1 [Word.flag w.frost.delivered, Word.flag w.frost.blind, Word.flag w.frost.latch]

def unitWords (s : State) : List (Nat × Word) :=
  match s.climate.seq.last with
  | some u => cellsFrom 0x2B9 [u.phase.code, Word.nat u.fault, Word.nat u.level, if u.faulty then 2 else 1]
  | none => cellsFrom 0x2B9 [Config.absentWord 0x2B9, Config.absentWord 0x2BA, Config.absentWord 0x2BB, 0]

def zoneWords (s : State) (z : Fin 3) : List (Nat × Word) :=
  let x := zone s z
  cellsFrom (0x2C0 + 5 * z.val) [Word.int x.target, Word.flag x.on, optTemp x.measured, Word.flag x.demand, Word.nat x.deficit]

def climateWords (s : State) : List (Nat × Word) :=
  let c := s.climate
  let q := c.seq
  cellsFrom 0x2B0
    [c.mode.code, Word.flag c.demand, Word.nat c.level, Word.flag c.frost, q.state.code, Word.nat q.failed,
     bits [q.lockout, q.ran, q.elevation, q.clearPending], Word.nat q.started, q.supply.code] ++
  unitWords s ++ zoneWords s 0 ++ zoneWords s 1 ++ zoneWords s 2

def moveTag : Option Move → Word
  | none => 0xFFFF
  | some v => match v.tag with
    | .host n => Word.nat n.val
    | .retract => 0xFFFE
    | .extend => 0xFFFD

def targetWord : Target → Word
  | .count n => Word.nat n
  | .stop => 0xFFFF

def moveWords (a : Nat) : Option Move → List Word
  | none => (List.range 7).map fun k => Config.absentWord (a + k)
  | some v => [v.dir.code, targetWord v.target, Config.movePhaseCode v.driving, Config.moveSegmentCode v.creeping,
      Word.nat v.run, Word.nat v.creep, Word.nat v.creepCounts]

def lastDirWord : Option Dir → Word
  | none => Config.lastDirectionCode 0
  | some .out => Config.lastDirectionCode 1
  | some .inward => Config.lastDirectionCode 2

/-- A mover's words but its position (R178). -/
def moverWords (s : State) (m : Mover) : List (Nat × Word) :=
  let x := mover s m
  let a := 0x2D0 + 12 * moverIndex m
  (a, x.state.code) ::
  cellsFrom (a + 2) ([Word.flag x.known, lastDirWord x.lastDir, moveTag x.move] ++ moveWords (a + 5) x.move)

def positionCell (s : State) (m : Mover) : Nat × Word :=
  (0x2D1 + 12 * moverIndex m, Word.nat (mover s m).position)

/-- A mover's last automatic outcome; Section 10.1.1 gives no coding for NONE, so that word is free (log entry 5). -/
def lastAutoWord (a : Nat) (x : MoverRec) : Word := optWord (Config.absentWord a) (x.lastAuto.map Outcome.code)

def bridgeWords (s : State) : List (Nat × Word) :=
  let v := s.movers
  cellsFrom 0x2E8 [optNat (v.owner.map moverIndex), bits [v.pendingAwning, v.pendingStep]] ++
  cellsFrom 0x2EB [Word.flag v.windHigh, lastAutoWord 0x2EC v.awning, lastAutoWord 0x2ED v.step]

def ownerWord : Option LightOwner → Word
  | none => 0xFFFF
  | some (.entry _) => 0xFFFE
  | some (.host n) => Word.nat n.val

/-- A channel's words but its output level (R178). -/
def channelWords (s : State) (c : Fin 6) : List (Nat × Word) :=
  let x := channel s c
  cellsFrom (0x2F1 + 3 * c.val) [Word.nat x.target + (if x.shedDark then 0x8000 else 0), ownerWord x.owner]

def outputCell (s : State) (c : Fin 6) : Nat × Word := (0x2F0 + 3 * c.val, Word.nat (channel s c).output)

def cacheWords (s : State) : List (Nat × Word) :=
  cellsFrom 0x302
    (s.lights.cache.toList.map (fun e => Word.nat e.scene.val + (if e.valid then 0x8000 else 0)) ++
      [Word.nat s.lights.pointer.val, optOutcome s.lights.lastEntry])

/-- The words of a reading; a word the reading does not have has no coding. -/
def readingWords (a : Nat) (r : Option (List Word)) : List Word :=
  (List.range 3).map fun k =>
    match (r.getD [])[k]? with
    | some w => w
    | none => Config.absentWord (a + k)

/-- A roster record's words but its reading age. -/
def nodeWords (s : State) (i : Fin 12) : List (Nat × Word) :=
  let n := node s i
  let a := 0x310 + 8 * i.val
  if i.val < Image.rosterCount (cfg s) then
    cellsFrom a [n.state.code, Word.nat n.misses, n.lastMiss.code, bits [n.reading.isSome, n.faulty, n.stale]] ++
    cellsFrom (a + 5) (readingWords (a + 5) n.reading)
  else cellsFrom a [0, 0, 0, 0] ++ cellsFrom (a + 5) [0, 0, 0]

def linkWords (s : State) : List (Nat × Word) :=
  (0x206, Word.nat (Image.rosterCount (cfg s))) :: (List.finRange 12).flatMap (nodeWords s)

/-- The words whose change makes an update. -/
def partWords (s : State) : Part → List (Nat × Word)
  | .charge => chargeWords s
  | .outlets => outletWords s
  | .interlock => interlockWords s
  | .water => waterWords s
  | .climate => climateWords s
  | .mover m => moverWords s m
  | .bridge => bridgeWords s
  | .channel c => channelWords s c
  | .cache => cacheWords s
  | .link => linkWords s
  | .store => storeWords s

/-- The measurement that goes into the same update (R178). -/
def partExtra (s : State) : Part → List (Nat × Word)
  | .mover m => [positionCell s m]
  | .channel c => [outputCell s c]
  | _ => []

/-- A record's words with its measurement, unless the digest shows its words already. -/
def staleCells (s : State) (p : Part) : List (Nat × Word) :=
  if (partWords s p).all (fun c => digestWord s c.1 == c.2) then [] else partWords s p ++ partExtra s p

/-- What an action that changed these records hands the writer: `moved` are records whose measurement is written whatever their
words (R178), of `l` those with a changed word. -/
def actionCells (s : State) (moved l : List Part) : List (Nat × Word) :=
  moved.flatMap (fun p => partWords s p ++ partExtra s p) ++ l.flatMap (staleCells s)

/-- R177: the one update of an action, if it has a word to write. -/
def showCells (cells : List (Nat × Word)) (s : State) : State :=
  { s with ram := { s.ram with digest := if cells = [] then s.ram.digest else updateMem cells s.ram.digest } }

/-- The end of an action of which no word has been written yet. Before the full update of a start the digest still shows other words
than the blocks' start states (R179), so what an action has changed is written at the command's end (`showStart`). -/
def showAction (moved l : List Part) (s : State) : State :=
  showCells (if s.charge.power = .starting then [] else actionCells s moved l) s

/-- The words of these records that differ from what they were in `old`. -/
def changedCells (old s : State) (l : List Part) : List (Nat × Word) :=
  l.flatMap fun p => (partWords s p).filter fun c => !(partWords old p).contains c

/-- R177: the one update of an action that began at `old` and changed these records alone. -/
def showChange (l : List Part) (old s : State) : State := showCells (changedCells old s l) s

/-- The update of one record's changes. -/
def syncPart (p : Part) (s : State) : State := showAction [] [p] s

def parts : List Part :=
  [.charge, .outlets, .interlock, .water, .climate, .mover .awning, .mover .step, .bridge, .channel 0, .channel 1,
   .channel 2, .channel 3, .channel 4, .channel 5, .cache, .link, .store]

def channelParts : List Part := (List.finRange 6).map Part.channel

def syncAll : List Part → State → State
  | [], s => s
  | p :: l, s => syncAll l (syncPart p s)

/-- What a command ends with: the changes of its own action, and every other left over, are in the digest. -/
def close (s : State) : State := syncAll parts s

/-- R178: what a command that began at `old` changed of one record and the digest does not show yet, with its measurement. -/
def startCells (old s : State) (p : Part) : List (Nat × Word) :=
  let l := changedCells old s [p]
  if l = [] then [] else (l ++ partExtra s p).filter fun c => digestWord s c.1 != c.2

/-- R178 in STARTING: the changes of a command, one update for each record; a word that it did not change waits for the full update
(R179, log entry 15). -/
def showStart (old : State) : List Part → State → State
  | [], s => s
  | p :: l, s => showStart old l (showCells (startCells old s p) s)

/-- What a command that began at `old` ends with, in every power state. -/
def closeFrom (old s : State) : State :=
  if s.charge.power = .starting then (if s.pins.reset then s else showStart old parts s) else close s

/-- The charge current of a usable solar reading, 0 otherwise (Section 10.1.1). -/
def solarWords (s : State) : List Word :=
  match (recordOf s .solar).bind fun i => usable (node s i) with
  | some r => [r.getD 0 0, r.getD 1 0]
  | none => [0, 0]

/-- R178: the measurements. -/
def measurements (s : State) : List (Nat × Word) :=
  let c := s.charge
  [(0x202, Word.nat s.time), (0x203, Word.natHi s.time), (0x215, Word.nat c.volts), (0x216, Word.int c.amps),
   (0x217, Word.intHi c.amps), (0x21C, Word.int c.tally.acc)] ++ cellsFrom 0x21E (solarWords s) ++
  [(0x224, Word.nat c.idle), (0x225, Word.natHi c.idle), (0x227, Word.nat c.tally.fullCount),
   (0x228, Word.nat c.tally.emptyCount)] ++
  (outletsAll.flatMap fun o =>
    cellsFrom (0x234 + 6 * o.val) [Word.nat (outlet s o).measured, Word.natHi (outlet s o).measured]) ++
  [(0x29F, Word.nat s.water.frost.padTimer), (0x2A0, Word.nat s.water.frost.heatTimer), positionCell s .awning,
   positionCell s .step, (0x2EA, Word.nat s.movers.windSpeed)] ++
  (List.finRange 6).map (outputCell s) ++
  (roster s).map fun i => (0x314 + 8 * i.val, Word.nat (node s i).age)

/-- R45, R178: what the second close writes beside the measurements: the charge, the state of charge, and every word of the charge
monitor's that its steps changed from `old`. -/
def secondCells (old s : State) : List (Nat × Word) :=
  ((chargeWords s).filter fun c => c.1 == 0x214 || c.1 == 0x218 || c.1 == 0x219) ++ changedCells old s [.charge]

/-- R45, R177, R178: the measurements in one update, once each second and in every power state. -/
def measure (old s : State) : State := digestUpdate (measurements s ++ secondCells old s) s

/-- The cause words of every group. -/
def allCauses (s : State) : List (Nat × Word) := groups.flatMap fun g => causeCells g s.port.causes[g.index]

/-- Every word of the layout (R179). -/
def layout (s : State) : List (Nat × Word) :=
  parts.flatMap (fun p => partWords s p ++ partExtra s p) ++ measurements s ++
  ((List.range 12).map fun i => (0x314 + 8 * i, if i < Image.rosterCount (cfg s) then Word.nat (node s (Fin.ofNat 12 i)).age else 0)) ++
  allCauses s

/-- R179: the full update; the count is made odd, or left odd, and then even. -/
def fullUpdate (s : State) : State :=
  let d := s.ram.digest
  let n := Mem.read 0 d 0x200
  let odd := if n.getLsbD 0 then n else n + 1
  { s with ram := { s.ram with digest := Mem.write 0 (Mem.writeCells 0 d (layout s)) 0x200 (odd + 1) } }

end Sys2Proof.Machine
end

