-- ==== Sys2Proof/Machine/Acts.lean ====
section
/-!
DEFINITION. The steps of a cascade. One command sets off a chain of actions of several blocks; each is an `Act`, and `Run` is the
stack of acts still to do, with what R85 needs: the requests owners made in answer to reports, the outlet actions and the evaluations
in progress, the outlet changes to report.
-/
namespace Sys2Proof.Machine

/-- What an owner asks of the outlet controller: R68, R70, R71, and the sequencer state of R66. -/
inductive Req where
  | demand (o : Fin 16) (d : Demand)
  | withdraw (o : Fin 16)
  | charge (o : Fin 16) (mA : Nat)
  | heater (h : SeqState)
  deriving DecidableEq, Repr

/-- The goal of a revocation pass (R69). -/
inductive Goal where
  | room (o : Fin 16) | limit
  deriving DecidableEq, Repr

/-- How a fill ends (R110 to R112). -/
inductive FillEnd where
  | done (full : Bool)
  | failed (o : Outcome) (r2 : Word)
  deriving DecidableEq, Repr

inductive Act where
  -- the outlet controller
  | req (r : Req)
  | take (r : Req)
  | drain
  | action (ops : List Act)
  | arbiterIf
  | restore (room : Bool)
  | flush
  | flushEnd
  | actEnd
  | judge (o : Fin 16)
  | preempt (o : Fin 16)
  | pass (g : Goal)
  | ask (o : Fin 16) (c : Cut)
  | cut (o : Fin 16) (c : Cut)
  | cutRest
  | rejudge (o : Fin 16) (old : Class)
  | arbiter
  | consider (o : Fin 16)
  | clearTrip (o : Fin 16)
  | tripDone (n : Fin 32) (o : Fin 16)
  | trip (o : Fin 16)
  | rises (l : List (Fin 16 × Nat))
  | fall (o : Fin 16) (k : Nat)
  | shedLevel (n : Nat)
  | limit (n : Nat)
  | overLimit (within : Bool)
  | report (o : Fin 16) (old new : OutletState)
  -- the interlock engine
  | signal (g : Signal) (v : Nat)
  | blockRise (m : Mover) (k : Nat)
  | blockFall (m : Mover) (k : Nat)
  | notices (codes : List Nat) (travel : Bool)
  | evalEnd
  | resume (acting : Nat)
  -- notices, slots and the digest
  | raise (g : Group) (b : BitVec 32)
  | finish (n : Fin 32) (f : Finish)
  | shown (moved l : List Part)
  -- charge monitor
  | solar
  | floatResult (r : CmdResult)
  | shedEval
  | limitEval
  -- node link
  | post (e : HeaterEntry)
  | postFloat
  | result (c : HeaterCmd) (r : CmdResult) (atOnce : Bool)
  -- water
  | freshPump
  | freshFill
  | pumpStart
  | pumpDry (c : DryCause)
  | fillEnd (e : FillEnd)
  | fillFinish (e : FillEnd)
  | frostTemp (reading : Bool)
  | stage (t : Stage) (extra : BitVec 32)
  | stageFill (t : Stage)
  | stageLeave (old new : Stage)
  | stageBegin (old new : Stage)
  | drainLatch
  | delivered (b : Bool)
  -- climate
  | zoneFollow (z : Fin 3)
  | heatDemand
  | frostDemand (b : Bool)
  | seqFrost (b : Bool)
  | seqShed
  | seqDemand
  | seqLevel
  | heaterTest
  | enter (new : SeqState) (causes : BitVec 32)
  | seqReport
  | seqFlags
  | igniting
  | running
  | stopping (lower : Bool)
  | startFail (causes : BitVec 32)
  | runJudge
  | runShed
  | cooldownEnd
  | unitReading (u : Option UnitReading) (returned : Bool)
  | unitLost
  | offFaulty
  -- movers
  | blockBegins (m : Mover)
  | stowSignal (m : Mover)
  | claim (m : Mover)
  | moveEnd (m : Mover) (f : Outcome) (r2 : Word)
  | moveFree (m : Mover)
  | moveResult (m : Mover) (f : Outcome) (r2 : Word)
  | serveRelease
  | retract (m : Mover)
  | extension
  -- lighting
  | doorScene
  | recallOn (l : List Word) (n : LightOwner) (hit : Bool) (cs : List (Fin 6)) (lost : List (LightOwner × Fin 6))
  | applied (n : LightOwner) (retargeted : Nat) (hit : Bool)
  | supersede (old new : LightOwner) (c : Fin 6)
  | recallTest (n : LightOwner)
  | ramp (c : Fin 6)

/-- A cascade in progress. -/
structure Run where
  st : State
  work : List Act
  deferred : List Req := []
  acting : Nat := 0
  evals : Nat := 0
  changed : List (Fin 16 × OutletState × OutletState) := []
  told : Bool := false
  room : Bool := false
  revoked : Bool := false

/-- A block's reaction: its own change and the acts it sets off. -/
abbrev React := State × List Act

namespace Run

def push (r : Run) (l : List Act) : Run := { r with work := l ++ r.work }

def onState (f : State → State) (r : Run) : Run := { r with st := f r.st }

def react (f : State → React) (r : Run) : Run := { r with st := (f r.st).1, work := (f r.st).2 ++ r.work }

end Run

/-- A reaction that is a whole action of its block: the words it changes of these records go into one update. -/
def showing (l : List Part) (f : State → React) (s : State) : React := (showChange l s (f s).1, (f s).2)

/-- A reaction whose action ends after the acts it sets off: then its changes of these records go into one update. -/
def closing (moved l : List Part) (f : State → React) (s : State) : React := ((f s).1, (f s).2 ++ [.shown moved l])

end Sys2Proof.Machine
end

