-- ==== Sys2Proof/Machine/OutletOps.lean ====
section
/-!
DEFINITION. The outlet controller (Chapter 4): demands, decision, waiting order and arbiter, revocation, shedding, inhibits,
release requests, reports in order of change (R68 to R78, R85).
-/
namespace Sys2Proof.Machine

/-- Grant an outlet (step 3 of R68): ON, its charge reserved, a new grant order, sampling from the start, the valve pulled in. Its
measured current is 0 until its first whole second in ON has closed (log entry 44). -/
def grantOutlet (o : Fin 16) (s : State) : State :=
  let x := outlet s o
  let s := setOutlet o { x with
    state := .on, charge := requested s o, grantOrder := s.outlets.nextGrant, measured := 0, sum := 0, samples := 0,
    whole := false, overMs := 0, pullIn := decide (o = 1 ∨ o = 7) } s
  { s with outlets := { s.outlets with nextGrant := s.outlets.nextGrant + 1 } }

/-- Put an outlet into a state other than ON, its charge released and its sampling stopped. -/
def darkOutlet (o : Fin 16) (new : OutletState) (s : State) : State :=
  let x := outlet s o
  setOutlet o { x with
    state := new, charge := 0, measured := 0, sum := 0, samples := 0, whole := false, overMs := 0, pullIn := false } s

def setDemand (o : Fin 16) (d : Option Demand) (s : State) : State := setOutlet o { outlet s o with demand := d } s

/-- A new request age (R68). -/
def newRequest (o : Fin 16) (s : State) : State :=
  let s := setOutlet o { outlet s o with requestOrder := s.outlets.nextRequest } s
  { s with outlets := { s.outlets with nextRequest := s.outlets.nextRequest + 1 } }

namespace Run

/-- The outlet changes from its present state; the change is reported when the action's reports go out. -/
def dark (o : Fin 16) (new : OutletState) (r : Run) : Run :=
  let old := (outlet r.st o).state
  { r with
    st := darkOutlet o new r.st
    changed := r.changed ++ [(o, old, new)]
    room := r.room || old == .on }

def grant (o : Fin 16) (r : Run) : Run :=
  { r with st := grantOutlet o r.st, changed := r.changed ++ [(o, (outlet r.st o).state, .on)] }

/-- R68: the decision. -/
def judge (o : Fin 16) (r : Run) : Run :=
  if (outlet r.st o).inhibit ≠ 0 then r.dark o .inhibited
  else if isShed r.st o then r.dark o .shed
  else if fits r.st o then r.grant o
  else if effClass r.st o = 0 then r.push [.preempt o]
  else r.dark o .waiting

/-- R69: the outlets in ON that are not PROTECTED, the lowest class and in it the youngest grant first. -/
def candidate (s : State) : Option (Fin 16) :=
  outletsAll.foldl (fun best o =>
    if (outlet s o).state = .on ∧ effClass s o ≠ 0 then
      match best with
      | none => some o
      | some b =>
        if effClass s b < effClass s o ∨ (effClass s b = effClass s o ∧ (outlet s b).grantOrder < (outlet s o).grantOrder)
        then some o else best
    else best) none

def goalMet (s : State) : Goal → Bool
  | .room o => fits s o
  | .limit => decide (grantedTotal s ≤ s.outlets.limit)

/-- R69: the end of a pass. A preemption grants anyway and reports what it did, unless an owner's answer to a release request has
meanwhile brought an inhibit or a shed upon the outlet (R68; log entry 37). -/
def passEnd (g : Goal) (r : Run) : Run :=
  match g with
  | .limit => r
  | .room o =>
    let within := decide (grantedTotal r.st ≤ r.st.outlets.limit)
    let r := if r.revoked then r.onState (raise .outlets (bit 13)) else r
    if (outlet r.st o).inhibit ≠ 0 then r.dark o .inhibited
    else if isShed r.st o then r.dark o .shed
    else (r.grant o).push [.overLimit within]

/-- R73: a pass down to the limit; the charge it releases is no room, so no arbiter run follows it. Where the pass revokes the BRIDGE, R79
has the arbiter run once its cut releases the charge; that R73 stands there too is the model's choice (log entry 13). -/
def passLimit (r : Run) : List Act := [.pass .limit, .restore r.room]

/-- R73: OVER_LIMIT when the granted total has passed from within the limit to above it. -/
def overLimit (within : Bool) (r : Run) : Run :=
  if within && decide (r.st.outlets.limit < grantedTotal r.st) then r.onState (raise .outlets (bit 15)) else r

/-- R69: revoke the first candidate, or end the pass; owner-released outlets by the sequence of R78. -/
def pass (g : Goal) (r : Run) : Run :=
  if goalMet r.st g then r.passEnd g
  else
    match candidate r.st with
    | none => r.passEnd g
    | some c =>
      if c = 2 ∨ c = 5 then r.push [.ask c .revoked, .cut c .revoked, .pass g]
      else { (r.dark c .waiting) with revoked := true }.push [.pass g]

/-- R78: the cut after the owner's answer, unless the answer made the outlet PROTECTED. -/
def cut (o : Fin 16) (c : Cut) (r : Run) : Run :=
  if (outlet r.st o).state = .on ∧ effClass r.st o ≠ 0 then
    match c with
    | .shed => r.dark o .shed
    | .revoked => { (r.dark o .waiting) with revoked := true }
  else r

/-- R74: an outlet in ON or WAITING that is shed. -/
def toShed (s : State) (o : Fin 16) : Bool :=
  ((outlet s o).state == .on || (outlet s o).state == .waiting) && isShed s o

/-- R74: all the remaining cuts together, in outlet-number order. -/
def cutRest (r : Run) : Run := (outletsAll.filter (toShed r.st)).foldl (fun r o => r.dark o .shed) r

/-- R74: release requests go out for shed outlets 2 and 5 that are ON. -/
def askShed (s : State) (o : Fin 16) : List Act :=
  if (outlet s o).state = .on ∧ isShed s o then [.ask o .shed, .cut o .shed] else []

/-- R75: every SHED outlet no longer shed goes WAITING. -/
def unshed (r : Run) : Run :=
  (outletsAll.filter fun o => (outlet r.st o).state == .shed && !isShed r.st o).foldl (fun r o => r.dark o .waiting) r

/-- R74, R75: a new shed level from the charge monitor. Where one rise sheds both 2 and 5, outlet 2 is asked first (log entry 45). -/
def shedLevel (n : Nat) (r : Run) : Run :=
  let old := r.st.outlets.shedLevel
  let r := r.onState fun s => { s with outlets := { s.outlets with shedLevel := n } }
  if old < n then r.push [.action (askShed r.st 2 ++ askShed r.st 5 ++ [.cutRest])]
  else if n < old then (r.unshed).push [.action [.arbiter]]
  else r

/-- R73: a new budget limit. -/
def limit (n : Nat) (r : Run) : Run :=
  let old := r.st.outlets.limit
  let within := decide (grantedTotal r.st ≤ old)
  let r := r.onState fun s => { s with outlets := { s.outlets with limit := n } }
  if old < n then r.push [.action [.arbiter]]
  else if n < old then r.push [.action (passLimit { r with room := false } ++ [.overLimit within])]
  else r

/-- R77: re-judge an outlet whose effective class was `old`. -/
def rejudge (o : Fin 16) (old : Class) (r : Run) : Run :=
  if effClass r.st o = old then r
  else
    match (outlet r.st o).state with
    | .on =>
      if isShed r.st o then
        (if o = 2 ∨ o = 5 then r.push [.ask o .shed, .cut o .shed] else r.dark o .shed)
      else if effClass r.st o = 0 then r
      else r.push (passLimit r)
    | .waiting =>
      if isShed r.st o then r.dark o .shed
      else if effClass r.st o = 0 then r.push [.preempt o]
      else r
    | .shed =>
      if isShed r.st o then r
      else if effClass r.st o = 0 then r.push [.judge o]
      else (r.dark o .waiting).push [.arbiter]
    | _ => r

/-- R72: the waiting order, by effective class and then by request order. -/
def before (s : State) (a b : Fin 16) : Bool :=
  decide (effClass s a < effClass s b) ||
    (effClass s a == effClass s b && decide ((outlet s a).requestOrder ≤ (outlet s b).requestOrder))

def insertWaiting (s : State) (o : Fin 16) : List (Fin 16) → List (Fin 16)
  | [] => [o]
  | p :: l => if before s p o then p :: insertWaiting s o l else o :: p :: l

def waitingOrder (s : State) : List (Fin 16) :=
  (outletsAll.filter fun o => (outlet s o).state == .waiting).foldl (fun l o => insertWaiting s o l) []

/-- R72: one run of the arbiter over the waiting order. -/
def arbiter (r : Run) : Run := push { r with room := false } ((waitingOrder r.st).map Act.consider)

def consider (o : Fin 16) (r : Run) : Run :=
  if (outlet r.st o).state = .waiting then
    if isShed r.st o then r.dark o .shed
    else if fits r.st o then r.grant o
    else if effClass r.st o = 0 then r.push [.preempt o]
    else r
  else r

/-- R82: a trip. -/
def trip (o : Fin 16) (r : Run) : Run := (r.dark o .tripped).onState (raise .outlets (bit 14))

/-- R83: an outlet leaves TRIPPED, to OFF or as a fresh request through the decision. -/
def clearTrip (o : Fin 16) (r : Run) : Run :=
  if (outlet r.st o).demand.isNone then r.dark o .off else (r.onState (newRequest o)).push [.judge o]

/-- R76: the count rises of one evaluation, together. -/
def rises (l : List (Fin 16 × Nat)) (r : Run) : Run :=
  l.foldl (fun r p =>
    let x := outlet r.st p.1
    let r := r.onState (setOutlet p.1 { x with inhibit := x.inhibit + p.2 })
    if x.inhibit = 0 ∧ (x.state = .on ∨ x.state = .waiting ∨ x.state = .shed) then r.dark p.1 .inhibited else r) r

/-- R76: one count fall. -/
def fall (o : Fin 16) (k : Nat) (r : Run) : Run :=
  let x := outlet r.st o
  let r := r.onState (setOutlet o { x with inhibit := x.inhibit - k })
  if x.inhibit - k = 0 ∧ x.state = .inhibited then r.push [.judge o] else r

/-- R71: a changed charge of a standing demand. -/
def takeCharge (o : Fin 16) (mA : Nat) (r : Run) : Run :=
  let x := outlet r.st o
  match x.demand with
  | none => r
  | some d =>
    if d.charge = mA then r
    else if x.state = .on then
      if mA < x.charge then
        { r.onState (setOutlet o { x with demand := some { d with charge := mA }, charge := mA }) with
          room := true, changed := r.changed ++ [(o, .on, .on)] }
      else r.push [.take (.withdraw o), .arbiterIf, .take (.demand o { d with charge := mA })]
    else r.onState (setDemand o (some { d with charge := mA }))

/-- R68: a raised demand, by the outlet's state. -/
def takeDemand (o : Fin 16) (d : Demand) (r : Run) : Run :=
  let x := outlet r.st o
  match x.state, x.demand with
  | .off, _ => (r.onState fun s => newRequest o (setDemand o (some d) s)).push [.judge o]
  | .tripped, _ => { r.onState (setDemand o (some d)) with changed := r.changed ++ [(o, .tripped, .tripped)] }
  | _, some d0 =>
    let old := effClass r.st o
    (r.onState (setDemand o (some { d with charge := d0.charge }))).push [.rejudge o old, .take (.charge o d.charge)]
  | _, none => r

/-- R70: a withdrawal. -/
def takeWithdraw (o : Fin 16) (r : Run) : Run :=
  match (outlet r.st o).state with
  | .off | .tripped => r.onState (setDemand o none)
  | _ => (r.onState (setDemand o none)).dark o .off

/-- R66: the sequencer state reported by the climate controller. -/
def takeHeater (h : SeqState) (r : Run) : Run :=
  let old := effClass r.st 2
  (r.onState fun s => { s with outlets := { s.outlets with heater := h } }).push [.rejudge 2 old]

def takeReq : Req → Run → Run
  | .demand o d, r => r.takeDemand o d
  | .withdraw o, r => r.takeWithdraw o
  | .charge o mA, r => r.takeCharge o mA
  | .heater h, r => r.takeHeater h

/-- An action of the controller: its operations, then the reports and the arbiter (`flush`). An action inside another keeps its
own account of released charge. -/
def action (ops : List Act) (r : Run) : Run :=
  push { r with acting := r.acting + 1, room := false } (ops ++ [Act.flush, Act.actEnd, Act.restore r.room])

/-- A request is taken as an action of the controller, or as part of the one in progress. -/
def take (q : Req) (r : Run) : Run := if r.acting = 0 then r.action [.take q] else takeReq q r

/-- R85: a request made in answer to a report waits for the end of the action. -/
def req (q : Req) (r : Run) : Run :=
  if r.acting = 0 then r.push [.take q] else { r with deferred := r.deferred ++ [q] }

/-- R85: the waiting requests, in the order the owners made them. -/
def drain (r : Run) : Run :=
  match r.deferred with
  | [] => r
  | q :: l => { r with deferred := l }.push [.take q, .drain]

def arbiterIf (r : Run) : Run := if r.room then r.push [.arbiter] else r

/-- R85, R72: the owners are told in the order the outlets changed, one at a time, so that an action set off by one report tells the
changes still waiting before its own; then the charge monitor and the digest; then the arbiter runs if charge was released (R74,
R82), and the owners are told of its grants. -/
def flush (r : Run) : Run :=
  match r.changed with
  | c :: l => push { r with changed := l, told := true } [.report c.1 c.2.1 c.2.2, .flush]
  | [] =>
    if r.told then push { r with told := false } [.flushEnd, .flush]
    else if r.room then r.push [.arbiter, .flush]
    else r

def drainIfDone (r : Run) : Run := if r.acting = 0 ∧ r.evals = 0 then r.push [.drain] else r

/-- The end of an action: what it changed without a report (an inhibit count, a demand) goes to the digest. -/
def actEnd (r : Run) : Run := ({ r with acting := r.acting - 1 }.onState (syncPart .outlets)).drainIfDone

/-- The end of an evaluation's hand-out: the waiting requests are taken once no evaluation is in progress (R85). -/
def evalEnd (r : Run) : Run := { r with evals := r.evals - 1 }.drainIfDone

/-- R85 puts off what owners ask in answer to a report. Block begins is no report: what the mover asks in answer to it is taken at once,
so that step 2 of R94 and the steps of R149 in it are finished before step 3, also in an evaluation inside an action (log entry 38). -/
def apart (r : Run) : Run := { r.push [.resume r.acting] with acting := 0 }

/-- The sequencer's state goes to the outlet controller as it is taken; only a withdrawal of the supply made before it and still
waiting comes first (R129). -/
def seqReport (r : Run) : Run :=
  let h := r.st.climate.seq.state
  if r.deferred.contains (.withdraw 2) then { r with deferred := r.deferred ++ [.heater h] } else r.push [.take (.heater h)]

end Run

end Sys2Proof.Machine
end

