-- ==== Sys2Proof/Machine/InterlockOps.lean ====
section
/-!
DEFINITION. The interlock engine (Chapter 5): evaluation on a signal change (R93), the hand-out of net changes (R94), the replacement
of the host set (R100), the initial evaluation (R102).
-/
namespace Sys2Proof.Machine

/-- A term whose active flag changed: its effect, and whether it became active. -/
abbrev Change := Effect × Bool

/-- R93: the number of terms with this effect that became active less the number that became inactive. -/
def net (l : List Change) (e : Effect) : Int :=
  (l.map fun c => if c.1 = e then (if c.2 then 1 else -1) else (0 : Int)).sum

def netRises (l : List Change) : List (Fin 16 × Nat) :=
  outletsAll.filterMap fun o =>
    let k := net l (.inhibit o.val)
    if 0 < k then some (o, k.toNat) else none

def netFalls (l : List Change) : List Act :=
  outletsAll.filterMap fun o =>
    let k := net l (.inhibit o.val)
    if k < 0 then some (.action [.fall o (-k).toNat]) else none

def blockRiseActs (l : List Change) (m : Mover) : List Act :=
  let k := net l (.blockOut m)
  if 0 < k then [.blockRise m k.toNat] else []

def blockFallActs (l : List Change) (m : Mover) : List Act :=
  let k := net l (.blockOut m)
  if k < 0 then [.blockFall m (-k).toNat] else []

def noticeCodes (l : List Change) : List Nat :=
  l.filterMap fun c => match c with
    | (.notice n, true) => some n
    | _ => none

/-- R94: the five steps, in order. -/
def handOut (l : List Change) : List Act :=
  (if netRises l = [] then [] else [.action [.rises (netRises l)]]) ++
  blockRiseActs l .awning ++ blockRiseActs l .step ++ netFalls l ++
  blockFallActs l .awning ++ blockFallActs l .step ++
  [.notices (noticeCodes l) (decide (0 < net l .travelUnsafe)), .evalEnd]

/-- The built-in terms' new flags and changes; `sel` picks the terms that are re-evaluated. -/
def builtInEval (g : Signals) (sel : BuiltIn → Bool) : List BuiltIn → List Bool → List (Bool × Option Change)
  | b :: bs, f :: fs =>
    let v := if sel b then b.holds g else f
    (v, if v = f then none else some (b.effect, v)) :: builtInEval g sel bs fs
  | _, _ => []

def termEval (g : Signals) (sel : TermRec → Bool) (t : Term) : Term × Option Change :=
  let v := if sel t.record then TermRec.holds t.record g else t.active
  ({ t with active := v }, if v = t.active then none else some (TermRec.effectOf t.record, v))

/-- Re-evaluate the selected terms on the held signals: the new flags, and the terms whose flag changed. -/
def evaluate (selB : BuiltIn → Bool) (selT : TermRec → Bool) (s : State) : State × List Change :=
  let k := s.interlock
  let b := builtInEval k.signals selB builtIns k.builtIn
  let t := k.terms.map (termEval k.signals selT)
  ({ s with interlock := { k with builtIn := b.map (·.1), terms := t.map (·.1) } },
   b.filterMap (·.2) ++ t.filterMap (·.2))

def setSignal (g : Signal) (v : Nat) (s : State) : State :=
  { s with interlock := { s.interlock with signals := s.interlock.signals.set g.index v } }

namespace Run

/-- R89, R93: a signal's new value is evaluated at once and handed out in full before its owner's next act, also where the owner
changes it in answer to another evaluation's hand-out (log entry 38). Before the initial evaluation it replaces the initial value alone
(R101). -/
def signal (g : Signal) (v : Nat) (r : Run) : Run :=
  if sigVal r.st g = v then r
  else if r.st.interlock.evaluated then
    let e := evaluate (fun b => b.names g) (fun t => TermRec.names t g) (setSignal g v r.st)
    push { r with st := e.1, evals := r.evals + 1 } (handOut e.2)
  else r.onState (setSignal g v)

end Run

/-- The effects of the active terms, one for each term. -/
def activeEffects (s : State) : List Effect :=
  ((builtIns.zip s.interlock.builtIn).filter (·.2)).map (·.1.effect) ++
    (s.interlock.terms.filter (·.active)).map fun t => TermRec.effectOf t.record

/-- R96: the number of active terms that block the mover. -/
def activeBlocks (s : State) (m : Mover) : Nat := (activeEffects s).count (.blockOut m)

/-- R94, R96: a count rise, less what an evaluation taken since has taken back (log entry 38); block begins is handed on when the count
leaves 0. -/
def blockRise (m : Mover) (k : Nat) (s : State) : React :=
  let c := blockCount s m
  let n := min k (activeBlocks s m - c)
  (setBlockCount m (c + n) s, if c = 0 ∧ 0 < n then [.blockBegins m] else [])

/-- R94, R96: a count fall, less what an evaluation taken since has put back (log entry 38); block ends is only recorded (R154). -/
def blockFall (m : Mover) (k : Nat) (s : State) : State :=
  let c := blockCount s m
  setBlockCount m (c - min k (c - activeBlocks s m)) s

/-- R94, R97, R92: step 5 of an evaluation: the notices, then the digest. -/
def evalNotices (codes : List Nat) (travel : Bool) (s : State) : State :=
  let s := if codes = [] then s else raise .outlets (codes.foldl (fun b n => b ||| bit n) 0) s
  showAction [] [.interlock] (if travel then raise .movers (bit 15) s else s)

/-- R100: the new host terms with their flags, and the changes between the old and the new set. -/
def replaceTerms (l : List TermRec) (s : State) : State × List Change :=
  let k := s.interlock
  let new : List Term := l.map fun t => { record := t, active := TermRec.holds t k.signals }
  let olds := (k.terms.filter (·.active)).map fun t => (TermRec.effectOf t.record, false)
  let news := (new.filter (·.active)).map fun t => (TermRec.effectOf t.record, true)
  ({ s with interlock := { k with terms := new } }, olds ++ news)

/-- R99 over staging records t, t + 1, …: the first failure as (record, reason, word). -/
def stagingCheck (s : State) (t : Nat) : Nat → Option (Nat × Nat × Nat)
  | 0 => none
  | n + 1 =>
    match TermRec.check (Mem.readList 0 s.ram.staging (Config.stagingBase + 16 * t) 16) with
    | some (reason, w) => some (t, reason, w)
    | none => stagingCheck s (t + 1) n

def stagedTerms (s : State) (n : Nat) : List TermRec :=
  (List.range n).map fun t => Mem.readList 0 s.ram.staging (Config.stagingBase + 16 * t) 16

end Sys2Proof.Machine
end

