-- ==== Sys2Proof/Machine/LinkOps.lean ====
section
/-!
DEFINITION. The node link (Chapter 2): due times and scales (R36), the choice of the next transaction (R37), the command buffers and
the bound pair (R38, R40, R41), the end of a transaction (R30, R31), staleness (R32).
-/
namespace Sys2Proof.Machine

/-- Part time in ms at `sub` ms past the last second close. -/
def nowMs (s : State) (sub : Nat) : Nat := s.time * 1000 + sub

/-- R36: a record's interval, s. -/
def interval (s : State) (i : Fin 12) : Nat :=
  let n := node s i
  (if n.state = .missing then Config.missingInterval else Image.pollPeriod (cfg s) i.val) *
    (if n.scaled then Config.restFactor else 1)

/-- R32: three effective periods, s. -/
def staleLimit (s : State) (i : Fin 12) : Nat :=
  3 * (Image.pollPeriod (cfg s) i.val * (if (node s i).scaled then Config.restFactor else 1))

def overNodes (f : Fin 12 → Node → Node) : List (Fin 12) → State → State
  | [], s => s
  | i :: l, s => overNodes f l (setNode i (f i (node s i)) s)

/-- R36: on entering REST every scale becomes ×30 and every due is reckoned anew from the last transaction's end. -/
def restScale (s : State) : State :=
  overNodes (fun i n =>
    let m := { n with scaled := true }
    { m with due := some (m.lastEnd +
        1000 * (Config.restFactor * (if m.state = .missing then Config.missingInterval else Image.pollPeriod (cfg s) i.val))) })
    (roster s) s

/-- R36, R42: every record due at one moment. -/
def allDue (now : Nat) (s : State) : State := overNodes (fun _ n => { n with due := some now }) (roster s) s

/-- R42: at the start the interval is reckoned from that moment. -/
def startDue (now : Nat) (s : State) : State :=
  overNodes (fun _ n => { n with due := some now, lastEnd := now }) (roster s) s

/-! ### The choice (R37) -/

/-- The due record with the largest overdue amount, ties to the lower index. -/
def mostOverdue (now : Nat) (s : State) : Option (Fin 12) :=
  (roster s).foldl (fun best i =>
    match (node s i).due with
    | none => best
    | some d =>
      if now < d then best
      else match best with
        | none => some i
        | some b => if d < ((node s b).due.getD d) then some i else best) none

/-! ### Requests (R28) -/

/-- The command code and the argument words of a heater command (Section 2.7). -/
def HeaterCmd.code : HeaterCmd → Nat
  | .start _ => 1 | .setLevel _ | .pairLevel _ => 2 | .stop => 3 | .clearFault => 4

def HeaterCmd.args : HeaterCmd → List Word
  | .start l | .setLevel l | .pairLevel l => [Word.nat l]
  | .stop | .clearFault => []

/-- KIND and CODE of a request header. -/
def LinkCmd.kindCode : LinkCmd → Nat × Nat
  | .poll => (0, 0) | .heater c => (1, c.code) | .float => (1, 1)

def LinkCmd.args : LinkCmd → List Word
  | .heater c => c.args
  | .poll | .float => []

/-- The request header: ADDRESS 3:0, KIND 4, COUNT 7:5, CODE 11:8. -/
def requestHeader (address : Nat) (c : LinkCmd) : Word :=
  Word.nat (address + 16 * c.kindCode.1 + 32 * c.args.length + 256 * c.kindCode.2)

/-- The parity bit that makes the number of ones odd (Section 2.2). -/
def oddParity (w : Word) : Bool := ((List.range 16).filter w.getLsbD).length % 2 == 0

/-- R28: the words of a request, each with its parity bit. -/
def requestWords (address : Nat) (c : LinkCmd) : List (Word × Bool) :=
  (requestHeader address c :: c.args).map fun w => (w, oddParity w)

/-- R28: a request is built and its sending begins. -/
def send (i : Fin 12) (c : LinkCmd) (s : State) : State :=
  setLink (fun k => { k with
    phase := .sending, txn := some { record := i, cmd := c }, request := requestWords (Image.address (cfg s) i.val) c }) s

/-- R40: the buffer entry that is sent, and the half that moves to the pair remainder. -/
def sendHeater (i : Fin 12) (e : HeaterEntry) (s : State) : State :=
  let s := setLink (fun k => { k with heater := none }) s
  match e with
  | .single c => send i (.heater c) s
  | .pair l => send i (.heater (.pairLevel l)) (setLink (fun k => { k with remainder := some l, remainderDue := false }) s)

/-- R37: the choice made when the link falls idle. -/
def linkChoose (now : Nat) (s : State) : State :=
  let idle := setLink (fun k => { k with phase := .idle, txn := none }) s
  match recordOf s .heater, recordOf s .solar with
  | h, f =>
    match h, (if s.link.remainderDue then s.link.remainder else none), s.link.heater with
    | some i, some l, _ =>
      send i (.heater (.start l)) (setLink (fun k => { k with remainder := none, remainderDue := false }) s)
    | some i, none, some e => sendHeater i e s
    | _, _, _ =>
      match f, s.link.solar with
      | some i, true => send i .float (setLink (fun k => { k with solar := false }) s)
      | _, _ =>
        match mostOverdue now s with
        | some i => send i .poll s
        | none => idle

/-- A posting while the link is idle is chosen at once (R37), from ACTIVE on: no command is sent in STARTING (R42). -/
def chooseIfIdle (s : State) : State :=
  if s.link.phase = .idle ∧ s.charge.power ≠ .starting then linkChoose (nowMs s 0) s else s

/-- R38: post a heater command; without a record it is answered MISSED at once. -/
def postHeater (e : HeaterEntry) (s : State) : React :=
  match recordOf s .heater with
  | none =>
    (s, match e with
      | .single c => [.result c .missed true]
      | .pair l => [.result (.pairLevel l) .missed true, .result (.start l) .missed true])
  | some _ => (chooseIfIdle (setLink (fun k => { k with heater := some e }) s), [])

/-- R38: post FLOAT. A full synchronisation in STARTING posts it too (R45, R47), before the commands of R42 are due: it waits in its
buffer until the link begins, which is the model's choice (log entry 50). -/
def postFloat (s : State) : React :=
  match recordOf s .solar with
  | none => (s, [.floatResult .missed])
  | some _ => (chooseIfIdle (setLink (fun k => { k with solar := true }) s), [])

/-! ### Readings handed to owners (R30 to R35) -/

def heaterReading (n : Node) : Option UnitReading :=
  match n.stale, n.reading with
  | false, some l =>
    some { phase := Phase.ofCode (l.getD 0 0).toNat, fault := (l.getD 1 0).toNat, level := (l.getD 2 0).toNat, faulty := n.faulty }
  | _, _ => none

/-- The level of a tank reading, if usable (R103). -/
def tankLevel (s : State) (r : Role) : Option Nat :=
  ((recordOf s r).bind fun i => usable (node s i)).map fun l => (l.getD 0 0).toNat

def setFresh (s : State) : React :=
  let v := tankLevel s .fresh
  ({ s with water := { s.water with fresh := v } },
   [.signal .freshLow (match v with | some l => if l ≤ Config.freshLowLevel then 1 else 0 | none => 0), .freshPump, .freshFill])

def setGrey (s : State) : React :=
  let v := tankLevel s .grey
  ({ s with water := { s.water with grey := v } },
   [.signal .greyFull (match v with | some l => if Config.greyFullLevel ≤ l then 1 else 0 | none => 0)])

/-- R122: ZONE_COLD of the zones' measured values. -/
def zoneCold (s : State) : Nat :=
  if s.climate.zones.toList.any (fun z => match z.measured with | some t => decide (t ≤ Config.zoneColdLevel) | none => false)
  then 1 else 0

def setZoneMeasured (s : State) (i : Fin 12) : React :=
  let z : Fin 3 := Fin.ofNat 3 (Image.zoneIndex (cfg s) i.val)
  let v := (usable (node s i)).map fun l => (l.getD 0 0).toInt
  let t := setZone z { zone s z with measured := v } s
  (t, [.signal .zoneCold (zoneCold t), .zoneFollow z])

/-- R30, R33 to R35: hand the owner of record i its reading, or the absence of one; `returned` when the node was MISSING. The frost guard
counts a usable reading alone as a reading (R114, log entry 47). -/
def handReading (i : Fin 12) (returned : Bool) (s : State) : React :=
  match roleOf s i with
  | some .fresh => setFresh s
  | some .grey => setGrey s
  | some .frostProbe => (s, [.frostTemp (usable (node s i)).isSome])
  | some .zoneProbe => setZoneMeasured s i
  | some .heater => (s, [.unitReading (heaterReading (node s i)) returned])
  | some .solar => (s, [.solar])
  | none => (s, [])

/-- R31, R32: the reading has become stale. For the heater role a stale reading is no reading, and there is none to judge. -/
def handStale (i : Fin 12) (s : State) : React :=
  match roleOf s i with
  | some .heater => (setSeq (fun q => { q with last := none }) s, [])
  | _ => handReading i false s

/-- R31: the node's loss. -/
def handLoss (i : Fin 12) (s : State) : React :=
  match roleOf s i with
  | some .heater => (s, [.unitLost])
  | _ => (s, [])

/-- R33 to R35: every data word of the role's reading is in range (Section 2.7). -/
def inRange (r : Role) (l : List Word) : Bool :=
  let w := fun i => (l.getD i 0).toNat
  match r with
  | .fresh | .grey => decide (w 0 ≤ 1000)
  | .frostProbe | .zoneProbe => decide (-500 ≤ (l.getD 0 0).toInt) && decide ((l.getD 0 0).toInt ≤ 1000)
  | .heater => decide (w 0 ≤ 5) && decide (w 1 ≤ 15) && decide (w 2 ≤ 5)
  | .solar => decide (Word.join (l.getD 0 0) (l.getD 1 0) ≤ 100000) && decide (w 2 ≤ 1)

/-- R36: a record's due is its last transaction's end plus its interval. -/
def setDue (i : Fin 12) (now : Nat) (s : State) : State :=
  setNode i { node s i with lastEnd := now, due := some (now + 1000 * interval s i) } s

/-- The line turnaround runs after every transaction (R28). -/
def endTxn (s : State) : State := setLink (fun k => { k with phase := .turnaround, txn := none }) s

/-- R39 to R41: the result of a command transaction goes to the block that posted it. -/
def resultActs (c : LinkCmd) (r : CmdResult) (s : State) : React :=
  match c with
  | .poll => (s, [])
  | .float => (s, [.floatResult r])
  | .heater (.pairLevel l) =>
    if r = .accepted then (setLink (fun k => { k with remainderDue := true }) s, [.result (.pairLevel l) r false])
    else (setLink (fun k => { k with remainder := none, remainderDue := false }) s,
      [.result (.pairLevel l) r false, .result (.start l) r false])
  | .heater h => (s, [.result h r false])

/-- R30: the roster record after a good reply, in the order of the rule. -/
def goodNode (r : Role) (status : Word) (data : List Word) (rest : Bool) (n : Node) : Node :=
  let ok := inRange r data
  { n with
    misses := 0, state := .present, age := 0, stale := false, scaled := rest
    reading := if ok then some data else none
    faulty := !ok || status.getLsbD 4 }

/-- R31: the roster record after a miss. -/
def missNode (k : MissKind) (rest : Bool) (n : Node) : Node :=
  let m := min (n.misses + 1) Config.missLimit
  let lost := decide (m = Config.missLimit) && n.state != .missing
  { n with
    misses := m, lastMiss := k, scaled := rest
    state := if lost then .missing else n.state
    stale := n.stale || lost }

/-- R32: staleness is tested wherever the age or the limit changes. -/
def testStale (i : Fin 12) (s : State) : React :=
  let n := node s i
  if !n.stale && decide (staleLimit s i < n.age) then
    let t := setNode i { n with stale := true } s
    if n.reading.isSome then handStale i t else (t, [])
  else (s, [])

end Sys2Proof.Machine
end

