-- ==== Sys2Proof/Machine/ChargeOps.lean ====
section
/-!
DEFINITION. The charge monitor (Chapter 3): averages (R45), the tally (R46), the syncs (R47, R48), the SoC level (R54), the voltage
floor (R55), the shed level (R56), the budget limit (R52), the sources (R51).
-/
namespace Sys2Proof.Machine

/-! ### Averages (R45) -/

def clamp (lo v hi : Int) : Int := if v < lo then lo else if hi < v then hi else v

def sampleVolts (x : Sample) : Int := clamp 8000 x.mV 17000

def sampleAmps (x : Sample) : Int := clamp (-200000) x.mA 200000

/-- The mean of n samples of this sum; where it is not whole, one of its two neighbours (log entry 3). -/
def mean (sum : Int) (n : Nat) : Int :=
  if sum % n = 0 then sum / n else sum / n + (if Config.meanRoundsUp sum n then 1 else 0)

def meanVolts (l : List Sample) : Nat := (mean (l.map sampleVolts).sum l.length).toNat

def meanAmps (l : List Sample) : Int := mean (l.map sampleAmps).sum l.length

/-! ### Tally (R46) -/

/-- Move whole mAh out of the accumulator, with the charge held between 0 and the capacity. -/
def moveCharge (t : Tally) (amps : Int) : Tally :=
  let a := t.acc + amps
  let k := Int.tdiv a 3600
  let c := (t.charge : Int) + k
  if (t.capacity : Int) < c then { t with charge := t.capacity, acc := 0 }
  else if c < 0 then { t with charge := 0, acc := 0 }
  else { t with charge := c.toNat, acc := a - 3600 * k }

def keepTally (s : State) : State :=
  { s with retained := { s.retained with
      charge := s.charge.tally.charge, acc := s.charge.tally.acc, synced := s.charge.tally.synced } }

/-! ### Levels (R54 to R56) -/

def riseLevel (i : Image) (soc : Nat) : Nat → Nat → Nat
  | 0, n => n
  | k + 1, n => if n < 3 ∧ soc ≤ Image.shedPoint i (n + 1) then riseLevel i soc k (n + 1) else n

def fallLevel (i : Image) (soc : Nat) : Nat → Nat
  | 0 => 0
  | n + 1 => if Image.shedPoint i (n + 1) + Config.shedExitMargin ≤ soc then fallLevel i soc n else n + 1

/-- R54: raise the level; if it did not rise, lower it. -/
def nextSocLevel (i : Image) (soc n : Nat) : Nat :=
  let up := riseLevel i soc 3 n
  if up ≠ n then up else fallLevel i soc n

def socEval (s : State) : State :=
  { s with charge := { s.charge with socLevel := nextSocLevel (cfg s) (soc s) s.charge.socLevel } }

/-- R56: the largest of host floor, voltage floor and SoC level. -/
def shedOf (s : State) : Nat :=
  max s.charge.hostFloor (max (if s.charge.floor then 3 else 0) (if s.charge.shore then 0 else s.charge.socLevel))

/-- R56: a new shed level goes to the interlock engine, the outlet controller and the climate controller. -/
def shedEval (s : State) : React :=
  let n := shedOf s
  if n = s.charge.shedLevel then (s, [])
  else
    ({ s with charge := { s.charge with shedLevel := n } },
     [.raise .energy (bit 0), .signal .shedLevel n, .shedLevel n, .seqShed])

/-- R52: the budget limit. -/
def limitOf (s : State) : Nat :=
  Image.batteryLimit (cfg s) + (if s.charge.shore then Image.shoreAllowance (cfg s) else 0) +
    (if s.charge.alternator then Image.alternatorAllowance (cfg s) else 0)

def limitEval (s : State) : React :=
  let n := limitOf s
  if n = s.charge.limit then (s, [])
  else ({ s with charge := { s.charge with limit := n } }, [.limit n])

/-- R51: the SOLAR source. -/
def solarOf (s : State) : Bool :=
  match (recordOf s .solar).bind fun i => usable (node s i) with
  | some l => l.getD 2 0 == 1
  | none => false

def solarEval (s : State) : React :=
  if solarOf s = s.charge.solar then (s, [])
  else ({ s with charge := { s.charge with solar := solarOf s } }, [.raise .energy (bit 6)])

/-- R35: the result of FLOAT. -/
def floatDone (x : CmdResult) (s : State) : React := ({ s with charge := { s.charge with lastFloat := some x } }, [])

/-! ### The second close (R45 to R48, R55) -/

def fullCondition (s : State) (volts : Nat) (amps : Int) : Bool :=
  decide (Image.fullPoint (cfg s) ≤ volts) && decide (0 ≤ amps) && decide (amps ≤ Image.tailCurrent (cfg s))

def emptyCondition (s : State) (volts : Nat) (amps : Int) : Bool :=
  decide (volts ≤ Image.emptyPoint (cfg s)) && decide (-5000 ≤ amps) && decide (amps ≤ 0)

/-- A count that rises while its condition is met and reaches its limit at `reach`. -/
def countUp (met : Bool) (n limit : Nat) : Nat := if met then min (n + 1) limit else 0

/-- The count reaches its limit at this second. -/
def reaches (met : Bool) (n limit : Nat) : Bool := met && decide (n + 1 = limit)

/-- R46 at a second close. -/
def tallySecond (amps : Int) (s : State) : State := socEval (setTally (fun t => moveCharge t amps) s)

/-- R47 at a second close: the count, and the full synchronisation when it reaches 600. -/
def fullSecond (volts : Nat) (amps : Int) (s : State) : React :=
  let t := s.charge.tally
  let met := fullCondition s volts amps
  let s := setTally (fun t => { t with fullCount := countUp met t.fullCount Config.fullSyncHold }) s
  if reaches met t.fullCount Config.fullSyncHold then
    (socEval (setTally (fun t => { t with charge := t.capacity, acc := 0, synced := true }) s),
     [.raise .energy (bit 4), .postFloat])
  else (s, [])

/-- R48 at a second close. -/
def emptySecond (volts : Nat) (amps : Int) (s : State) : React :=
  let t := s.charge.tally
  let met := emptyCondition s volts amps
  let s := setTally (fun t => { t with emptyCount := countUp met t.emptyCount Config.emptySyncHold }) s
  if reaches met t.emptyCount Config.emptySyncHold then
    (socEval (setTally (fun t => { t with charge := 0, acc := 0, synced := true }) s), [.raise .energy (bit 5)])
  else (s, [])

/-- R55 at a second close. -/
def floorSecond (volts : Nat) (s : State) : React :=
  let c := s.charge
  if c.floor then
    let met := decide (Config.floorExitMv ≤ volts)
    if reaches met c.floorExit Config.floorExitHold then
      ({ s with charge := { c with floor := false, floorEntry := 0, floorExit := Config.floorExitHold } }, [.raise .energy (bit 1)])
    else ({ s with charge := { c with floorExit := countUp met c.floorExit Config.floorExitHold } }, [])
  else
    let met := decide (volts ≤ Config.floorEntryMv)
    if reaches met c.floorEntry Config.floorEntryHold then
      ({ s with charge := { c with floor := true, floorExit := 0, floorEntry := Config.floorEntryHold } }, [.raise .energy (bit 1)])
    else ({ s with charge := { c with floorEntry := countUp met c.floorEntry Config.floorEntryHold } }, [])

/-- The bank voltage and current of the second, for the digest. -/
def setBank (volts : Nat) (amps : Int) (s : State) : State := { s with charge := { s.charge with volts := volts, amps := amps } }

end Sys2Proof.Machine
end

