-- ==== Sys2Proof/Machine/WaterOps.lean ====
section
/-!
DEFINITION. The water controller's reactions (Chapter 6): the pump (R104 to R106), the fill (R110 to R112), the frost guard (R113
to R118).
-/
namespace Sys2Proof.Machine

/-! ### Pump -/

/-- The PUMP demand stands (RUNNING or PAUSED). -/
def pumpStanding (s : State) : Bool := s.water.pump.state == .running || s.water.pump.state == .paused

/-- R104: a level present and at or below 20 per mille. -/
def pumpLow (s : State) : Bool :=
  match s.water.fresh with
  | some l => decide (l ≤ Config.pumpLowLevel)
  | none => false

/-- R104: start a demand, or enter DRY on a low level. -/
def pumpStart (s : State) : React :=
  if pumpLow s then (s, [.pumpDry .lowLevel])
  else (s, [.req (.demand 0 { charge := ratedOf s 0 })])

/-- R105: entry into DRY. -/
def pumpDry (c : DryCause) (s : State) : React :=
  (setPump (fun p => { p with state := .dry, cause := c, entry := s.water.fresh, timer := 0 }) s,
   [.req (.withdraw 0), .raise .water (bit 0)])

/-- R106: leaving DRY, with the demand it may start. -/
def pumpLeaveDry (s : State) : React :=
  (setPump (fun p => { p with state := .idle, cause := .none, entry := none }) s,
   if s.water.pump.auto && s.pins.pressureLow.level then [.pumpStart] else [])

/-- R106: the level that takes a DRY pump out of DRY. -/
def dryRecovers (s : State) : Bool :=
  (s.water.pump.cause == .runLimit || s.water.pump.cause == .lowLevel) &&
    (match s.water.fresh, s.water.pump.entry with
     | some l, some e => decide (e + Config.dryRecoveryRise ≤ l)
     | _, _ => false)

/-- R105, R106: the pump's part of a FRESH reading. -/
def freshPump (s : State) : React :=
  if pumpStanding s && pumpLow s then (s, [.pumpDry .lowLevel])
  else if s.water.pump.state == .dry && dryRecovers s then pumpLeaveDry s
  else (s, [])

/-- R104, R106: the PUMP outlet's state reported. -/
def pumpReport (new : OutletState) (s : State) : React :=
  if s.water.pump.state = .dry then (s, [])
  else match new with
    | .on => (setPump (fun p => { p with state := .running, timer := 0 }) s, [])
    | .waiting | .shed | .inhibited => (setPump (fun p => { p with state := .paused, timer := 0 }) s, [])
    | .tripped => if (outlet s 0).demand.isSome then (s, [.pumpDry .tripped]) else (s, [])
    | .off => (setPump (fun p => { p with timer := 0 }) s, [])

/-- R104: PRESSURE LOW taken by its filter. -/
def pressureTaken (level : Bool) (s : State) : React :=
  if !s.water.pump.auto || s.water.pump.state == .dry then (s, [])
  else if level then pumpStart s
  else (setPump (fun p => { p with state := .idle, timer := 0 }) s, [.req (.withdraw 0)])

/-! ### Fill -/

/-- R110 to R112: what the slot is finished with. -/
def fillResult (s : State) (f : Fill) : FillEnd → Finish
  | .done full =>
    { outcome := .ok, r0 := Word.nat (metered s f), r1 := Word.natHi (metered s f), r2 := if full then 1 else 0 }
  | .failed o r2 => { outcome := o, r0 := Word.nat (metered s f), r1 := Word.natHi (metered s f), r2 := r2 }

/-- R110: the end of a fill: the demand is withdrawn first. -/
def fillEnd (e : FillEnd) (s : State) : React :=
  match s.water.fill with
  | none => (s, [])
  | some _ => (s, [.req (.withdraw 7), .fillFinish e])

/-- R110: the slot is finished and the record cleared. -/
def fillFinish (e : FillEnd) (s : State) : React :=
  match s.water.fill with
  | none => (s, [])
  | some f => ({ s with water := { s.water with fill := none } }, [.finish f.slot (fillResult s f e)])

/-- R110: a FRESH level at or above 980 per mille. -/
def freshFull (s : State) : Bool :=
  match s.water.fresh with
  | some l => decide (Config.fillFullLevel ≤ l)
  | none => false

def freshFill (s : State) : React := if freshFull s then fillEnd (.done true) s else (s, [])

def setFill (f : Fill) (s : State) : State := { s with water := { s.water with fill := some f } }

/-- R111: the INLET VALVE's state reported. -/
def fillReport (new : OutletState) (s : State) : React :=
  match s.water.fill with
  | none => (s, [])
  | some f =>
    let t := setFill { f with valve := new } s
    match new with
    | .on | .waiting => (setFill { f with valve := new, flow := 0, wait := 0 } s, [])
    | .inhibited => fillEnd (.failed .interlocked 0) t
    | .shed => fillEnd (.failed .shed 0) t
    | .tripped => fillEnd (.failed .tripped 0) t
    | .off => (t, [])

/-- R110: a pulse on FILL FLOW. -/
def fillPulse (s : State) : React :=
  match s.water.fill with
  | none => (s, [])
  | some f =>
    let g := { f with pulses := f.pulses + 1, flow := if f.valve = .on then 0 else f.flow }
    let t := setFill g s
    if g.target ≤ metered t g then fillEnd (.done false) t else (t, [])

/-! ### Frost guard -/

/-- R113: the lowest usable FROST_PROBE reading. -/
def frostOf (s : State) : Option Int :=
  (roster s).foldl (fun best i =>
    if roleOf s i = some .frostProbe then
      match usable (node s i), best with
      | some l, none => some (l.getD 0 0).toInt
      | some l, some b => some (min b (l.getD 0 0).toInt)
      | none, b => b
    else best) none

def threshold (i : Image) : Stage → Int
  | .watch | .pad => Image.padThreshold i
  | .heat => Image.heatThreshold i
  | .dump => Image.dumpThreshold i

def Stage.up : Stage → Stage
  | .watch => .pad | .pad => .heat | .heat => .dump | .dump => .dump

def Stage.down : Stage → Stage
  | .watch => .watch | .pad => .watch | .heat => .pad | .dump => .dump

def riseStage (i : Image) (t : Int) : Nat → Stage → Stage
  | 0, x => x
  | k + 1, x => if x ≠ .dump ∧ t ≤ threshold i x.up then riseStage i t k x.up else x

def fallStage (i : Image) (t : Int) : Nat → Stage → Stage
  | 0, x => x
  | k + 1, x => if (x = .pad ∨ x = .heat) ∧ threshold i x + 10 ≤ t then fallStage i t k x.down else x

/-- R114: the stage a present temperature gives from stage `x`. -/
def nextStage (i : Image) (t : Int) (x : Stage) : Stage :=
  if x = .dump then .dump
  else
    let up := riseStage i t 3 x
    if up ≠ x then up else fallStage i t 2 x

/-- R113: FROST_BLIND follows the absence of a temperature once the grace has run. -/
def blindActs (s : State) (t : Option Int) : Bool × List Act :=
  let b := t.isNone && decide (Config.frostBlindGrace ≤ s.water.frost.grace)
  (b, if b && !s.water.frost.blind && s.water.frost.stage == .watch then [.raise .water (bit 3)] else [])

/-- R114: the present stage judged by a temperature; an absent one changes nothing. -/
def stageActs (s : State) : Option Int → List Act
  | none => []
  | some t => [.stage (nextStage (cfg s) t s.water.frost.stage) 0]

/-- R113, R114: the frost temperature recomputed. Each change of a present one judges the stage, and so does a reading that leaves it as
it is: a stage that a timer has raised is judged at the next reading like any other. Any other stage stands there, for judging twice by
one temperature is judging once (`nextStage_idem`; log entry 47). -/
def frostEval (reading : Bool) (s : State) : React :=
  let t := frostOf s
  if t = s.water.frost.temp then (s, if reading then stageActs s t else [])
  else
    let b := blindActs s t
    (setFrost (fun f => { f with temp := t, blind := b.1 }) s, b.2 ++ stageActs s t)

/-- R115: a change of the stage, step by step. -/
def stageChange (t : Stage) (extra : BitVec 32) (s : State) : React :=
  let old := s.water.frost.stage
  if t = old then (s, [])
  else
    (setFrost (fun f => { f with stage := t }) s,
     [.signal .frostStage t.code, .stageFill t, .stageLeave old t, .stageBegin old t, .raise .water (bit 1)] ++
       (if extra = 0 then [] else [.raise .water extra]) ++ [.shown [.water] []])

/-- R115 step 2. -/
def stageFill (t : Stage) (s : State) : React :=
  if t = .heat ∨ t = .dump then fillEnd (.failed .notPermitted (Word.nat t.code)) s else (s, [])

/-- R115 step 3. -/
def stageLeave (old new : Stage) (s : State) : React :=
  let s := setFrost (fun f => { f with
    heatTimer := if old = .heat then 0 else f.heatTimer
    padTimer := if old = .pad ∨ new = .watch ∨ new = .dump then 0 else f.padTimer }) s
  (s, (if old = .heat then [.frostDemand false] else []) ++
      (if (old = .pad ∨ old = .heat) ∧ (new = .watch ∨ new = .dump) then [.req (.withdraw 9)] else []))

/-- R115 step 4, R118. -/
def stageBegin (old new : Stage) (s : State) : React :=
  let s := setFrost (fun f => { f with
    padTimer := if new = .pad then 0 else f.padTimer
    heatTimer := if new = .heat then 0 else f.heatTimer }) s
  (s, (if old = .watch ∧ (new = .pad ∨ new = .heat) then [.req (.demand 9 { charge := ratedOf s 9 })] else []) ++
      (if new = .heat then [.frostDemand true] else []) ++
      (if new = .dump then [.signal .drainOpen 1, .req (.demand 1 { charge := ratedOf s 1 }), .drainLatch] else []))

/-- The dump latch, its retained copy and the held flag of outlet 1 (R118, R185). -/
def setLatch (b : Bool) (s : State) : State :=
  let s := setFrost (fun f => { f with latch := b }) s
  { s with retained := { s.retained with latch := b } }

def setHeld (o : Fin 16) (b : Bool) (s : State) : State := setOutlet o { outlet s o with held := b } s

/-- R118: the latch, the held flag and the cause DUMP. -/
def drainLatch (s : State) : React := (setHeld 1 true (setLatch true s), [.raise .water (bit 2)])

/-- R116: the TANK PAD's state reported. -/
def padReport (new : OutletState) (s : State) : State :=
  setFrost (fun f => { f with padOn := new == .on, padTimer := if new = .on then 0 else f.padTimer }) s

/-- R117: the heat-delivered flag. -/
def setDelivered (b : Bool) (s : State) : State :=
  setFrost (fun f => { f with delivered := b, heatTimer := if b then 0 else f.heatTimer }) s

/-- The second-granular timers of the water controller (R104, R111, R113, R116, R117). -/
def waterSecond (s : State) : State :=
  let w := s.water
  { s with water := { w with
      pump := { w.pump with timer := if w.pump.state = .running then min (w.pump.timer + 1) Config.pumpRunLimit else w.pump.timer }
      fill := w.fill.map fun f => { f with
        flow := if f.valve = .on then min (f.flow + 1) Config.fillFlowTimeout else f.flow
        wait := if f.valve = .waiting then min (f.wait + 1) Config.fillWaitTimeout else f.wait }
      frost := { w.frost with
        padTimer := if w.frost.stage = .pad ∧ w.frost.padOn = false then min (w.frost.padTimer + 1) Config.padTimeout
          else w.frost.padTimer
        heatTimer := if w.frost.stage = .heat ∧ w.frost.delivered = false then min (w.frost.heatTimer + 1) Config.heatTimeout
          else w.frost.heatTimer
        grace := if s.charge.power = .starting then w.frost.grace else min (w.frost.grace + 1) Config.frostBlindGrace } } }

end Sys2Proof.Machine
end

