-- ==== Sys2Proof/Machine/ClimateOps.lean ====
section
/-!
DEFINITION. The climate controller's reactions (Chapter 7): zones (R123), flaps (R125), heater demand and level (R126), frost demand
(R128), and the heater sequencer (R129 to R139).
-/
namespace Sys2Proof.Machine

/-! ### Zones, flaps, demand, level -/

/-- R123: demand flag and deficit of a zone. -/
def zoneEval (z : Zone) : Zone :=
  match z.measured with
  | none => { z with demand := false, deficit := 0 }
  | some t =>
    let d := z.on && (if t ≤ z.target - 5 then true else if z.target + 3 ≤ t then false else z.demand)
    { z with demand := d, deficit := if d then (z.target - t).toNat else 0 }

/-- R125: the SLEEP flap is wanted. -/
def wantSleep (c : Climate) : Bool := c.zones[1].demand && c.mode == .auto

/-- R125: the LOCKER flap is wanted. -/
def wantLocker (c : Climate) : Bool := c.zones[2].demand && (c.mode == .auto || (c.mode == .frostOnly && c.frost))

/-- R126: the heater demand. -/
def heaterDemand (c : Climate) : Bool :=
  match c.mode with
  | .auto => c.frost || c.zones[0].demand || c.zones[1].demand || c.zones[2].demand
  | .frostOnly => c.frost
  | .off => false

/-- R126: the largest deficit among the zones that count. -/
def countedDeficit (c : Climate) : Nat :=
  match c.mode with
  | .auto => max c.zones[0].deficit (max c.zones[1].deficit c.zones[2].deficit)
  | .frostOnly => if c.frost then c.zones[2].deficit else 0
  | .off => 0

/-- R126: 1 plus the deficit divided by 10, between 1 and 5. -/
def heatLevel (c : Climate) : Nat := min 5 (1 + countedDeficit c / 10)

def flapActs (s : State) (o : Fin 16) (was now : Bool) : List Act :=
  if was = now then [] else if now then [.req (.demand o { charge := ratedOf s o })] else [.req (.withdraw o)]

/-- R122, R125, R127, R128: apply a change of zones, mode or frost demand; the flaps follow, and after them the heater demand and the
heat level. Where one change moves both flaps, FLAP SLEEP goes before FLAP LOCKER, which is the model's choice (log entry 53). -/
def climateChange (f : Climate → Climate) (s : State) : React :=
  let a := s.climate
  let b := f a
  ({ s with climate := b },
   flapActs s 3 (wantSleep a) (wantSleep b) ++ flapActs s 4 (wantLocker a) (wantLocker b) ++ [.heatDemand])

/-- R126: the heater demand and the heat level are computed from the record as it stands, and each change of them is handed to the
sequencer. The change of the record that led here is in the digest first, in one update with them. -/
def heatDemand (s : State) : React :=
  let a := s.climate
  let c := { a with demand := heaterDemand a, level := heatLevel a }
  ({ s with climate := c },
   .shown [] [.climate] :: (if c.demand = a.demand then [] else [.seqDemand]) ++
   (if c.level = a.level then [] else [.seqLevel]))

/-- R122: after a zone's reading or setting. -/
def zoneFollow (z : Fin 3) (s : State) : React :=
  climateChange (fun c => { c with zones := c.zones.set z (zoneEval c.zones[z]) }) s

/-- R128: the LOCKER override, or the host values. -/
def lockerZone (b : Bool) (z : Zone) : Zone :=
  zoneEval (if b then { z with target := Config.lockerFrostTarget, on := true }
    else { z with target := z.hostTarget, on := z.hostOn })

/-- R128: frost demand raised or withdrawn; last, it is handed to the sequencer. -/
def frostDemand (b : Bool) (s : State) : React :=
  if s.climate.frost = b then (s, [])
  else
    let r := climateChange (fun c => { c with frost := b, zones := c.zones.set 2 (lockerZone b c.zones[2]) }) s
    (r.1, r.2 ++ [.seqFrost b])

/-! ### The sequencer -/

def seq (s : State) : Sequencer := s.climate.seq

/-- CLIMATE cause bits (Section 7.5). -/
def cGrantTimeout : BitVec 32 := bit 0
def cStartFailed : BitVec 32 := bit 1
def cFlameLost : BitVec 32 := bit 2
def cUnitFault : BitVec 32 := bit 3
def cLockedOut : BitVec 32 := bit 4
def cUnitLost : BitVec 32 := bit 5
def cUnitReturned : BitVec 32 := bit 6
def cSupplyTripped : BitVec 32 := bit 7
def cShedStop : BitVec 32 := bit 8

/-- The supply request stands in every state but OFF and LOCKED_OUT; without it there is no elevation (R129, R131). -/
def SeqState.supplied : SeqState → Bool
  | .off | .lockedOut => false
  | _ => true

/-- R129: a change of state is handed on: the signal, the report to the outlet controller, the held and retained flags, the
heat-delivered flag, the causes, the digest. A withdrawal that goes with it is put before it by the caller. -/
def enter (new : SeqState) (causes : BitVec 32) (s : State) : React :=
  let old := (seq s).state
  (setSeq (fun q => { q with state := new, phase := 0, runOn := 0, elevation := q.elevation && new.supplied }) s,
   [.signal .heaterActive (if new.active then 1 else 0), .seqReport, .seqFlags] ++
   (if (old == .running) = (new == .running) then [] else [.delivered (new == .running)]) ++
   (if causes = 0 then [] else [.raise .climate causes]) ++ [.shown [] [.climate]])

/-- R129: the held flag of outlet 2 and the retained heater-active flag. -/
def seqFlags (s : State) : State :=
  let b := (seq s).state.active
  let s := setHeld 2 b s
  { s with retained := { s.retained with heater := b } }

/-- The supply is withdrawn before the change to OFF is handed on; every arrival at OFF tests R130. -/
def toOff (causes : BitVec 32) : List Act := [.req (.withdraw 2), .enter .off causes, .heaterTest]

/-- R139: the supply is released and the heater is locked out. -/
def toLocked (causes : BitVec 32) : List Act := [.req (.withdraw 2), .enter .lockedOut (causes ||| cLockedOut)]

/-- R130: the start conditions. -/
def startConditions (s : State) : Bool :=
  let q := seq s
  s.climate.demand &&
  (match recordOf s .heater with | some i => (node s i).state == .present | none => false) &&
  (match q.last with | some u => u.phase == .idle && !u.faulty | none => false) &&
  q.retry == 0 && !q.clearPending && (!supplyClassShed s || s.climate.frost)

/-- R130: leave OFF for GRANT_WAIT. -/
def heaterTest (s : State) : React :=
  if (seq s).state = .off ∧ startConditions s = true then
    (setSeq (fun q => { q with ran := false, elevation := s.climate.frost }) s,
     [.enter .grantWait 0,
      .req (.demand 2 { charge := Image.startCurrent (cfg s), elevated := s.climate.frost })])
  else (s, [])

/-- R132: after the entry into IGNITING the bound pair is posted with the heat level of the moment. -/
def igniting (s : State) : React :=
  (setSeq (fun q => { q with started := s.climate.level }) s, [.post (.pair s.climate.level)])

/-- R132: a start failure. -/
def startFail (causes : BitVec 32) (s : State) : React :=
  if (seq s).state = .igniting then
    let n := min ((seq s).failed + 1) Config.failedStartsLimit
    (setSeq (fun q => { q with failed := n, lockout := q.lockout || decide (n = Config.failedStartsLimit) }) s,
     [.enter .stopping (causes ||| cStartFailed), .stopping true])
  else (s, [])

/-- R135: on entry into STOPPING. -/
def stopping (lower : Bool) (s : State) : React :=
  (s, .post (.single .stop) :: (if lower then [.req (.charge 2 (Image.runCurrent (cfg s)))] else []))

/-- R133: after the entry into RUNNING. -/
def running (s : State) : React :=
  (setSeq (fun q => { q with ran := true }) s, [.req (.charge 2 (Image.runCurrent (cfg s))), .runJudge])

def shedStop (s : State) : Bool := supplyClassShed s && !s.climate.frost

/-- R133: the stop conditions at once, then the level. Mode OFF is tested before the shed: where both hold, the stop is by the mode and
no SHED_STOP is raised, which is the model's choice (log entry 54). -/
def runJudge (s : State) : React :=
  if (seq s).state ≠ .running then (s, [])
  else if s.climate.mode = .off then (s, [.enter .stopping 0, .stopping false])
  else if shedStop s then (s, [.enter .stopping cShedStop, .stopping false])
  else if s.climate.level ≠ (seq s).started then (s, [.post (.single (.setLevel s.climate.level))])
  else (s, [])

/-- R134: the shed condition, tested at a shed level and at a withdrawal of frost demand. -/
def runShed (s : State) : React :=
  if (seq s).state = .running ∧ shedStop s = true then (s, [.enter .stopping cShedStop, .stopping false]) else (s, [])

/-- R126, R130, R131, R134: the heater demand changed. -/
def seqDemand (s : State) : React :=
  match (seq s).state with
  | .off => (s, [.heaterTest])
  | .grantWait => if s.climate.demand then (s, []) else (s, toOff 0)
  | .running => (setSeq (fun q => { q with runOn := 0 }) s, [])
  | _ => (s, [])

/-- R133: the heat level changed while RUNNING. -/
def seqLevel (s : State) : React :=
  if (seq s).state = .running then (s, [.post (.single (.setLevel s.climate.level))]) else (s, [])

/-- R128, R131: frost demand handed to the sequencer. -/
def seqFrost (b : Bool) (s : State) : React :=
  match (seq s).state with
  | .off => (s, [.heaterTest])
  | .grantWait =>
    if b && !(seq s).elevation then
      (setSeq (fun q => { q with elevation := true }) s,
       [.req (.withdraw 2), .req (.demand 2 { charge := Image.startCurrent (cfg s), elevated := true })])
    else (s, [])
  | .running => if b then (s, []) else (s, [.runShed])
  | _ => (s, [])

/-- R130, R134: a shed level handed over. -/
def seqShed (s : State) : React :=
  match (seq s).state with
  | .off => (s, [.heaterTest])
  | .running => (s, [.runShed])
  | _ => (s, [])

/-- R135: the end of the cooldown. -/
def cooldownEnd (s : State) : React :=
  if (seq s).state ≠ .stopping then (s, [])
  else if (seq s).lockout then (s, toLocked 0)
  else (setSeq (fun q => { q with failed := if q.ran then 0 else q.failed }) s, toOff 0)

/-- A unit reading is judged faulty by its mark or by phase FAULT (R129). -/
def UnitReading.bad (u : UnitReading) : Bool := u.faulty || u.phase == .fault

/-- R136: a faulty reading in OFF. -/
def offFaulty (s : State) : React :=
  if (seq s).state ≠ .off ∨ (seq s).clearPending then (s, [])
  else if (seq s).failed = 1 then
    (setSeq (fun q => { q with clearPending := true }) s, [.post (.single .clearFault)])
  else (s, toLocked cUnitFault)

/-- R134: a reading while RUNNING. -/
def runningReading (u : UnitReading) (s : State) : React :=
  if u.bad then
    (setSeq (fun q => { q with lockout := true }) s, [.enter .stopping cUnitFault, .stopping false])
  else if u.phase = .flame then (s, [])
  else
    let n := min ((seq s).failed + 1) Config.failedStartsLimit
    (setSeq (fun q => { q with failed := n, lockout := q.lockout || decide (n = Config.failedStartsLimit) }) s,
     [.enter .stopping cFlameLost, .stopping false])

/-- R138: a reading in UNIT_LOST; only a return brings the third line of the table. -/
def lostReading (u : UnitReading) (returned : Bool) (s : State) : React :=
  if u.bad then (s, toLocked (cUnitReturned ||| cUnitFault))
  else if u.phase = .idle then
    (s, if (seq s).lockout then toLocked cUnitReturned else toOff cUnitReturned)
  else if returned then
    (s, .raise .climate cUnitReturned :: (if u.phase = .cooling then [] else [.post (.single .stop)]))
  else (s, [])

/-- R129 to R139: a heater reading handed over, judged by the sequencer's state. -/
def unitReading (u : Option UnitReading) (returned : Bool) (s : State) : React :=
  let t := setSeq (fun q => { q with last := u }) s
  match (seq s).state, u with
  | .unitLost, none => (t, if returned then [.raise .climate cUnitReturned, .post (.single .stop)] else [])
  | .off, none => (t, [.heaterTest])
  | _, none => (t, [])
  | .off, some u => (t, if u.bad then [.offFaulty] else [.heaterTest])
  | .grantWait, some u => (t, if u.bad then toOff 0 ++ [.offFaulty] else [])
  | .igniting, some u =>
    if u.bad then (t, [.startFail cUnitFault])
    else match u.phase with
      | .flame => (setSeq (fun q => { q with ran := true }) t, [.enter .running 0, .running])
      | .cooling => (t, [.startFail 0])
      | _ => (t, [])
  | .running, some u => runningReading u t
  | .stopping, some u =>
    (t, if (u.phase = .idle ∨ u.phase = .fault) ∧ Image.cooldownMinimum (cfg s) ≤ (seq s).phase then [.cooldownEnd] else [])
  | .lockedOut, some _ => (t, [])
  | .unitLost, some u => lostReading u returned t

/-- R131, R138: the HEATER_UNIT record became MISSING. -/
def unitLost (s : State) : React :=
  match (seq s).state with
  | .igniting | .running | .stopping => (s, [.enter .unitLost cUnitLost, .post (.single .stop)])
  | .grantWait => (s, toOff cUnitLost)
  | _ => (s, [])

/-- R132, R133, R135, R136: the result of a heater command. The model's choices (log entry 21): a STOP answered MISSED at once, for
want of a record, is not posted again in the same step, and a STOP missed in any other state than STOPPING (one that R137, R138 or
R140 posted, or one whose result comes after STOPPING) is not posted again: R135 states the repost for STOPPING alone. -/
def heaterResult (c : HeaterCmd) (r : CmdResult) (atOnce : Bool) (s : State) : React :=
  match c with
  | .pairLevel _ | .start _ => if r = .accepted then (s, []) else (s, [.startFail 0])
  | .setLevel _ =>
    if (seq s).state = .running ∧ r = .missed ∧ atOnce = false
    then (s, [.post (.single (.setLevel s.climate.level))]) else (s, [])
  | .stop =>
    if (seq s).state = .stopping ∧ r = .missed ∧ atOnce = false then (s, [.post (.single .stop)]) else (s, [])
  | .clearFault =>
    let t := setSeq (fun q => { q with clearPending := false }) s
    if (seq s).state ≠ .off then (t, [])
    else if r = .refused then (t, toLocked cUnitFault)
    else (t, [.heaterTest])

/-- R131, R138: the supply is released in UNIT_LOST, and the elevation ends with it. -/
def releaseElevation (s : State) : State := setSeq (fun q => { q with elevation := false }) s

/-- R137: a trip of the supply. -/
def supplyTripped (s : State) : React :=
  match (seq s).state with
  | .igniting | .running | .stopping =>
    (setSeq (fun q => { q with lockout := true }) s,
     [.req (.withdraw 2), .post (.single .stop), .enter .lockedOut (cSupplyTripped ||| cLockedOut)])
  | .unitLost => (releaseElevation s, [.req (.withdraw 2)])
  | _ => (s, [])

/-- R131, R137: the HEATER SUPPLY's state reported. -/
def supplyReport (new : OutletState) (s : State) : React :=
  let t := setSeq (fun q => { q with supply := new }) s
  match new with
  | .on =>
    if (seq s).state = .grantWait then
      (setSeq (fun q => { q with started := s.climate.level }) t, [.enter .igniting 0, .igniting])
    else (t, [])
  | .tripped => supplyTripped t
  | _ => (t, [])

/-- R137: the answer to a release request: a supply granted in GRANT_WAIT is stopped without a start. In a state in which the supply
is PROTECTED the answer leaves the state as it is and shows it, ahead of a report of it that is still on its way (R129). -/
def supplyAsk (s : State) : React :=
  if (seq s).state = .grantWait then (s, [.enter .stopping 0, .stopping false])
  else if supplyProtected (seq s).state then ({ s with outlets := { s.outlets with heater := (seq s).state } }, [])
  else (s, [])

/-- The longest a phase is timed (R129). -/
def seqSecond (s : State) : State :=
  setSeq (fun q => { q with
    phase := min (q.phase + 1) Config.phaseMax
    runOn := if q.state = .running ∧ s.climate.demand = false then min (q.runOn + 1) Config.runOnLimit else q.runOn
    retry := if q.state = .off then q.retry - 1 else q.retry }) s

end Sys2Proof.Machine
end

