-- ==== Sys2Proof/Machine/MoverOps.lean ====
section
/-!
DEFINITION. The mover controller's reactions (Chapter 8): resting states (R144), the bridge semaphore (R145), the phases of a move
(R147, R148), the end sequence (R149), automatic moves (R159, R160), Hall pulses and end-stops (R142, R143), wind (R158).
-/
namespace Sys2Proof.Machine

/-- The stowed end-stop of a mover, as its filter has taken it. -/
def stowedLine (s : State) : Mover → Bool
  | .awning => s.pins.stow0.level
  | .step => s.pins.stow1.level

/-- The step's extended end-stop; the awning has none. -/
def outLine (s : State) : Mover → Bool
  | .awning => false
  | .step => s.pins.out1.level

def travelOf (s : State) (m : Mover) : Nat := Image.travel (cfg s) m

/-- R144: the state of a mover at rest. -/
def restState (s : State) (m : Mover) (x : MoverRec) : MoverState :=
  if stowedLine s m then .stowed
  else if outLine s m then .extended
  else if !x.known then .unknown
  else if m = .awning ∧ x.position = travelOf s m then .extended
  else .partialOut

def ownerIs (s : State) (m : Mover) : Bool := s.movers.owner == some m

def setBridgeOwner (o : Option Mover) (s : State) : State := { s with movers := { s.movers with owner := o } }

def setPending (m : Mover) (b : Bool) (s : State) : State :=
  match m with
  | .awning => { s with movers := { s.movers with pendingAwning := b } }
  | .step => { s with movers := { s.movers with pendingStep := b } }

def pendingOf (s : State) : Mover → Bool
  | .awning => s.movers.pendingAwning
  | .step => s.movers.pendingStep

def setDuty (n : Nat) (s : State) : State := { s with outlets := { s.outlets with duty := n } }

def stowSig : Mover → Signal
  | .awning => .awningStowed
  | .step => .stepStowed

/-- R144: the stowed signal follows the state; entering STOWED clears the pending retract. -/
def stowSignal (m : Mover) (s : State) : React :=
  let b := (mover s m).state == .stowed
  (if b then setPending m false s else s, [.signal (stowSig m) (if b then 1 else 0)])

def bridgeCharge : Mover → Nat
  | .awning => Config.awningCharge
  | .step => Config.stepCharge

/-- R148: the remaining distance. -/
def remaining (s : State) (m : Mover) (v : Move) (position : Nat) : Nat :=
  match v.target, v.dir with
  | .count n, _ => (n - position) + (position - n)
  | .stop, .out => travelOf s m - position
  | .stop, .inward => position

/-- R145, R147: take the bridge and raise the demand of outlet 5. -/
def claim (m : Mover) (s : State) : React :=
  match (mover s m).move with
  | none => (s, [])
  | some v =>
    (setBridgeOwner (some m) s,
     [.shown [.mover m] [.bridge], .req (.demand 5 { charge := bridgeCharge m, dir := some v.dir })])

/-- R146, R151: a move in hand leaves STALLED. -/
def leaveStalled (m : Mover) (s : State) : State :=
  let x := mover s m
  if x.state = .stalled then setMover m { x with state := restState s m x } s else s

/-- The default plan of an automatic move (R159, R160). In GRANT_WAIT its record shows the segment RUN (log entry 58). -/
def autoMove (s : State) (m : Mover) (tag : MoveTag) (dir : Dir) : Move :=
  { tag := tag, dir := dir, target := .stop, run := Image.runDuty (cfg s) m, creep := Image.creepDuty (cfg s) m
    creepCounts := Image.creepCounts (cfg s) m }

/-- An automatic move starts on a free bridge. -/
def autoStart (m : Mover) (tag : MoveTag) (dir : Dir) (s : State) : React :=
  let s := leaveStalled m s
  (setMover m { mover s m with move := some (autoMove s m tag dir) } s, [.stowSignal m, .claim m])

/-- R159: a mover in a move is not STOWED, whatever its state. -/
def isStowed (s : State) (m : Mover) : Bool := (mover s m).state == .stowed && (mover s m).move.isNone

/-- R159: a retract is requested if the mover is not STOWED by the time the change reaches the mover controller. -/
def requestRetract (m : Mover) (s : State) : React :=
  if isStowed s m then (s, [])
  else if s.movers.owner = none ∧ (mover s m).move = none then autoStart m .retract .inward s
  else (setPending m true s, [.shown [] [.bridge]])

/-- R145: the release is served, the step before the awning. -/
def serveRelease (s : State) : React :=
  if s.movers.owner ≠ none then (s, [])
  else if s.movers.pendingStep then autoStart .step .retract .inward (setPending .step false s)
  else if s.movers.pendingAwning then autoStart .awning .retract .inward (setPending .awning false s)
  else (s, [])

/-- R160: the step's automatic extension. The step's state alone is tested for STOWED: a step whose state is still STOWED in a move
that waits for its grant has the extension dropped with AUTO_DROPPED, though R159 says a mover in a move is not STOWED (log entry
42). -/
def extension (s : State) : React :=
  let x := s.movers.step
  if s.pins.ignition.level = false ∧ Image.autoStep (cfg s) = true ∧ x.state = .stowed ∧ x.known = true then
    if blockCount s .step ≠ 0 ∨ s.movers.owner ≠ none then (s, [.raise .movers (bit 9)])
    else autoStart .step .extend .out s
  else (s, [])

/-! ### The end of a move (R149) -/

/-- Steps 2 to 6 of the end sequence. -/
def endActs (s : State) (m : Mover) (f : Outcome) (r2 : Word) : List Act :=
  (if ownerIs s m then [.req (.withdraw 5)] else []) ++
  [.moveFree m, .stowSignal m, .moveResult m f r2, .shown [.mover m] [.bridge], .serveRelease]

/-- Step 1 of the end sequence: the drive stops, and the mover is STALLED or takes the state of R144. -/
def stopDrive (m : Mover) (stalled : Bool) (s : State) : State :=
  let x := mover s m
  match x.move with
  | some v =>
    if v.driving then
      setDuty 0 (setMover m { x with
        state := if stalled then .stalled else restState s m x
        move := some { v with driving := false, ending := true } } s)
    else setMover m { x with move := some { v with ending := true } } s
  | none => s

/-- R149: the end sequence of a mover's move. -/
def moveEnd (m : Mover) (f : Outcome) (r2 : Word) (s : State) : React :=
  match (mover s m).move with
  | none => (s, [])
  | some v => if v.ending then (s, []) else (stopDrive m (f == .stalled) s, endActs s m f r2)

/-- Step 3: the semaphore owner becomes NONE. -/
def moveFree (m : Mover) (s : State) : State := if ownerIs s m then setBridgeOwner none s else s

/-- MOVERS cause bits by mover (Section 8.8). -/
def autoCause (m : Mover) (f : Outcome) : BitVec 32 := bit ((if f = .ok then 0 else 2) + moverIndex m)

def stallCause (m : Mover) : BitVec 32 := bit (4 + moverIndex m)

def positionWord (x : MoverRec) : Word := if x.known then Word.nat x.position else Config.noneWord

/-- Steps 5 and 6: the result is reported and the move record cleared. -/
def moveResult (m : Mover) (f : Outcome) (r2 : Word) (s : State) : React :=
  let x := mover s m
  match x.move with
  | none => (s, [])
  | some v =>
    let stall := if f = .stalled then [.raise .movers (stallCause m)] else []
    match v.tag with
    | .host n =>
      (setMover m { x with move := none } s,
       .finish n { outcome := f, r0 := positionWord x, r1 := x.state.code, r2 := r2 } :: stall)
    | _ =>
      (setMover m { x with move := none, lastAuto := some f } s, .raise .movers (autoCause m f) :: stall)

/-! ### Driving (R147, R148) -/

/-- R148: entry into DRIVING. With creep counts 0 and no distance left the comparison of R148 gives CREEP, though Section 8.4 has the
whole way in RUN (log entry 41). A goal that the position meets already does not end the move here: R150 is judged at each pulse and
end-stop alone, which is the model's choice (log entry 56). -/
def driveStart (m : Mover) (v : Move) (s : State) : React :=
  let x := mover s m
  if v.dir = .out ∧ x.known = false then (s, [.moveEnd m .positionUnknown 0])
  else
    let creeping := !x.known || decide (remaining s m v x.position ≤ v.creepCounts)
    let s := setMover m { x with
      state := if v.dir = .out then .movingOut else .movingIn
      lastDir := some v.dir
      move := some { v with driving := true, creeping := creeping, timer := 0, stall := 0, report := .on } } s
    (setIdle 0 (setDuty (if creeping then v.creep else v.run) s), [.stowSignal m, .shown [.mover m] []])

/-- R147, R153, R155: the BRIDGE's state reported to the mover that owns it. -/
def bridgeReport (new : OutletState) (s : State) : React :=
  match s.movers.owner with
  | none => (s, [])
  | some m =>
    match (mover s m).move with
    | none => (s, [])
    | some v =>
      if v.ending then
        (s, if new = .shed ∨ new = .waiting then endActs s m .shed 0 else [])
      else match new with
        | .tripped => (s, [.moveEnd m .tripped 0])
        | .on => if v.driving then (s, []) else driveStart m v s
        | x => (if v.driving then s else setMover m { mover s m with move := some { v with report := x } } s, [])

/-- R155: the answer to a release request: the outward move stops and is marked to end with SHED. -/
def bridgeAsk (s : State) : React :=
  match s.movers.owner with
  | some m => (stopDrive m false s, [.shown [.mover m] []])
  | none => (s, [])

/-- R154: block begins ends an outward move. -/
def blockBegins (m : Mover) (s : State) : React :=
  match (mover s m).move with
  | some v => if v.dir = .out then (s, [.moveEnd m .interlocked 0]) else (s, [])
  | none => (s, [])

/-! ### Pulses and end-stops (R142, R143) -/

/-- The position one pulse on, between 0 and the travel. -/
def pulsed (s : State) (m : Mover) (d : Dir) (position : Nat) : Nat :=
  match d with
  | .out => min (position + 1) (travelOf s m)
  | .inward => min (position - 1) (travelOf s m)

/-- R150: the goal a pulse reaches, with the ending detail. An IN move accepted with its position unknown has END for its target
(R146). One accepted with its position known, which loses it in GRANT_WAIT and regains it at OUT1 on the way, ends at its count: the
model's choice (log entry 55). -/
def goalReached (s : State) (m : Mover) (v : Move) (x : MoverRec) : Option Word :=
  if !x.known then none
  else match v.target, v.dir with
    | .count n, .out => if n ≤ x.position then some 0 else none
    | .count n, .inward => if x.position ≤ n then some 0 else none
    | .stop, .out => if m = .awning ∧ x.position = travelOf s m then some 2 else none
    | .stop, .inward => none

/-- R142, R148, R151: a pulse while DRIVING: the position, the stall timer, the target, the segment. With creep counts 0 and no
distance left the comparison of R148 gives CREEP (log entry 41). -/
def drivePulse (m : Mover) (v : Move) (s : State) : React :=
  let v := { v with stall := 0 }
  let x : MoverRec := { mover s m with position := pulsed s m v.dir (mover s m).position, move := some v }
  match goalReached s m v x with
  | some r2 => (setMover m x s, [.moveEnd m .ok r2])
  | none =>
    if v.creeping = false ∧ remaining s m v x.position ≤ v.creepCounts then
      (setDuty v.creep (setMover m { x with move := some { v with creeping := true } } s), [.shown [.mover m] []])
    else (setMover m x s, [])

/-- R142: a pulse at rest counts in the last direction. -/
def restPulse (m : Mover) (s : State) : React :=
  let x := mover s m
  match x.lastDir with
  | none => (s, [])
  | some d =>
    let y := { x with position := pulsed s m d x.position }
    let z := if y.state = .partialOut ∨ y.state = .extended then { y with state := restState s m y } else y
    (setMover m z s, [.stowSignal m])

def hallPulse (m : Mover) (s : State) : React :=
  match (mover s m).move with
  | some v => if v.driving then drivePulse m v s else restPulse m s
  | none => restPulse m s

def stopMover : EndStop → Mover
  | .stow0 => .awning
  | .stow1 | .out1 => .step

/-- R143: an end-stop becomes asserted. At rest the state is the one R143 names for this input; the table of R144 is not consulted,
which matters only with both of the step's switches asserted (log entry 40). -/
def stopAsserted (e : EndStop) (s : State) : React :=
  let m := stopMover e
  let x : MoverRec := { mover s m with position := if e = .out1 then travelOf s m else 0, known := true }
  if x.state.moving then
    let mine := if e = .out1 then x.state == .movingOut else x.state == .movingIn
    (setMover m x s, if mine then [.moveEnd m .ok 1] else [])
  else (setMover m { x with state := if e = .out1 then .extended else .stowed } s, [.stowSignal m])

/-- R143: an end-stop becomes deasserted; the same choice (log entry 40). -/
def stopReleased (e : EndStop) (s : State) : React :=
  let m := stopMover e
  let x := mover s m
  if x.state.moving then (s, [])
  else (setMover m { x with known := false, state := .unknown } s, [.stowSignal m, .raise .movers (bit (6 + moverIndex m))])

/-! ### Wind and timers -/

/-- R158: the speed of the second. -/
def speedOf (s : State) : Nat := min (s.movers.windPulses * 10 / Image.windFactor (cfg s)) Config.windMax

/-- R158: the speed of the second and the counts; a change of WIND_HIGH is handed on. -/
def windSecond (s : State) : React :=
  let v := s.movers
  let speed := speedOf s
  let high := decide (Image.windLimit (cfg s) ≤ speed)
  let base := { v with windPulses := 0, windSpeed := speed }
  if v.windHigh then
    if reaches (!high) v.windClear Config.windClearHold then
      ({ s with movers := { base with windHigh := false, windSet := 0, windClear := Config.windClearHold } }, [.signal .windHigh 0])
    else ({ s with movers := { base with windClear := countUp (!high) v.windClear Config.windClearHold } }, [])
  else
    if reaches high v.windSet Config.windSetHold then
      ({ s with movers := { base with windHigh := true, windClear := 0, windSet := Config.windSetHold } },
       [.signal .windHigh 1, .raise .movers (bit 8), .shown [] [.bridge]] ++
         (if s.charge.power = .starting then [] else [.retract .awning]))
    else ({ s with movers := { base with windSet := countUp high v.windSet Config.windSetHold } }, [])

/-- R158: the speed has gone from below the limit to at or above it. -/
def windCrossed (s : State) : Bool :=
  decide (s.movers.windSpeed < Image.windLimit (cfg s)) && decide (Image.windLimit (cfg s) ≤ speedOf s)

def moveSecond (s : State) (m : Mover) (x : MoverRec) : MoverRec :=
  { x with move := x.move.map fun v =>
      if v.driving then { v with timer := min (v.timer + 1) (Image.moveLimit (cfg s) m) }
      else { v with grant := min (v.grant + 1) Config.grantWindow } }

/-- R151: one sample period of the stall timer of a mover in DRIVING. -/
def stallStep (x : MoverRec) : MoverRec :=
  { x with move := x.move.map fun v =>
      if v.driving then { v with stall := min (v.stall + Config.samplePeriod) Config.stallWindow } else v }

/-- R80, R151: the BRIDGE is sampled every 10 ms while it is ON, which it is throughout DRIVING: its samples time the stall (log
entry 8). -/
def stallTick (o : Fin 16) (s : State) : State :=
  if o = 5 then
    { s with movers := { s.movers with awning := stallStep s.movers.awning, step := stallStep s.movers.step } }
  else s

/-- R147, R152: the second-granular timers of the moves. -/
def moversSecond (s : State) : State :=
  { s with movers := { s.movers with
      awning := moveSecond s .awning s.movers.awning, step := moveSecond s .step s.movers.step } }

end Sys2Proof.Machine
end

