-- ==== Sys2Proof/Machine/LightOps.lean ====
section
/-!
DEFINITION. The lighting controller's reactions (Chapter 9): ramps (R165), outlet reports (R166, R167), the scene cache (R168 to
R170), recalls and their endings (R172, R173), the entry scene (R175).
-/
namespace Sys2Proof.Machine

def channels : List (Fin 6) := List.finRange 6

/-- R165: the ramp step of a new target. -/
def rampStepOf (output target ramp : Nat) : Nat :=
  if ramp < 10 then 1000
  else max 1 ((((output - target) + (target - output)) * 10 + (ramp - 1)) / ramp)

/-- The records a recall changes: every channel, and the cache with the last entry outcome. -/
def recallParts : List Part := .cache :: channelParts

/-- R164: raise or withdraw the demand after a channel's target has been set. -/
def lightDemand (s : State) (c : Fin 6) : List Act :=
  let x := channel s c
  let o := lightOutlet c
  if 0 < x.target then
    (if (outlet s o).demand.isNone then [.req (.demand o { charge := ratedOf s o })] else [])
  else if x.output = 0 ∧ (outlet s o).demand.isSome then [.req (.withdraw o)]
  else []

/-- The move of one ramp interval (R165). -/
def rampMove (x : Channel) : Nat :=
  if x.output < x.target then min (x.output + x.rampStep) x.target else max (x.output - x.rampStep) x.target

/-- R165: one channel's ramp interval. An arrival of the channel goes to the digest with its output level (R178). -/
def ramp (c : Fin 6) (s : State) : React :=
  let x := channel s c
  if (outlet s (lightOutlet c)).state = .on ∧ x.output ≠ x.target then
    let t := setChannel c { x with output := rampMove x } s
    (t, (if x.target = 0 then lightDemand t c else []) ++
        (match x.owner with | some n => [.recallTest n] | none => []) ++
        [.shown (if rampMove x = x.target then [.channel c] else []) recallParts])
  else (s, [])

/-- R166, R164: the channel's outlet went dark, from ON or not; a channel whose target is 0 has then reached it, and its demand is
withdrawn. The flag marks a channel cut from ON: a light refused at its first demand fades up when it first goes ON (log entry 23). -/
def lightCut (c : Fin 6) (fromOn : Bool) (test : List Act) (s : State) : React :=
  let x := channel s c
  let t := setChannel c { x with output := 0, shedDark := x.shedDark || fromOn } s
  (t, (if x.target = 0 then lightDemand t c else []) ++ test)

/-- R166, R167: a channel's outlet state reported; then the owner's arrival, and the digest with the output level (R178). -/
def lightReport (c : Fin 6) (old new : OutletState) (s : State) : React :=
  let x := channel s c
  let test := (match x.owner with | some n => [Act.recallTest n] | none => []) ++ [.shown [.channel c] recallParts]
  match new with
  | .on =>
    if s.charge.power = .rest then
      (setChannel c { x with target := 0, output := 0, shedDark := false, owner := none } s,
       [.req (.withdraw (lightOutlet c)), .raise .lights (bit 2)] ++ test)
    else if x.shedDark then (setChannel c { x with output := x.target, shedDark := false } s, test)
    else (s, test)
  | .waiting | .shed | .inhibited | .tripped => lightCut c (old == .on) test s
  | .off => (setChannel c { x with output := 0, shedDark := false } s, test)

/-! ### The scene cache (R168 to R170) -/

/-- R168: the first failing word of a record. -/
def offending (l : List Word) : Option Nat :=
  (List.range 7).find? fun i =>
    let w := (l.getD i 0).toNat
    if i = 6 then decide (10000 < w) else !(decide (w ≤ 1000) || w == 0xFFFF)

def cacheEntry (s : State) (k : Fin 8) : CacheEntry := s.lights.cache[k]

def cacheOf (s : State) (n : Fin 32) : Option (Fin 8) :=
  (List.finRange 8).find? fun k => (cacheEntry s k).valid && (cacheEntry s k).scene == n

/-- Record n of the scene table. -/
def sceneRecord (s : State) (n : Fin 32) : List Word := Mem.readList 0 s.ram.scenes (Config.sceneBase + 16 * n.val) 16

/-- What a lookup gives: the words to apply and whether it was a hit, or the offending word (R169). -/
inductive Lookup where
  | found (words : List Word) (hit : Bool)
  | invalid (word : Nat)
  deriving DecidableEq, Repr

/-- R169: the lookup, the read, the check and the store, in one action. -/
def lookup (n : Fin 32) (s : State) : State × Lookup :=
  match cacheOf s n with
  | some k => (s, .found (cacheEntry s k).copy true)
  | none =>
    let l := sceneRecord s n
    match offending l with
    | some w => (s, .invalid w)
    | none =>
      ({ s with lights := { s.lights with
          cache := s.lights.cache.set s.lights.pointer { scene := n, valid := true, copy := l }
          pointer := s.lights.pointer + 1 } }, .found l false)

/-- R170: a host write to record n drops its valid entry. -/
def invalidate (n : Fin 32) (s : State) : State :=
  match cacheOf s n with
  | some k => { s with lights := { s.lights with cache := s.lights.cache.set k { cacheEntry s k with valid := false } } }
  | none => s

/-! ### Recalls (R172) -/

/-- The channels a scene retargets. -/
def touched (l : List Word) : List (Fin 6) := channels.filter fun c => l.getD c.val 0 != Config.noneWord

/-- R172: a channel's new target, ramp step and owner. A demand raised anew begins with the shed-dark flag 0 (R166, log entry 23). -/
def retarget (l : List Word) (n : LightOwner) (c : Fin 6) (s : State) : State :=
  let x := channel s c
  let t := (l.getD c.val 0).toNat
  setChannel c { x with
    target := t, rampStep := rampStepOf x.output t (l.getD 6 0).toNat, owner := some n
    shedDark := x.shedDark && !(decide (0 < t) && (outlet s (lightOutlet c)).demand.isNone) } s

def dropRecalls (l : List LightOwner) (s : State) : State :=
  { s with lights := { s.lights with recalls := s.lights.recalls.filter fun r => !l.contains r.owner } }

/-- The owner of these channels becomes none. -/
def clearOwner (n : LightOwner) : List (Fin 6) → State → State
  | [], s => s
  | c :: cs, s =>
    clearOwner n cs (if (channel s c).owner = some n then setChannel c { channel s c with owner := none } s else s)

def clearOwners : List LightOwner → State → State
  | [], s => s
  | n :: l, s => clearOwners l (clearOwner n channels s)

/-- R172: the owners a recall has superseded, each with the lowest channel it lost, in ascending order of that channel. -/
def loseChannel (n : LightOwner) (c : Fin 6) (owner : Option LightOwner) (lost : List (LightOwner × Fin 6)) :
    List (LightOwner × Fin 6) :=
  match owner with
  | some p => if p = n ∨ lost.any (fun e => e.1 == p) then lost else lost ++ [(p, c)]
  | none => lost

/-- R172: one channel of a recall: retargeted, a superseded recall no longer tested, the demand raised or withdrawn, with all that
this sets off before the next channel. After the last, the superseded owners' other channels go to no owner and their orders end. -/
def recallStep (l : List Word) (n : LightOwner) (hit : Bool) (cs : List (Fin 6)) (lost : List (LightOwner × Fin 6))
    (s : State) : React :=
  match cs with
  | c :: cs =>
    let lost' := loseChannel n c (channel s c).owner lost
    let t := dropRecalls (lost'.map (·.1)) (retarget l n c s)
    (t, lightDemand t c ++ [.recallOn l n hit cs lost'])
  | [] =>
    (clearOwners (lost.map (·.1)) s,
     lost.map (fun e => Act.supersede e.1 n e.2) ++
       [.applied n (touched l).length hit, .shown ((touched l).map Part.channel) recallParts])

/-- R172: a recall of these words, LIGHT 0 to LIGHT 5; then its arrival is tested and the digest written. -/
def applyRecall (l : List Word) (n : LightOwner) (hit : Bool) (s : State) : React := (s, [.recallOn l n hit (touched l) []])

/-- R172: one superseded order ends. -/
def supersede (old new : LightOwner) (c : Fin 6) (s : State) : React :=
  match old with
  | .host n =>
    (s, [.finish n { outcome := .superseded, r0 := Word.nat c.val,
                     r1 := match new with | .host m => Word.nat m.val | .entry _ => Config.noneWord }])
  | .entry _ => ({ s with lights := { s.lights with lastEntry := some .superseded } }, [.raise .lights (bit 1)])

def ownedBy (s : State) (n : LightOwner) : List (Fin 6) := channels.filter fun c => (channel s c).owner == some n

/-- R172: what an arrived recall reports. -/
def arrive (r : Recall) (s : State) : React :=
  let dark := ((ownedBy s r.owner).filter (heldDark s)).length
  let t := clearOwner r.owner channels (dropRecalls [r.owner] s)
  match r.owner with
  | .host n =>
    (t, [.finish n { outcome := .ok, r0 := Word.nat r.retargeted, r1 := Word.nat dark, r2 := Word.flag r.hit }])
  | .entry _ => ({ t with lights := { t.lights with lastEntry := some .ok } }, [.raise .lights (bit 0)])

/-- R172: the arrival test of an owner. -/
def recallTest (n : LightOwner) (s : State) : React :=
  match s.lights.recalls.find? fun r => r.owner == n with
  | some r => if (ownedBy s n).all (arrived s) then arrive r s else (s, [])
  | none => (s, [])

/-- R172: the recall has been applied to every channel; from here on its arrival is tested. -/
def applied (n : LightOwner) (retargeted : Nat) (hit : Bool) (s : State) : React :=
  ({ s with lights := { s.lights with recalls := { owner := n, retargeted := retargeted, hit := hit } :: s.lights.recalls } },
   [.recallTest n])

/-- R173: a channel the cancelled recall owns stops where it stands, unless it is held dark. -/
def stopChannel (c : Fin 6) (s : State) : State :=
  if heldDark s c then s else setChannel c { channel s c with target := (channel s c).output } s

def stopChannels : List (Fin 6) → State → State
  | [], s => s
  | c :: l, s => stopChannels l (stopChannel c s)

/-- R173: the cancel of a recall. Where several of its channels have reached a target of 0, their demands are withdrawn from LIGHT 0 to
LIGHT 5, each with its arbiter run before the next: the model's choice (log entry 34). -/
def cancelRecall (n : Fin 32) (s : State) : React :=
  let cs := ownedBy s (.host n)
  let midRamp := (cs.filter fun c => !arrived s c).length
  let t := clearOwner (.host n) channels (dropRecalls [.host n] (stopChannels cs s))
  (t, cs.flatMap (lightDemand t) ++
    [.finish n { outcome := .cancelled, r0 := Word.nat midRamp }, .shown (cs.map Part.channel) recallParts])

/-- R175: the lowest record whose ENTRY flag is set. -/
def entryScene (s : State) : Option (Fin 32) :=
  (List.finRange 32).find? fun n => ((sceneRecord s n).getD 7 0).getLsbD 0

/-- R175: the door opens with the ignition off: the entry scene is recalled as a new entry recall. -/
def doorScene (s : State) : React :=
  if s.pins.ignition.level then (s, [])
  else match entryScene s with
    | none => (s, [])
    | some n =>
      match lookup n s with
      | (t, .found l hit) =>
        applyRecall l (.entry t.lights.nextEntry) hit { t with lights := { t.lights with nextEntry := t.lights.nextEntry + 1 } }
      | (t, .invalid _) => ({ t with lights := { t.lights with lastEntry := some .badParam } }, [.raise .lights (bit 1)])

end Sys2Proof.Machine
end

