-- ==== Sys2Proof/Machine/Perform.lean ====
section
/-!
DEFINITION. One act of a cascade, and the run of a cascade to its end. The number of acts is bounded (log entry 16).
-/
namespace Sys2Proof.Machine

/-- R85: the owner of an outlet is told of its state. During STARTING the owners do not run yet (log entry 29). -/
def ownerReport (o : Fin 16) (old new : OutletState) (s : State) : React :=
  if s.charge.power = .starting then (s, [])
  else if o = 0 then showing [.water] (pumpReport new) s
  else if o = 2 then closing [] [.climate] (supplyReport new) s
  else if o = 5 then bridgeReport new s
  else if o = 7 then showing [.water] (fillReport new) s
  else if o = 9 then (padReport new s, [])
  else match channelOf o with
    | some c => lightReport c old new s
    | none => (s, [])

/-- R78: the owner's answer to a release request. -/
def ownerAsk (o : Fin 16) (s : State) : React :=
  if o = 2 then supplyAsk s else if o = 5 then bridgeAsk s else (s, [])

/-- R83: what a TRIP_CLEAR reports: the state the outlet was cleared into, and the granted total. -/
def tripResult (o : Fin 16) (s : State) : Finish :=
  { outcome := .ok, r0 := (outlet s o).state.code, r1 := Word.nat (grantedTotal s) }

/-- R85: once the owners have been told: the idle conditions, the digest. -/
def afterReports (s : State) : State := syncPart .outlets (idleCheck s)

def perform (a : Act) (r : Run) : Run :=
  match a with
  | .req q => r.req q
  | .take q => r.take q
  | .drain => r.drain
  | .action l => r.action l
  | .arbiterIf => r.arbiterIf
  | .restore b => { r with room := b }
  | .flush => r.flush
  | .flushEnd => r.onState afterReports
  | .actEnd => r.actEnd
  | .judge o => r.judge o
  | .preempt o => Run.push { r with revoked := false } [.pass (.room o)]
  | .pass g => r.pass g
  | .ask o _ => if (outlet r.st o).state = .on ∧ effClass r.st o ≠ 0 then r.react (ownerAsk o) else r
  | .cut o c => r.cut o c
  | .cutRest => r.cutRest
  | .rejudge o c => r.rejudge o c
  | .arbiter => r.arbiter
  | .consider o => r.consider o
  | .clearTrip o => r.clearTrip o
  | .trip o => r.trip o
  | .tripDone n o => r.onState fun s => finish n (tripResult o s) s
  | .rises l => r.rises l
  | .fall o k => r.fall o k
  | .shedLevel n => r.shedLevel n
  | .limit n => r.limit n
  | .overLimit b => r.overLimit b
  | .report o old new => r.react (ownerReport o old new)
  | .signal g v => r.signal g v
  | .blockRise m k => r.react (blockRise m k)
  | .blockFall m k => r.onState (blockFall m k)
  | .notices l b => r.onState (evalNotices l b)
  | .evalEnd => r.evalEnd
  | .resume n => { r with acting := n }
  | .raise g b => r.onState (raise g b)
  | .finish n f => r.onState (finish n f)
  | .shown m l => r.onState (showAction m l)
  | .solar => r.react (showing [.charge] solarEval)
  | .floatResult x => r.react (showing [.charge] (floatDone x))
  | .shedEval => r.react shedEval
  | .limitEval => r.react limitEval
  | .post e => r.react (postHeater e)
  | .postFloat => r.react postFloat
  | .result c x b => r.react (heaterResult c x b)
  | .freshPump => r.react freshPump
  | .freshFill => r.react freshFill
  | .pumpStart => r.react pumpStart
  | .pumpDry c => r.react (showing [.water] (pumpDry c))
  | .fillEnd e => r.react (fillEnd e)
  | .fillFinish e => r.react (showing [.water] (fillFinish e))
  | .frostTemp b => r.react (showing [.water] (frostEval b))
  | .stage t b => r.react (stageChange t b)
  | .stageFill t => r.react (stageFill t)
  | .stageLeave a b => r.react (stageLeave a b)
  | .stageBegin a b => r.react (stageBegin a b)
  | .drainLatch => r.react drainLatch
  | .delivered b => r.react (showing [.water] fun s => (setDelivered b s, []))
  | .zoneFollow z => r.react (zoneFollow z)
  | .heatDemand => r.react heatDemand
  | .frostDemand b => r.react (frostDemand b)
  | .seqFrost b => r.react (seqFrost b)
  | .seqShed => r.react seqShed
  | .seqDemand => r.react seqDemand
  | .seqLevel => r.react seqLevel
  | .heaterTest => r.react heaterTest
  | .enter x b => r.react (enter x b)
  | .seqReport => r.seqReport
  | .seqFlags => r.onState seqFlags
  | .igniting => r.react igniting
  | .running => r.react running
  | .stopping b => r.react (stopping b)
  | .startFail b => r.react (startFail b)
  | .runJudge => r.react runJudge
  | .runShed => r.react runShed
  | .cooldownEnd => r.react cooldownEnd
  | .unitReading u b => r.react (closing [] [.climate] (unitReading u b))
  | .unitLost => r.react unitLost
  | .offFaulty => r.react offFaulty
  | .blockBegins m => r.apart.react (blockBegins m)
  | .stowSignal m => r.react (stowSignal m)
  | .claim m => r.react (claim m)
  | .moveEnd m f x => r.react (moveEnd m f x)
  | .moveFree m => r.onState (moveFree m)
  | .moveResult m f x => r.react (moveResult m f x)
  | .serveRelease => r.react serveRelease
  | .retract m => r.react (requestRetract m)
  | .extension => r.react extension
  | .doorScene => r.react doorScene
  | .recallOn l n b cs lost => r.react (recallStep l n b cs lost)
  | .applied n k b => r.react (applied n k b)
  | .supersede a b c => r.react (supersede a b c)
  | .recallTest n => r.react (recallTest n)
  | .ramp c => r.react (ramp c)

/-- Perform the acts on the stack, at most `k` of them; acts left over are lost and the overrun mark is set. -/
def settle : Nat → Run → State
  | 0, r => if r.work.isEmpty then r.st else { r.st with overrun := true }
  | k + 1, r =>
    match r.work with
    | [] => r.st
    | a :: l => settle k (perform a { r with work := l })

/-- The bound on the acts of one cascade. -/
def cascadeBound : Nat := 10000

/-- Run a cascade that starts with these acts. -/
def run (l : List Act) (s : State) : State := settle cascadeBound { st := s, work := l }

/-- Hand out the net changes of one evaluation (R94): what owners ask meanwhile waits for its end (R85). -/
def runEval (l : List Act) (s : State) : State := settle cascadeBound { st := s, work := l, evals := 1 }

/-- Run a reaction and the cascade it sets off. -/
def runReact (f : State → React) (s : State) : State := run (f s).2 (f s).1

/-- Run acts one after the other, each cascade to its end. -/
def runEach : List Act → State → State
  | [], s => s
  | a :: l, s => runEach l (run [a] s)

end Sys2Proof.Machine
end

