-- ==== Sys2Proof/Machine/Power.lean ====
section
/-!
DEFINITION. REST and waking (R59, R61), and what every command shares: the part under RESET, the power states in which a block runs.
-/
namespace Sys2Proof.Machine

def setPower (p : PowerState) (s : State) : State := { s with charge := { s.charge with power := p, idle := 0 } }

/-- R59: entry into REST. -/
def enterRest (s : State) : State :=
  raise .energy (bit 2) (syncPart .charge (restScale (run [.signal .rest 1] (setPower .rest s))))

/-- R61: a wake event in REST returns the part to ACTIVE. -/
def wake (s : State) : State :=
  raise .energy (bit 3) (syncPart .charge (allDue (nowMs s 0) (run [.signal .rest 0] (setPower .active s))))

/-- R61: a wake event sets the idle timer to 0 and ends REST. -/
def wakeEvent (s : State) : State :=
  if s.charge.power = .rest then wake s else setIdle 0 s

/-- R58, R61: every host access sets the idle timer to 0 and is a wake event; the wake is complete, its digest updates with it, before
the access is taken. -/
def access (s : State) : State := if s.charge.power = .rest then close (wake s) else setIdle 0 s

/-- The dispatcher and the owners run in ACTIVE and REST (R12, R187). -/
def blocksRun (s : State) : Bool := !s.pins.reset && s.charge.power != .starting

/-- While RESET is held the blocks are stopped (R188): a command changes nothing. -/
def live (f : State → State) (s : State) : State := if s.pins.reset then s else closeFrom s (f s)

/-- A command of a block that runs from ACTIVE on. -/
def inRun (f : State → State) (s : State) : State := if blocksRun s then close (f s) else s

end Sys2Proof.Machine
end

