-- ==== Sys2Proof/Machine/Start.lean ====
section
/-!
DEFINITION. The start (Section 10.5): power-on (R26), RESET (R27, R188), the sweep, the settings load (R186), the start states of the
blocks (R42, R62, R63, R87, R88, R101, R121, R140, R162, R176), the entry into ACTIVE (R187).
-/
namespace Sys2Proof.Machine

/-! ### Settings load (R186) -/

/-- A word of the sector (R184). An incomplete erase leaves FORMAT 0xFFFF and the rest unknown; an incomplete program has written the
image up to some offset, the word there is unknown, and all above it and FORMAT are still erased (log entry 4). -/
def flashWord (f : Flash) (o : Nat) : Word :=
  match f.tear with
  | .whole => Mem.read 0xFFFF f.cells o
  | .erasing => if o = 0 then 0xFFFF else Config.flashRemnant f.ops o
  | .programming =>
    if o = 0 then 0xFFFF
    else if o < Config.programReach f.ops then Image.word f.source o
    else if o = Config.programReach f.ops then Config.flashRemnant f.ops o
    else 0xFFFF

def flashImage (f : Flash) : Image := Image.ofWords 0 ((List.range 0x201).map (flashWord f))

def loadSettings (s : State) : State :=
  let i := flashImage s.store.flash
  let r := Image.judge i
  { s with store := { s.store with
      phase := .idle, slot := none, result := r, defaults := r != .valid
      active := if r = .valid then i else Image.default } }

/-! ### Start states -/

/-- R50, R143, R162: the first filtered levels are the present ones. -/
def settleLine (l : Line) : Line := { l with level := l.raw }

def settlePins (s : State) : State :=
  let p := s.pins
  { s with pins := { p with
      ignition := settleLine p.ignition, engineRun := settleLine p.engineRun, shorePresent := settleLine p.shorePresent
      door := settleLine p.door, pressureLow := settleLine p.pressureLow, stow0 := settleLine p.stow0, stow1 := settleLine p.stow1
      out1 := settleLine p.out1 } }

/-- R62, R63: the tally of a start. -/
def startTally (k : StartKind) (s : State) : Tally :=
  let cap := Image.capacity (cfg s)
  let t : Tally := { capacity := cap, charge := cap / 2, acc := 0, synced := false, fullCount := 0, emptyCount := 0 }
  match k with
  | .powerOn => t
  | .restart =>
    if cap < s.retained.charge then { t with charge := cap }
    else { t with charge := s.retained.charge, acc := s.retained.acc, synced := s.retained.synced }

/-- R62: the first shed level and budget limit, handed to the outlet controller; no ENERGY cause is raised for them. -/
def firstLevels (s : State) : State :=
  let s := { s with charge := { s.charge with shedLevel := shedOf s, limit := limitOf s } }
  { s with outlets := { s.outlets with shedLevel := s.charge.shedLevel, limit := s.charge.limit } }

/-- R62, R63: the charge monitor, with its first shed level and budget limit. -/
def startCharge (k : StartKind) (s : State) : State :=
  let c : Charge :=
    { power := .starting, tally := startTally k s, socLevel := 0, floor := false, floorEntry := 0, floorExit := 0
      hostFloor := 0, shedLevel := 0, shore := s.pins.shorePresent.level, alternator := s.pins.engineRun.level
      solar := false, idle := 0, lastFloat := none, limit := 0, volts := 0, amps := 0 }
  firstLevels (keepTally (socEval { s with charge := c }))

/-- R121: the water controller; the latch of a restart comes from the retained record. -/
def startWater (k : StartKind) (s : State) : State :=
  let latch := match k with
    | .powerOn => false
    | .restart => s.retained.latch
  let s := { s with water :=
    { pump := { auto := Image.pumpAuto (cfg s) }
      frost := { stage := if latch then .dump else .watch } } }
  setHeld 1 latch (setLatch latch s)

def startZone (i : Image) (z : Nat) : Zone :=
  { hostTarget := Image.zoneTarget i z, hostOn := Image.zoneOn i z, target := Image.zoneTarget i z, on := Image.zoneOn i z }

/-- R140: the climate controller; a heater whose supply is held starts in STOPPING. Elevation is 0 after every start (Section 7.6),
whatever the standing demand carries. The model's choice (log entry 48): the started level is 0 and the last supply state is the
outlet's. -/
def startClimate (k : StartKind) (s : State) : State :=
  let was := match k with
    | .powerOn => false
    | .restart => s.retained.heater
  let hold := was && (outlet s 2).state == .on
  let q : Sequencer :=
    { state := if hold then .stopping else .off, supply := (outlet s 2).state }
  let s := { s with
    climate :=
      { mode := Image.climateMode (cfg s), zones := #v[startZone (cfg s) 0, startZone (cfg s) 1, startZone (cfg s) 2]
        seq := q, stopAtActive := was }
    outlets := { s.outlets with heater := q.state } }
  seqFlags s

/-- R162: a mover's start record; the pulses of a mover that was driving are lost. Its retained number stands with known 0, where
Section 8.9's table can be read as clearing the position too: the model's choice (log entry 60). A retained position beyond the new
travel is not known, and its number stands above the travel until a pulse, an end-stop or the next start: the model's choice
(log entry 59). -/
def startMover (k : StartKind) (m : Mover) (s : State) : State :=
  let kept := match m with
    | .awning => s.retained.awning
    | .step => s.retained.step
  let x : MoverRec := match k with
    | .powerOn => {}
    | .restart => { position := kept.position, known := kept.known && !kept.moving && decide (kept.position ≤ travelOf s m) }
  let y := if stowedLine s m then { x with position := 0, known := true }
    else if outLine s m then { x with position := travelOf s m, known := true } else x
  setMover m { y with state := restState s m y } s

def startMovers (k : StartKind) (s : State) : State :=
  startMover k .step (startMover k .awning { s with movers := {} })

def b2n (b : Bool) : Nat := if b then 1 else 0

/-- R101: the initial signal set. -/
def startSignals (s : State) : Signals :=
  let p := s.pins
  #v[0, b2n p.ignition.level, b2n p.engineRun.level, b2n p.shorePresent.level, b2n p.door.level, 0, s.charge.shedLevel, 0,
     s.water.frost.stage.code, b2n s.water.frost.latch, 0, 0, b2n s.climate.seq.state.active,
     b2n (s.movers.awning.state == .stowed), b2n (s.movers.step.state == .stowed), 0]

/-- R101: the term table of the active settings and the initial values, not yet evaluated. -/
def startInterlock (s : State) : State :=
  { s with interlock :=
      { signals := startSignals s
        terms := (Image.terms (cfg s)).map fun t => { record := t, active := false } } }

/-- Every block takes its start state from the active settings, the retained record and the filtered levels. -/
def startBlocks (k : StartKind) (s : State) : State :=
  let s := { s with link := {}, lights := {}, start := k, time := 0 }
  startInterlock (startMovers k (startClimate k (startWater k (startCharge k s))))

/-! ### Power-on (R26) -/

/-- What a power-on keeps: the pins and the flash. -/
def powerOnBase (s : State) : State :=
  { s with
    ram := {}, port := {}, disp := {}, pins := { s.pins with reset := false }
    outlets := { shedLevel := 0, limit := 0 }
    store := { s.store with buffer := [] }
    retained := {}, overrun := false }

def powerOn (s : State) : State := startBlocks .powerOn (settlePins (loadSettings (powerOnBase s)))

/-! ### RESET (R27, R188) -/

/-- R88: the outlet is held through the restart. -/
def isHeld (o : Fin 16) (x : Outlet) : Bool := (o == 1 || o == 2) && x.held && x.state == .on

/-- R88: a held outlet keeps its drive, charge and demand as the oldest of all, its orders 0; every other is OFF. That the orders
of the others become 0 too, and that the counters give out 1 first again, is the model's choice (log entry 52). -/
def restartOutlet (o : Fin 16) (x : Outlet) : Outlet :=
  if isHeld o x then { x with requestOrder := 0, grantOrder := 0, inhibit := 0 } else { held := x.held }

def restartOutlets (s : State) : State :=
  { s with outlets := { s.outlets with
      table := Vector.ofFn fun o => restartOutlet o (outlet s o), nextRequest := 1, nextGrant := 1, duty := 0 } }

/-- R177, R179: an update that the restart interrupts leaves UPDATE COUNT odd. None of its words has been written yet, which is the
model's choice (log entry 19): the spec does not say how far it has come. -/
def tearDigest (during : Bool) (s : State) : State :=
  let n := Mem.read 0 s.ram.digest 0x200
  { s with ram := { s.ram with
      digest := if during && !n.getLsbD 0 then Mem.write 0 s.ram.digest 0x200 (n + 1) else s.ram.digest } }

/-- What stands after the assertion of RESET, the blocks apart: the registers and the dispatcher are cleared, unheld outlets are
OFF, a store in flight is lost. -/
def resetBase (during : Bool) (s : State) : State :=
  let s := tearDigest during (restartOutlets s)
  { s with
    pins := { s.pins with reset := true }
    port := { bus := s.port.bus }
    disp := {}
    store := { s.store with phase := .idle, slot := none } }

/-- R27, R88, R188: RESET is asserted: the blocks stop at their restart states, by the settings that are active. The retained record
keeps what it holds: the start after the release is built from it anew, with the settings loaded then (log entry 19). -/
def resetAssert (during : Bool) (s : State) : State :=
  { startBlocks .restart (resetBase during s) with retained := s.retained }

/-- R27: the sweep fails this slot. -/
def isSwept (s : State) (n : Fin 32) : Bool :=
  match slotState s n with
  | .posted | .taken | .cancel => true
  | _ => false

/-- R27: one slot of the sweep. -/
def sweepSlot (n : Fin 32) (s : State) : State :=
  if isSwept s n then markNotice .orders (bit n.val) (writeFinish n { outcome := .restart } 0 s) else s

def sweepSlots : List (Fin 32) → State → State
  | [], s => s
  | n :: l, s => sweepSlots l (sweepSlot n s)

/-- R27, R179: the sweep; the ORDERS cause words of the digest are the only digest words it changes, and where it fails no slot it
changes none (log entry 15). -/
def sweep (s : State) : State :=
  let t := sweepSlots (List.finRange 32) s
  if (List.finRange 32).any (isSwept s) then
    { t with ram := { t.ram with
        digest := Mem.writeCells 0 t.ram.digest (causeCells .orders t.port.causes[Group.orders.index]) } }
  else t

/-- R80, R88: part time begins anew at the release: a held outlet keeps its measured current, and the second that begins is a whole
second in ON. -/
def freshSecond (x : Outlet) : Outlet :=
  if x.state = .on then { x with sum := 0, samples := 0, whole := true } else x

def freshSeconds (s : State) : State :=
  { s with outlets := { s.outlets with table := s.outlets.table.map freshSecond } }

/-- R27, R186 to R188: RESET is released. An outlet 2 that was held at the assertion and has tripped while RESET was held is not ON
here, so the sequencer starts in OFF beside a TRIPPED supply whose demand stands (log entry 46). -/
def resetRelease (s : State) : State :=
  startBlocks .restart
    (settlePins (loadSettings (sweep (freshSeconds { s with pins := { s.pins with reset := false } }))))

/-- R25: CONTROL.RESTART is the RESET input asserted and released; whether it meets a digest update is a free value (log entry 19). -/
def restart (s : State) : State :=
  resetRelease (resetAssert (Config.restartCutsUpdate s.restarts) { s with restarts := s.restarts + 1 })

/-! ### The entry into ACTIVE (R187) -/

/-- R42: ACTIVE and the end of the quiet wait have both been reached: every record is due, and a command that waits in a buffer is
sent (R37, log entry 50); the polls go out by their own rows (log entry 31). -/
def linkBegins (now : Nat) (s : State) : State :=
  let s := startDue now s
  if s.link.phase = .idle ∧ (s.link.heater.isSome || s.link.solar) = true then linkChoose now s else s

/-- R42: the quiet wait at the start has ended. -/
def quietEnd (sub : Nat) (s : State) : State :=
  if s.link.phase = .startQuiet then
    let s := setLink (fun k => { k with phase := .idle }) s
    if s.charge.power = .starting then s else linkBegins (nowMs s sub) s
  else s

/-- R102: the initial evaluation. -/
def initialEvaluation (s : State) : State :=
  let e := evaluate (fun _ => true) (fun _ => true) { s with interlock := { s.interlock with evaluated := true } }
  runEval (handOut e.2) e.1

/-- The START causes (Section 1.7). -/
def startCauses (s : State) : BitVec 32 :=
  (match s.start with | .powerOn => bit 0 | .restart => bit 1) ||| (if s.store.defaults then bit 2 else 0)

/-- R187: the power state and the START cause in one update. -/
def becomeActive (s : State) : State :=
  let s := markNotice .start (startCauses s) (setPower .active s)
  digestUpdate ((0x201, s.charge.power.code) :: causeCells .start s.port.causes[Group.start.index]) s

/-- R42: the link begins at the moment the part becomes ACTIVE, unless the quiet wait still runs. -/
def recordsDue (s : State) : State := if s.link.phase = .startQuiet then s else linkBegins (nowMs s 0) s

/-- R53, R121, R140, R163: what the owners do as the part becomes ACTIVE. R159 is applied to both values the mover controller holds, to
IGNITION before WIND_HIGH, which has had the time to rise in a long STARTING; the order is the model's choice (log entry 51). -/
def activeActs (s : State) : List Act :=
  (if s.pins.engineRun.level then [.req (.demand 6 { charge := ratedOf s 6 })] else []) ++
  (if s.water.frost.latch ∧ (outlet s 1).state = .off then [.req (.demand 1 { charge := ratedOf s 1 })] else []) ++
  (if s.water.pump.auto && s.pins.pressureLow.level then [.pumpStart] else []) ++
  (if s.climate.stopAtActive then [.post (.single .stop)] else []) ++
  (if (outlet s 2).state = .tripped then [.report 2 .on .tripped] else []) ++
  (if s.pins.ignition.level then [.retract .step] else []) ++
  (if s.movers.windHigh then [.retract .awning] else [])

def clearStop (s : State) : State := { s with climate := { s.climate with stopAtActive := false } }

def startComplete (s : State) : State :=
  if s.pins.reset ∨ s.charge.power ≠ .starting then s
  else
    let s := recordsDue (becomeActive (fullUpdate (initialEvaluation s)))
    close (runEach (activeActs s) (clearStop s))

end Sys2Proof.Machine
end

