-- ==== Sys2Proof/Machine/Second.lean ====
section
/-!
DEFINITION. The second close (R45) and the rows that name a threshold it reaches, the vehicle inputs (R50 to R53).
-/
namespace Sys2Proof.Machine

/-! ### The steps of a second close -/

/-- The timers that count whole seconds, and part time. -/
def tick (s : State) : State := moversSecond (waterSecond (seqSecond { s with time := s.time + 1 }))

/-- R45: the tally, the synchronisation windows, the voltage floor, the shed level, in this order. -/
def chargeSecond (v : Nat) (a : Int) (s : State) : State :=
  let s := tallySecond a (setBank v a s)
  let s := runReact (emptySecond v a) (runReact (fullSecond v a) s)
  run [.shedEval] (runReact (floorSecond v) (keepTally s))

/-- R58, R59: the idle timer, and REST when it reaches the rest delay. -/
def idleSecond (s : State) : State :=
  if s.charge.power = .active ∧ idleBroken s = 0 then
    let t := setIdle (s.charge.idle + 1) s
    if Image.restDelay (cfg s) ≤ s.charge.idle + 1 then enterRest t else t
  else s

/-- R158, R61: the wind speed of the second; a crossing of the limit is a wake event. -/
def windClose (s : State) : State :=
  let t := if windCrossed s && s.charge.power != .starting then wakeEvent s else s
  runReact windSecond t

/-- R32: reading ages, and the staleness they bring. R32 counts the age from the last good reply; that a record that has had none
counts from the start is the model's choice (log entry 43). -/
def ageNodes : List (Fin 12) → State → State
  | [], s => s
  | i :: l, s =>
    let n := node s i
    ageNodes l (runReact (testStale i) (setNode i { n with age := min (n.age + 1) Config.ageMax } s))

/-- R80: the measured current of an outlet that has been ON for the whole second. Until the first such second of a stay in ON closes
it is 0 (`grantOutlet`), which is the model's choice (log entry 44). -/
def measureOutlet (x : Outlet) : Outlet :=
  if x.state = .on then
    { x with
      measured := if x.whole && decide (0 < x.samples) then (mean x.sum x.samples).toNat else x.measured
      sum := 0, samples := 0, whole := true }
  else x

def measureOutlets (s : State) : State :=
  { s with outlets := { s.outlets with table := s.outlets.table.map measureOutlet } }

/-- R45: one second close with the second's ten samples. -/
def secondClose (l : List Sample) (s : State) : State :=
  let t := windClose (idleSecond (chargeSecond (meanVolts l) (meanAmps l) (tick s)))
  measure s (measureOutlets (ageNodes (roster t) t))

/-- A row that names a threshold is the second close that reaches it; where it would not, nothing happens (log entry 9). -/
def thresholdClose (meets : State → Bool) (l : List Sample) (s : State) : State :=
  if meets s then secondClose l s else s

def meetsFull (l : List Sample) (s : State) : Bool :=
  reaches (fullCondition s (meanVolts l) (meanAmps l)) s.charge.tally.fullCount Config.fullSyncHold

def meetsEmpty (l : List Sample) (s : State) : Bool :=
  reaches (emptyCondition s (meanVolts l) (meanAmps l)) s.charge.tally.emptyCount Config.emptySyncHold

def meetsFloorEntry (l : List Sample) (s : State) : Bool :=
  !s.charge.floor && reaches (decide (meanVolts l ≤ Config.floorEntryMv)) s.charge.floorEntry Config.floorEntryHold

def meetsFloorExit (l : List Sample) (s : State) : Bool :=
  s.charge.floor && reaches (decide (Config.floorExitMv ≤ meanVolts l)) s.charge.floorExit Config.floorExitHold

def meetsRest (s : State) : Bool :=
  s.charge.power == .active && idleBroken s == 0 && decide (Image.restDelay (cfg s) ≤ s.charge.idle + 1)

def meetsWindSet (s : State) : Bool :=
  !s.movers.windHigh && reaches (decide (Image.windLimit (cfg s) ≤ speedOf s)) s.movers.windSet Config.windSetHold

def meetsWindClear (s : State) : Bool :=
  s.movers.windHigh && reaches (decide (speedOf s < Image.windLimit (cfg s))) s.movers.windClear Config.windClearHold

def meetsStale (i : Fin 12) (s : State) : Bool :=
  decide (i.val < Image.rosterCount (cfg s)) && !(node s i).stale && decide (staleLimit s i < (node s i).age + 1)

/-- SECOND_CLOSE (R45). -/
def execSecondClose (l : List Sample) (s : State) : Host.Outcome State Fault Refusal := .next (live (secondClose l) s)
/-- FULL_SYNC (R47). -/
def execFullSync (l : List Sample) (s : State) : Host.Outcome State Fault Refusal :=
  .next (live (thresholdClose (meetsFull l) l) s)
/-- EMPTY_SYNC (R48). -/
def execEmptySync (l : List Sample) (s : State) : Host.Outcome State Fault Refusal :=
  .next (live (thresholdClose (meetsEmpty l) l) s)
/-- VOLTAGE_FLOOR_ENTRY (R55). -/
def execVoltageFloorEntry (l : List Sample) (s : State) : Host.Outcome State Fault Refusal :=
  .next (live (thresholdClose (meetsFloorEntry l) l) s)
/-- VOLTAGE_FLOOR_EXIT (R55). -/
def execVoltageFloorExit (l : List Sample) (s : State) : Host.Outcome State Fault Refusal :=
  .next (live (thresholdClose (meetsFloorExit l) l) s)
/-- REST_ENTRY (R59). -/
def execRestEntry (l : List Sample) (s : State) : Host.Outcome State Fault Refusal :=
  .next (live (thresholdClose meetsRest l) s)
/-- WIND_HIGH_SET (R158). -/
def execWindHighSet (l : List Sample) (s : State) : Host.Outcome State Fault Refusal :=
  .next (live (thresholdClose meetsWindSet l) s)
/-- WIND_HIGH_CLEAR (R158). -/
def execWindHighClear (l : List Sample) (s : State) : Host.Outcome State Fault Refusal :=
  .next (live (thresholdClose meetsWindClear l) s)
/-- READING_STALE (R32). -/
def execReadingStale (i : Fin 12) (l : List Sample) (s : State) : Host.Outcome State Fault Refusal :=
  .next (live (thresholdClose (meetsStale i) l) s)

/-! ### Inputs -/

def lineOf (s : State) : FilteredInput → Line
  | .vehicle .ignition => s.pins.ignition
  | .vehicle .engineRun => s.pins.engineRun
  | .vehicle .shorePresent => s.pins.shorePresent
  | .vehicle .door => s.pins.door
  | .pressureLow => s.pins.pressureLow
  | .endStop .stow0 => s.pins.stow0
  | .endStop .stow1 => s.pins.stow1
  | .endStop .out1 => s.pins.out1

def setLine (i : FilteredInput) (x : Line) (s : State) : State :=
  let p := s.pins
  { s with pins := match i with
      | .vehicle .ignition => { p with ignition := x }
      | .vehicle .engineRun => { p with engineRun := x }
      | .vehicle .shorePresent => { p with shorePresent := x }
      | .vehicle .door => { p with door := x }
      | .pressureLow => { p with pressureLow := x }
      | .endStop .stow0 => { p with stow0 := x }
      | .endStop .stow1 => { p with stow1 := x }
      | .endStop .out1 => { p with out1 := x } }

/-- The level has held on the pin and differs from the one the filter has taken (R50, R104, R143). -/
def held (i : FilteredInput) (level : Bool) (s : State) : Bool :=
  (lineOf s i).raw == level && (lineOf s i).level != level

def takeLine (i : FilteredInput) (level : Bool) (s : State) : State := setLine i { lineOf s i with level := level } s

/-- FILTERED_INPUT_EDGE (R50): the pin's level changes and its hold starts again. -/
def execFilteredInputEdge (i : FilteredInput) (level : Bool) (s : State) : Host.Outcome State Fault Refusal :=
  .next (setLine i { lineOf s i with raw := level } s)

def inputSignal : VehicleInput → Signal
  | .ignition => .ignition | .engineRun => .engineRun | .shorePresent => .shore | .door => .door

/-- R50, R61: a wake event of the inputs. -/
def wakesBy (i : VehicleInput) (level : Bool) : Bool := level && (i == .ignition || i == .door)

/-- R50: the blocks a change goes to after the interlock engine: movers, lighting. -/
def inputActs (i : VehicleInput) (level : Bool) : List Act :=
  match i, level with
  | .ignition, true => [.retract .step]
  | .door, true => [.extension, .doorScene]
  | _, _ => []

/-- R51: the source flag of an input. -/
def setSource (i : VehicleInput) (level : Bool) (s : State) : State :=
  match i with
  | .shorePresent => { s with charge := { s.charge with shore := level } }
  | .engineRun => { s with charge := { s.charge with alternator := level } }
  | _ => s

/-- R51, R52, R56: a change of SHORE or ALTERNATOR: SOURCES, the shed level, the budget limit, each with its digest update. -/
def sourceChange : List Act :=
  [.raise .energy (bit 6), .shown [] [.charge], .shedEval, .shown [] [.charge], .limitEval, .shown [] [.charge]]

/-- R51: what the charge monitor hands on when an input is taken. -/
def sourceActs : VehicleInput → List Act
  | .shorePresent | .engineRun => sourceChange
  | _ => []

/-- R53: ENGINE RUN demands the split relay or withdraws it. -/
def relayActs (i : VehicleInput) (level : Bool) (s : State) : List Act :=
  match i with
  | .engineRun => [.req (if level then .demand 6 { charge := ratedOf s 6 } else .withdraw 6)]
  | _ => []

/-- R50: the line takes the level, and the interlock engine is handed the signal before any other block. -/
def signalTaken (i : VehicleInput) (level : Bool) (s : State) : State :=
  run [.signal (inputSignal i) (b2n level)] (takeLine (.vehicle i) level s)

/-- R51, R52, R56: the source flag of the input and all that its change hands on, in every power state. -/
def sourceTaken (i : VehicleInput) (level : Bool) (s : State) : State :=
  runEach (sourceActs i) (setSource i level s)

/-- R50 from ACTIVE on. -/
def inputTaken (i : VehicleInput) (level : Bool) (s : State) : State :=
  let s := if wakesBy i level && s.charge.power == .rest then wake s else s
  let s := sourceTaken i level (runEach (inputActs i level) (signalTaken i level s))
  let s := runEach (relayActs i level s) s
  idleCheck (if wakesBy i level then setIdle 0 s else s)

/-- R50, R51, R56, R101: a change in STARTING, after the first filtered level. Before the initial evaluation the signal replaces the
initial value; the sources raise their causes, for R62 exempts the first values alone; movers, lights and the split relay are not told
before ACTIVE (R53, R163, R187; log entries 17 and 29). -/
def inputStarting (i : VehicleInput) (level : Bool) (s : State) : State := sourceTaken i level (signalTaken i level s)

def vehicleTaken (i : VehicleInput) (level : Bool) (s : State) : State :=
  if held (.vehicle i) level s then
    (if s.charge.power = .starting then inputStarting i level s else inputTaken i level s)
  else s

/-- VEHICLE_INPUT (R50). -/
def execVehicleInput (i : VehicleInput) (level : Bool) (s : State) : Host.Outcome State Fault Refusal :=
  .next (live (vehicleTaken i level) s)

end Sys2Proof.Machine
end

