-- ==== Sys2Proof/Machine/Events.lean ====
section
/-!
DEFINITION. The commands of the outlets (R65, R80), water (Chapter 6), climate (Chapter 7), movers (Chapter 8) and lighting (R165).
-/
namespace Sys2Proof.Machine

/-! ### Outlets -/

/-- R65: the valve's pull-in ends. -/
def pullInEnd (o : Fin 16) (s : State) : State :=
  if (outlet s o).state = .on then setOutlet o { outlet s o with pullIn := false } s else s

/-- R80: a sample at the top of the range is taken as the full scale. -/
def sampled (s : State) (o : Fin 16) (mA : Nat) : Nat := min mA (Image.fullScale (cfg s) o.val)

/-- R80: above 150 % of the rated current. -/
def above150 (s : State) (o : Fin 16) (mA : Nat) : Bool := decide (3 * ratedOf s o < 2 * sampled s o mA)

/-- R80: above 300 % of the rated current. -/
def above300 (s : State) (o : Fin 16) (mA : Nat) : Bool := decide (3 * ratedOf s o < sampled s o mA)

/-- R80: the overcurrent time after the sample. -/
def overAfter (s : State) (o : Fin 16) (mA : Nat) : Nat :=
  if above150 s o mA then min ((outlet s o).overMs + 10) Config.sustainedTripMs else 0

/-- R80: the sample enters the second's mean and the overcurrent time, and times the stall of a drive (R151). -/
def recordSample (o : Fin 16) (mA : Nat) (s : State) : State :=
  let x := outlet s o
  setOutlet o { x with sum := x.sum + sampled s o mA, samples := x.samples + 1, overMs := overAfter s o mA } (stallTick o s)

/-- R82. -/
def tripNow (o : Fin 16) (s : State) : State := run [.action [.trip o]] s

/-- R80, R81: one sample of an outlet in ON. -/
def currentSample (o : Fin 16) (mA : Nat) (s : State) : State :=
  if (outlet s o).state = .on then
    let t := recordSample o mA s
    if above300 s o mA || decide (Config.sustainedTripMs ≤ overAfter s o mA) then tripNow o t else t
  else s

/-- A trip row is the sample that trips the outlet (log entry 9). -/
def tripIf (trips : Bool) (o : Fin 16) (mA : Nat) (s : State) : State := if trips then currentSample o mA s else s

/-- VALVE_PULL_IN_END (R65): a held valve's pull-in runs on through a restart. -/
def execValvePullInEnd (o : Fin 16) (s : State) : Host.Outcome State Fault Refusal := .next (pullInEnd o s)
/-- IMMEDIATE_TRIP (R80). Held outlets are sampled through a restart (R88). -/
def execImmediateTrip (o : Fin 16) (mA : Nat) (s : State) : Host.Outcome State Fault Refusal :=
  .next (closeFrom s (tripIf (above300 s o mA) o mA s))
/-- SUSTAINED_TRIP (R80). -/
def execSustainedTrip (o : Fin 16) (mA : Nat) (s : State) : Host.Outcome State Fault Refusal :=
  .next (closeFrom s (tripIf (decide (Config.sustainedTripMs ≤ overAfter s o mA)) o mA s))
/-- CURRENT_SAMPLE (R80). -/
def execCurrentSample (o : Fin 16) (mA : Nat) (s : State) : Host.Outcome State Fault Refusal :=
  .next (closeFrom s (currentSample o mA s))

/-! ### Water -/

/-- R104: PRESSURE LOW taken by its filter; from ACTIVE on the pump acts on it. -/
def pressureLow (level : Bool) (s : State) : State :=
  if held .pressureLow level s then
    let t := takeLine .pressureLow level s
    if s.charge.power = .starting then t else runReact (pressureTaken level) t
  else s

def pumpRunLimit (s : State) : State :=
  if s.water.pump.state = .running ∧ expired s.water.pump.timer Config.pumpRunLimit = true
  then run [.pumpDry .runLimit] s else s

def fillTimeout (valve : OutletState) (count : Fill → Nat) (limit : Nat) (o : Outcome) (s : State) : State :=
  match s.water.fill with
  | some f => if f.valve = valve ∧ expired (count f) limit = true then run [.fillEnd (.failed o 0)] s else s
  | none => s

/-- R113: blindness begins when the grace has run. -/
def blindGrace (s : State) : State :=
  let f := s.water.frost
  if expired f.grace Config.frostBlindGrace ∧ f.temp = none ∧ f.blind = false then
    let t := setFrost (fun f => { f with blind := true }) s
    if f.stage = .watch then raise .water (bit 3) t else t
  else s

def padTimeout (s : State) : State :=
  let f := s.water.frost
  if f.stage = .pad ∧ f.padOn = false ∧ expired f.padTimer Config.padTimeout = true
  then run [.stage .heat (bit 4)] s else s

def heatTimeout (s : State) : State :=
  let f := s.water.frost
  if f.stage = .heat ∧ f.delivered = false ∧ expired f.heatTimer Config.heatTimeout = true
  then run [.stage .dump (bit 5)] s else s

/-- PRESSURE_LOW (R104). -/
def execPressureLow (level : Bool) (s : State) : Host.Outcome State Fault Refusal := .next (live (pressureLow level) s)
/-- PUMP_RUN_LIMIT (R105). -/
def execPumpRunLimit (s : State) : Host.Outcome State Fault Refusal := .next (inRun pumpRunLimit s)
/-- FILL_FLOW_PULSE (R110). -/
def execFillFlowPulse (s : State) : Host.Outcome State Fault Refusal := .next (inRun (runReact fillPulse) s)
/-- FILL_WAIT_TIMEOUT (R111). -/
def execFillWaitTimeout (s : State) : Host.Outcome State Fault Refusal :=
  .next (inRun (fillTimeout .waiting (·.wait) Config.fillWaitTimeout .noBudget) s)
/-- FILL_FLOW_TIMEOUT (R111). -/
def execFillFlowTimeout (s : State) : Host.Outcome State Fault Refusal :=
  .next (inRun (fillTimeout .on (·.flow) Config.fillFlowTimeout .timeout) s)
/-- FROST_BLIND_GRACE (R113). -/
def execFrostBlindGrace (s : State) : Host.Outcome State Fault Refusal := .next (inRun blindGrace s)
/-- PAD_TIMEOUT (R116). -/
def execPadTimeout (s : State) : Host.Outcome State Fault Refusal := .next (inRun padTimeout s)
/-- HEAT_TIMEOUT (R117). -/
def execHeatTimeout (s : State) : Host.Outcome State Fault Refusal := .next (inRun heatTimeout s)

/-! ### Climate -/

/-- A sequencer timer acts in its own state, once it has run. -/
def seqExpiry (x : SeqState) (ran : State → Bool) (acts : List Act) (s : State) : State :=
  if (seq s).state = x ∧ ran s = true then run acts s else s

/-- R131: the grant timeout sets the retry hold, then the supply is withdrawn. -/
def grantTimeout (s : State) : State :=
  if (seq s).state = .grantWait ∧ expired (seq s).phase Config.grantWaitLimit = true then
    run (toOff cGrantTimeout) (setSeq (fun q => { q with retry := Config.retryHold }) s)
  else s

/-- R135: the last reading shows IDLE or FAULT. -/
def lastCold (s : State) : Bool :=
  match (seq s).last with
  | some u => u.phase == .idle || u.phase == .fault
  | none => false

/-- R138: the supply held for a lost unit is released. -/
def supplyHoldEnd (s : State) : State :=
  if (seq s).state = .unitLost ∧ expired (seq s).phase Config.phaseMax = true then run [.req (.withdraw 2)] (releaseElevation s)
  else s

/-- RETRY_HOLD_END (R130). -/
def execRetryHoldEnd (s : State) : Host.Outcome State Fault Refusal :=
  .next (inRun (seqExpiry .off (fun s => (seq s).retry == 0) [.heaterTest]) s)
/-- GRANT_WAIT_TIMEOUT (R131). -/
def execGrantWaitTimeout (s : State) : Host.Outcome State Fault Refusal := .next (inRun grantTimeout s)
/-- IGNITION_LIMIT (R132). -/
def execIgnitionLimit (s : State) : Host.Outcome State Fault Refusal :=
  .next (inRun (seqExpiry .igniting (fun s => expired (seq s).phase (Image.ignitionLimit (cfg s))) [.startFail 0]) s)
/-- RUN_ON_END (R134). -/
def execRunOnEnd (s : State) : Host.Outcome State Fault Refusal :=
  .next (inRun (seqExpiry .running (fun s => !s.climate.demand && expired (seq s).runOn Config.runOnLimit)
    [.enter .stopping 0, .stopping false]) s)
/-- COOLDOWN_MINIMUM (R135). -/
def execCooldownMinimum (s : State) : Host.Outcome State Fault Refusal :=
  .next (inRun (seqExpiry .stopping (fun s => expired (seq s).phase (Image.cooldownMinimum (cfg s)) && lastCold s) [.cooldownEnd]) s)
/-- COOLDOWN_MAXIMUM (R135). -/
def execCooldownMaximum (s : State) : Host.Outcome State Fault Refusal :=
  .next (inRun (seqExpiry .stopping (fun s => expired (seq s).phase Config.phaseMax) [.cooldownEnd]) s)
/-- SUPPLY_HOLD_END (R138). -/
def execSupplyHoldEnd (s : State) : Host.Outcome State Fault Refusal :=
  .next (inRun supplyHoldEnd s)

/-! ### Movers -/

/-- R143: a filtered end-stop change. -/
def endStopTaken (e : EndStop) (level : Bool) (s : State) : State :=
  if held (.endStop e) level s then
    runReact (if level then stopAsserted e else stopReleased e) (takeLine (.endStop e) level s)
  else s

/-- A move's timer acts in its own phase, once it has run. -/
def moveExpiry (m : Mover) (ran : Move → Bool) (f : Move → Outcome) (s : State) : State :=
  match (mover s m).move with
  | some v => if ran v then run [.moveEnd m (f v) 0] s else s
  | none => s

def windPulse (s : State) : State := { s with movers := { s.movers with windPulses := s.movers.windPulses + 1 } }

/-- HALL_PULSE (R142). -/
def execHallPulse (m : Mover) (s : State) : Host.Outcome State Fault Refusal := .next (live (runReact (hallPulse m)) s)
/-- END_STOP (R143). -/
def execEndStop (e : EndStop) (level : Bool) (s : State) : Host.Outcome State Fault Refusal :=
  .next (live (endStopTaken e level) s)
/-- GRANT_WINDOW_EXPIRY (R147). -/
def execGrantWindowExpiry (m : Mover) (s : State) : Host.Outcome State Fault Refusal :=
  .next (inRun (moveExpiry m (fun v => !v.driving && expired v.grant Config.grantWindow)
    (fun v => if v.report = .shed then .shed else .noBudget)) s)
/-- STALL_WINDOW_EXPIRY (R151). -/
def execStallWindowExpiry (m : Mover) (s : State) : Host.Outcome State Fault Refusal :=
  .next (inRun (moveExpiry m (fun v => v.driving && expired v.stall Config.stallWindow) (fun _ => .stalled)) s)
/-- MOVE_TIMEOUT (R152). -/
def execMoveTimeout (m : Mover) (s : State) : Host.Outcome State Fault Refusal :=
  .next (inRun (moveExpiry m (fun v => v.driving && expired v.timer (Image.moveLimit (cfg s) m)) (fun _ => .timeout)) s)
/-- WIND_PULSE (R158). -/
def execWindPulse (s : State) : Host.Outcome State Fault Refusal := .next (live windPulse s)

/-! ### Lighting -/

/-- RAMP_TICK (R165): the channels move in the order LIGHT 0 to LIGHT 5, each with all it sets off before the next: the spec gives no
order (log entry 34). -/
def execRampTick (s : State) : Host.Outcome State Fault Refusal :=
  .next (inRun (runEach (channels.map Act.ramp)) s)

end Sys2Proof.Machine
end

