-- ==== Sys2Proof/Machine/HostPort.lean ====
section
/-!
DEFINITION. The host accesses (Chapter 1): reads (R1), writes by region (R2), slot words (R3), the write watch's state-word
transitions (R4 to R8), registers (R21, R22, R25), and one meaning per row of the table. An access is judged by its real address
and the state it meets, whichever row names it.
-/
namespace Sys2Proof.Machine

/-! ### Reads -/

/-- R1, Section 1.8.1: the word a read returns. -/
def readWord (s : State) (addr : BitVec 13) : Word :=
  let a := addr.toNat
  if a < Config.digestBase then Mem.read 0 s.ram.slots a
  else if a < Config.sceneBase then Mem.read 0 s.ram.digest a
  else if a < Config.stagingBase then Mem.read 0 s.ram.scenes a
  else if a < Config.unassignedBase then Mem.read 0 s.ram.staging a
  else if a < Config.windowBase then 0
  else if a < Config.registerBase then Mem.read 0 s.ram.window a
  else if a = 0x1000 then Config.ident
  else if a = 0x1001 then controlWord s
  else if a = 0x1002 then s.port.notice.setWidth 16
  else if a = 0x1003 then s.port.mask.setWidth 16
  else if a = 0x1004 then portFaultWord s
  else if a = 0x1005 then s.port.addr.setWidth 16
  else 0

def setBus (w : Word) (s : State) : State := { s with port := { s.port with bus := w } }

/-- R1, R27: a read returns a word and wakes the part; under RESET it returns 0. -/
def hostReadOf (addr : BitVec 13) (s : State) : State :=
  if s.pins.reset then setBus 0 s
  else
    let t := access s
    closeFrom s (setBus (readWord t addr) t)

/-! ### The write watch (R4 to R8) -/

/-- R4: POSTED to an EMPTY slot. -/
def post (n : Fin 32) (s : State) : State :=
  let s := setSlotState n .posted s
  if follower s n then
    { s with disp := { s.disp with held := { slot := n, claimed := none, released := none } :: s.disp.held } }
  else { s with disp := { s.disp with intake := s.disp.intake ++ [n] } }

/-- R5: CANCEL to a POSTED slot; it holds no claim, and its leader's claim on it lapses with its entry. -/
def cancelPosted (n : Fin 32) (s : State) : State :=
  service n { outcome := .cancelled } (dropHeld n (dropIntake n s))

def ownerBlock (s : State) (n : Fin 32) : Option Block := (s.disp.owners.find? fun e => e.1 == n).map (·.2)

/-- R183: a cancel ends a store in VALIDATE; later it has no effect. -/
def cancelStore (n : Fin 32) (s : State) : React :=
  if s.store.phase = .validate then
    ({ s with store := { s.store with phase := .idle, slot := none } }, [.finish n { outcome := .cancelled }])
  else (s, [])

/-- The mover whose move carries this slot. -/
def moverOf (s : State) (n : Fin 32) : Option Mover :=
  if (s.movers.awning.move.map (·.tag)) = some (.host n) then some .awning
  else if (s.movers.step.move.map (·.tag)) = some (.host n) then some .step
  else none

/-- R6: the owning block is told; each ends the order as its chapter says (R112, R157, R173, R183). -/
def tellCancel (n : Fin 32) (s : State) : React :=
  match ownerBlock s n with
  | some .water => (s, [.fillEnd (.failed .cancelled 0)])
  | some .movers => (s, match moverOf s n with | some m => [.moveEnd m .cancelled 0] | none => [])
  | some .lights => cancelRecall n s
  | some .store => cancelStore n s
  | none => (s, [])

/-- R6: CANCEL to a TAKEN slot. -/
def cancelTaken (n : Fin 32) (s : State) : State := runReact (tellCancel n) (setSlotState n .cancel s)

def finishedSlot (s : State) (n : Fin 32) : Bool := slotState s n == .done || slotState s n == .failed

/-- R7, R23: EMPTY to a finished slot, and orders auto-clear. -/
def giveBack (n : Fin 32) (s : State) : State :=
  let s := setSlotState n .empty s
  if s.port.autoClr && !(List.finRange 32).any (finishedSlot s) then clearGroup .orders s else s

/-- R4 to R8: a host write to a state word. -/
def stateWrite (n : Fin 32) (v : Word) (addr : BitVec 13) (s : State) : State :=
  match slotState s n with
  | .empty => if v = 1 then post n s else portFault .slotState addr s
  | .posted => if v = 3 then cancelPosted n s else portFault .slotState addr s
  | .taken => if v = 3 then cancelTaken n s else portFault .slotState addr s
  | .cancel => portFault .slotState addr s
  | .done | .failed => if v = 3 then s else if v = 0 then giveBack n s else portFault .slotState addr s

/-! ### Writes by region (R2, R3, R25) -/

/-- R3: a write to w1 to w15. -/
def slotWrite (n : Fin 32) (i : Nat) (v : Word) (addr : BitVec 13) (s : State) : State :=
  match slotState s n with
  | .empty | .done | .failed => setSlotWord n i v s
  | _ => portFault .slotLocked addr s

def sceneStore (a : Nat) (v : Word) (s : State) : State :=
  invalidate (Fin.ofNat 32 ((a - Config.sceneBase) / 16))
    { s with ram := { s.ram with scenes := Mem.write 0 s.ram.scenes a v } }

def stagingStore (a : Nat) (v : Word) (s : State) : State :=
  { s with ram := { s.ram with staging := Mem.write 0 s.ram.staging a v } }

def windowStore (a : Nat) (v : Word) (s : State) : State :=
  { s with ram := { s.ram with window := Mem.write 0 s.ram.window a v } }

/-- R25: a write to CONTROL that requests no restart. -/
def controlWrite (v : Word) (s : State) : State :=
  { s with port := { s.port with attnEn := v.getLsbD 0, autoClr := v.getLsbD 1 } }

def maskWrite (v : Word) (s : State) : State := { s with port := { s.port with mask := v.setWidth 10 } }

def store (addr : BitVec 13) (v : Word) (s : State) : State :=
  let a := addr.toNat
  if a < Config.digestBase then
    (if a % 16 = 0 then stateWrite (Fin.ofNat 32 (a / 16)) v addr s else slotWrite (Fin.ofNat 32 (a / 16)) (a % 16) v addr s)
  else if a < Config.sceneBase then portFault .readOnly addr s
  else if a < Config.stagingBase then sceneStore a v s
  else if a < Config.unassignedBase then stagingStore a v s
  else if a < Config.windowBase then portFault .unmapped addr s
  else if a < Config.registerBase then windowStore a v s
  else if a = 0x1001 then controlWrite v s
  else if a = 0x1002 then clearGroups v groups s
  else if a = 0x1003 then maskWrite v s
  else if a = 0x1000 ∨ a = 0x1004 ∨ a = 0x1005 then portFault .readOnly addr s
  else portFault .unmapped addr s

/-- R25: the write requests a restart. -/
def requestsRestart (addr : BitVec 13) (v : Word) : Bool := addr == 0x1001 && v.getLsbD 15

/-- One host write: a port access (R58, R61), then the write; under RESET it is dropped without a port fault (R27). A write that
requests a restart is the restart alone: taken in REST it does not wake the part first. R61 makes every host access a wake event and
says that a restart taken in REST raises neither REST_LEFT nor REST_ENTERED, and R25 makes it identical to the RESET input; the
model follows the latter two (log entry 36). -/
def hostWrite (addr : BitVec 13) (v : Word) (s : State) : State :=
  if s.pins.reset then s
  else if requestsRestart addr v then restart s
  else closeFrom s (store addr v (access s))

def slotAddr (n : Fin 32) (i : Nat) : BitVec 13 := BitVec.ofNat 13 (16 * n.val + i)

def sceneAddr (n : Fin 32) (i : Nat) : BitVec 13 := BitVec.ofNat 13 (Config.sceneBase + 16 * n.val + i)

/-! ### The rows -/

/-- HOST_READ (R1). -/
def execHostRead (addr : BitVec 13) (s : State) : Host.Outcome State Fault Refusal := .next (hostReadOf addr s)

/-- SLOT_WORD_WRITE (R3). -/
def execSlotWordWrite (n : Fin 32) (i : Fin 16) (v : Word) (s : State) : Host.Outcome State Fault Refusal :=
  .next (hostWrite (slotAddr n i.val) v s)

/-- SLOT_POST (R4). -/
def execSlotPost (n : Fin 32) (s : State) : Host.Outcome State Fault Refusal :=
  .next (hostWrite (slotAddr n 0) SlotState.posted.code s)

/-- SLOT_CANCEL_POSTED (R5). -/
def execSlotCancelPosted (n : Fin 32) (s : State) : Host.Outcome State Fault Refusal :=
  .next (hostWrite (slotAddr n 0) SlotState.cancel.code s)

/-- SLOT_CANCEL_TAKEN (R6). -/
def execSlotCancelTaken (n : Fin 32) (s : State) : Host.Outcome State Fault Refusal :=
  .next (hostWrite (slotAddr n 0) SlotState.cancel.code s)

/-- SLOT_CANCEL_LATE (R7). -/
def execSlotCancelLate (n : Fin 32) (s : State) : Host.Outcome State Fault Refusal :=
  .next (hostWrite (slotAddr n 0) SlotState.cancel.code s)

/-- SLOT_GIVE_BACK (R7). -/
def execSlotGiveBack (n : Fin 32) (s : State) : Host.Outcome State Fault Refusal :=
  .next (hostWrite (slotAddr n 0) SlotState.empty.code s)

/-- SLOT_STATE_FAULT (R8). -/
def execSlotStateFault (n : Fin 32) (v : Word) (s : State) : Host.Outcome State Fault Refusal :=
  .next (hostWrite (slotAddr n 0) v s)

/-- SCENE_WRITE (R170). -/
def execSceneWrite (n : Fin 32) (i : Fin 16) (v : Word) (s : State) : Host.Outcome State Fault Refusal :=
  .next (hostWrite (sceneAddr n i.val) v s)

/-- STAGING_WRITE (R2). -/
def execStagingWrite (addr : BitVec 13) (v : Word) (s : State) : Host.Outcome State Fault Refusal := .next (hostWrite addr v s)

/-- DIGEST_WRITE (R2). -/
def execDigestWrite (addr : BitVec 13) (v : Word) (s : State) : Host.Outcome State Fault Refusal := .next (hostWrite addr v s)

/-- UNMAPPED_WRITE (R2). -/
def execUnmappedWrite (addr : BitVec 13) (v : Word) (s : State) : Host.Outcome State Fault Refusal := .next (hostWrite addr v s)

/-- REGISTER_WRITE (R2). -/
def execRegisterWrite (addr : BitVec 13) (v : Word) (s : State) : Host.Outcome State Fault Refusal := .next (hostWrite addr v s)

/-- RESTART (R25). -/
def execRestart (v : Word) (s : State) : Host.Outcome State Fault Refusal := .next (hostWrite 0x1001 v s)

/-- ATTN_EN (R22, R25). -/
def execAttnEn (v : Word) (s : State) : Host.Outcome State Fault Refusal := .next (hostWrite 0x1001 v s)

/-- ORD_AUTOCLR (R23, R25). -/
def execOrdAutoclr (v : Word) (s : State) : Host.Outcome State Fault Refusal := .next (hostWrite 0x1001 v s)

/-- NOTICE_CLEAR (R21). -/
def execNoticeClear (v : Word) (s : State) : Host.Outcome State Fault Refusal := .next (hostWrite 0x1002 v s)

/-- NOTICE_MASK (R22). -/
def execNoticeMask (v : Word) (s : State) : Host.Outcome State Fault Refusal := .next (hostWrite 0x1003 v s)

end Sys2Proof.Machine
end

