-- ==== Sys2Proof/Machine/LinkEvents.lean ====
section
/-!
DEFINITION. The node link's commands (Chapter 2): the choice, the listening phase, good replies (R30) and misses (R31).
-/
namespace Sys2Proof.Machine

def resting (s : State) : Bool := s.charge.power == .rest

/-- R39: the result of a good reply. -/
def replyResult (ok : Bool) (status : Word) : CmdResult := if ok && !status.getLsbD 4 then .accepted else .refused

/-- R30: a good reply, in the order of the rule, then the command result (R39). -/
def goodEnd (t : Txn) (r : Role) (status : Word) (data : List Word) (now : Nat) (s : State) : State :=
  let i := t.record
  let old := node s i
  let s := endTxn (setDue i now (setNode i (goodNode r status data (resting s) old) s))
  let s := if (node s i).faulty && !old.faulty then raise .link (bit 13) s else s
  let s := runReact (handReading i (old.state == .missing)) s
  let s := if old.state = .missing then raise .link (bit 12) s else s
  runReact (resultActs t.cmd (replyResult (inRange r data) status)) s

/-- R29: the reply is good: ROLE and COUNT as the role's, and that many words. -/
def goodForm (r : Role) (status : Word) (data : List Word) : Bool :=
  decide (status.toNat % 16 = r.code) && decide (status.toNat / 32 % 8 = r.words) && decide (data.length = r.words)

def goodReply (status : Word) (data : List Word) (sub : Nat) (s : State) : State :=
  match s.link.phase, s.link.txn with
  | .listening, some t =>
    match roleOf s t.record with
    | some r => if goodForm r status data then goodEnd t r status data (nowMs s sub) s else s
    | none => s
  | _, _ => s

/-- R31: a miss, then the result MISSED (R39). -/
def missEnd (k : MissKind) (now : Nat) (s : State) : State :=
  match s.link.txn with
  | none => s
  | some t =>
    let i := t.record
    let old := node s i
    let s := endTxn (setDue i now (setNode i (missNode k (resting s) old) s))
    let s := if (node s i).state = .missing ∧ old.state ≠ .missing then
        let s := runReact (handLoss i) (raise .link (bit i.val) s)
        if old.stale then s else runReact (handStale i) s
      else runReact (testStale i) s
    runReact (resultActs t.cmd .missed) s

/-- R29: the check a received word fails; a word that fails none is no fault. -/
def wordFault (r : Role) (index : Nat) (word : Word) (parityOk stopOk : Bool) : Option MissKind :=
  if !parityOk || !stopOk then some .parity
  else if index = 0 ∧ (word.toNat % 16 ≠ r.code ∨ word.toNat / 32 % 8 ≠ r.words) then some .format
  else none

def badReply (k : MissKind) (s : State) : State := setLink (fun l => { l with phase := .badReply k }) s

def replyWordFault (index : Nat) (word : Word) (parityOk stopOk : Bool) (s : State) : State :=
  match s.link.phase, s.link.txn with
  | .listening, some t =>
    match (roleOf s t.record).bind fun r => wordFault r index word parityOk stopOk with
    | some k => badReply k s
    | none => s
  | _, _ => s

def replyGap (s : State) : State := if s.link.phase = .listening then badReply .format s else s

/-- R28: the last stop bit is out: the pair is released. -/
def requestSent (s : State) : State :=
  if s.link.phase = .sending then setLink (fun l => { l with phase := .listening, request := [] }) s else s

def ackExpiry (sub : Nat) (s : State) : State :=
  if s.link.phase = .listening then missEnd .noReply (nowMs s sub) s else s

def quietAfter (sub : Nat) (s : State) : State :=
  match s.link.phase with
  | .badReply k => missEnd k (nowMs s sub) s
  | _ => s

def turnaround (sub : Nat) (s : State) : State :=
  if s.link.phase = .turnaround then linkChoose (nowMs s sub) s else s

/-- R36, R37: the record has fallen due and the link is idle. -/
def isDue (i : Fin 12) (now : Nat) (s : State) : Bool :=
  decide (i.val < Image.rosterCount (cfg s)) && (match (node s i).due with | some d => decide (d ≤ now) | none => false)

def pollDue (i : Fin 12) (sub : Nat) (s : State) : State :=
  if s.link.phase = .idle ∧ isDue i (nowMs s sub) s = true then linkChoose (nowMs s sub) s else s

/-- TURNAROUND_END (R37). -/
def execTurnaroundEnd (sub : Nat) (s : State) : Host.Outcome State Fault Refusal := .next (inRun (turnaround sub) s)
/-- POLL_DUE (R36). -/
def execPollDue (i : Fin 12) (sub : Nat) (s : State) : Host.Outcome State Fault Refusal := .next (inRun (pollDue i sub) s)
/-- REQUEST_SENT (R28). -/
def execRequestSent (s : State) : Host.Outcome State Fault Refusal := .next (inRun requestSent s)
/-- ACK_WINDOW_EXPIRY (R29). -/
def execAckWindowExpiry (sub : Nat) (s : State) : Host.Outcome State Fault Refusal := .next (inRun (ackExpiry sub) s)
/-- REPLY_GAP_EXPIRY (R29). -/
def execReplyGapExpiry (s : State) : Host.Outcome State Fault Refusal := .next (inRun replyGap s)
/-- REPLY_WORD_FAULT (R29). -/
def execReplyWordFault (index : Nat) (word : Word) (parityOk stopOk : Bool) (s : State) :
    Host.Outcome State Fault Refusal := .next (inRun (replyWordFault index word parityOk stopOk) s)
/-- REPLY_QUIET_END (R29). -/
def execReplyQuietEnd (sub : Nat) (s : State) : Host.Outcome State Fault Refusal := .next (inRun (quietAfter sub) s)
/-- GOOD_REPLY (R30). -/
def execGoodReply (status : Word) (data : List Word) (sub : Nat) (s : State) : Host.Outcome State Fault Refusal :=
  .next (inRun (goodReply status data sub) s)

end Sys2Proof.Machine
end

