-- ==== Sys2Proof/Machine/Operands.lean ====
section
/-!
DEFINITION. The operands of orders: the slot the dispatcher takes next (R12), its KIND and parameters with their ranges (R13, and the
owning chapters), FOLLOW_ON (R14), and the frame of a dispatch (R12 to R16).
-/
namespace Sys2Proof.Machine

/-! ### The next slot (R12) -/

def earliest : List Held → Option (Nat × Fin 32)
  | [] => none
  | h :: l =>
    match h.released, earliest l with
    | some p, some (q, n) => if p ≤ q then some (p, h.slot) else some (q, n)
    | some p, none => some (p, h.slot)
    | none, r => r

/-- R12: the released entry released earliest, otherwise the head of the intake list. -/
def nextSlot (s : State) : Option (Fin 32) :=
  match earliest s.disp.held with
  | some (_, n) => some n
  | none => s.disp.intake.head?

def kindOf (s : State) (n : Fin 32) : Option Kind := Kind.ofCode ((slotWord s n 1).toNat % 256)

/-! ### Parameters (R13) -/

def p (s : State) (n : Fin 32) (i : Nat) : Nat := (param s n i).toNat

/-- The first parameter out of range; `l` pairs an index with its range check, in order. -/
def firstBad : List (Nat × Bool) → Option Nat
  | [] => none
  | (i, ok) :: l => if ok then firstBad l else some i

def newCharge (s : State) (n : Fin 32) : Nat := Word.join (param s n 0) (param s n 1)

def moverArg (s : State) (n : Fin 32) : Mover := if p s n 0 = 0 then .awning else .step

/-- 0 for the default, or a duty of 100 to 1000 (Section 8.4). -/
def dutyOk (v : Nat) : Bool := v == 0 || (decide (100 ≤ v) && decide (v ≤ 1000))

/-- A count up to the travel, or 0xFFFF. -/
def countOk (v travel : Nat) : Bool := decide (v ≤ travel) || v == 0xFFFF

/-- R13 with each chapter's ranges: the index of the first parameter out of range. -/
def badParam (k : Kind) (s : State) (n : Fin 32) : Option Nat :=
  let q := p s n
  match k with
  | .chargeSet => firstBad [(0, decide (newCharge s n ≤ s.charge.tally.capacity))]
  | .shedFloor => firstBad [(0, decide (q 0 ≤ 3))]
  | .auxSet => firstBad [(0, decide (q 0 ≤ 1))]
  | .tripClear => firstBad [(0, decide (q 0 ≤ 15))]
  | .termsLoad => firstBad [(0, decide (q 0 ≤ 16))]
  | .pumpMode => firstBad [(0, decide (q 0 ≤ 1))]
  | .fill => firstBad [(0, decide (1 ≤ newCharge s n) && decide (newCharge s n ≤ Image.freshCapacity (cfg s)))]
  | .climateMode => firstBad [(0, decide (q 0 ≤ 2))]
  | .zoneSet => firstBad [(0, decide (q 0 ≤ 2)), (1, decide (50 ≤ q 1) && decide (q 1 ≤ 300)), (2, decide (q 2 ≤ 1))]
  | .move =>
    let t := Image.travel (cfg s) (moverArg s n)
    firstBad [(0, decide (q 0 ≤ 1)), (1, decide (q 1 ≤ 1)), (2, countOk (q 2) t), (3, dutyOk (q 3)), (4, dutyOk (q 4)),
      (5, countOk (q 5) t)]
  | .moverStop => firstBad [(0, decide (q 0 ≤ 1))]
  | .sceneRecall => firstBad [(0, decide (q 0 ≤ 31))]
  | .lightSet => firstBad [(0, decide (q 0 ≤ 5)), (1, decide (q 1 ≤ 1000)), (2, decide (q 2 ≤ 10000))]
  | .restNow | .pumpReset | .drainDump | .drainClose | .heaterClear | .settingsFetch | .settingsStore => none

/-! ### FOLLOW_ON (R14) -/

/-- R14: the reason the named follower is unsuitable, or the follower to claim; FOLLOW_ON 0xFFFF is neither. A POSTED slot that the
held set no longer lists is the order itself: a follower, claimed. -/
inductive Follow where
  | none | bad (reason : Nat) | claim (slot : Fin 32)
  deriving DecidableEq, Repr

def followCheck (s : State) (n : Fin 32) : Follow :=
  if followOn s n = Config.noneWord then .none
  else match slotOf (followOn s n) with
    | none => .bad 1
    | some f =>
      if slotState s f ≠ .posted then .bad 2
      else if follower s f = false then .bad 3
      else match heldOf s f with
        | some h => if h.claimed = none then .claim f else .bad 4
        | none => .bad 4

def claimFollower (n f : Fin 32) (s : State) : State :=
  { s with disp := { s.disp with
      held := s.disp.held.map fun h => if h.slot = f then { h with claimed := some n } else h } }

/-! ### The dispatch (R12 to R16) -/

/-- Taking a slot removes it from its collection (R12). -/
def takeSlot (n : Fin 32) (s : State) : State := dropHeld n (dropIntake n s)

/-- R13, R14: the checks before routing, then the owner's part. -/
def dispatchSlot (k : Kind) (body : Fin 32 → State → State) (n : Fin 32) (s : State) : State :=
  match badParam k s n with
  | some i => finish n { outcome := .badParam, r0 := Word.nat i } s
  | none =>
    match followCheck s n with
    | .bad reason => finish n { outcome := .chainInvalid, r0 := Word.nat reason } s
    | .none => body n s
    | .claim f => body n (claimFollower n f s)

/-- R12: the dispatcher takes its next slot, if that slot holds the order this row names. -/
def dispatch (k : Kind) (body : Fin 32 → State → State) (s : State) : State :=
  match nextSlot s with
  | some n => if kindOf s n = some k then dispatchSlot k body n (takeSlot n s) else s
  | none => s

/-- R13: the next slot's KIND is not in the table. -/
def dispatchBad (s : State) : State :=
  match nextSlot s with
  | some n => if kindOf s n = none then finish n { outcome := .badKind } (takeSlot n s) else s
  | none => s

end Sys2Proof.Machine
end

