-- ==== Sys2Proof/Machine/Orders.lean ====
section
/-!
DEFINITION. The orders (Section 1.9): what the owning block does at the dispatch of each kind, and one meaning per row of the table.
-/
namespace Sys2Proof.Machine

def done (r0 : Word := 0) (r1 : Word := 0) (r2 : Word := 0) : Finish := { outcome := .ok, r0 := r0, r1 := r1, r2 := r2 }

def fail (o : Outcome) (r0 : Word := 0) (r1 : Word := 0) (r2 : Word := 0) : Finish :=
  { outcome := o, r0 := r0, r1 := r1, r2 := r2 }

/-! ### Charge monitor -/

/-- R49: the new charge; SoC and its level follow, and the retained record. -/
def setCharge (c : Nat) (s : State) : State :=
  keepTally (socEval (setTally (fun t => { t with charge := c, acc := 0, synced := true }) s))

def chargeSet (n : Fin 32) (s : State) : State :=
  let s := run [.shedEval, .shown [] [.charge]] (setCharge (newCharge s n) s)
  finish n (done (Word.nat (soc s)) (Word.nat s.charge.shedLevel)) s

/-- R57. -/
def shedFloor (n : Fin 32) (s : State) : State :=
  let s := run [.shedEval, .shown [] [.charge]] { s with charge := { s.charge with hostFloor := p s n 0 } }
  finish n (done (Word.nat s.charge.shedLevel)) s

/-- R60. -/
def restNow (n : Fin 32) (s : State) : State :=
  if s.charge.power = .rest then finish n done s
  else if idleBroken s = 0 then finish n done (enterRest s)
  else finish n (fail .notPermitted (Word.nat (idleBroken s))) s

/-! ### Outlet controller and interlock engine -/

/-- R84. -/
def auxSet (n : Fin 32) (s : State) : State :=
  let s := run [.req (if p s n 0 = 1 then .demand 8 { charge := ratedOf s 8 } else .withdraw 8)] s
  finish n (done (outlet s 8).state.code) s

/-- R83: the order ends with the state the outlet was cleared into, the arbiter run included, before the owners' answers to the reports
are taken (R85, log entry 12); every other instant order ends after them (log entry 61). -/
def tripClear (n : Fin 32) (s : State) : State :=
  let o : Fin 16 := Fin.ofNat 16 (p s n 0)
  if (outlet s o).state = .tripped then
    run [.action [.clearTrip o, .flush, .tripDone n o]] s
  else finish n (fail .notPermitted (outlet s o).state.code) s

/-- R98 to R100. The active terms of r1 are counted at the load, before the hand-out, whose cascade can change a signal and with it
a flag (log entry 39). What owners ask in answer to the hand-out is taken before the order is finished, which is the model's choice (log
entry 61). -/
def termsLoad (n : Fin 32) (s : State) : State :=
  match stagingCheck s 0 (p s n 0) with
  | some (t, reason, w) => finish n (fail .badParam (Word.nat t) (Word.nat reason) (Word.nat w)) s
  | none =>
    let e := replaceTerms (stagedTerms s (p s n 0)) s
    let s' := runEval (handOut e.2) e.1
    finish n (done (param s n 0) (Word.nat (e.1.interlock.terms.filter (·.active)).length)) s'

/-! ### Water -/

/-- R107. -/
def pumpModeSet (auto : Bool) (s : State) : State :=
  if s.water.pump.auto = auto then s
  else
    let t := setPump (fun q => { q with auto := auto }) s
    if s.water.pump.state = .dry then t
    else if auto then (if s.water.pump.state == .idle && s.pins.pressureLow.level then run [.pumpStart] t else t)
    else run [.req (.withdraw 0)] (setPump (fun q => { q with state := .idle, timer := 0 }) t)

def pumpMode (n : Fin 32) (s : State) : State :=
  let s := pumpModeSet (p s n 0 == 1) s
  finish n (done s.water.pump.state.code (outlet s 0).state.code) s

/-- R108. -/
def pumpReset (n : Fin 32) (s : State) : State :=
  if s.water.pump.state ≠ .dry then finish n (fail .notPermitted 1 s.water.pump.state.code) s
  else if (outlet s 0).state = .tripped then finish n (fail .notPermitted 2 OutletState.tripped.code) s
  else
    let s := runReact pumpLeaveDry s
    finish n (done s.water.pump.state.code) s

/-- R109: an accepted fill: at once full, or the inlet valve demanded. -/
def acceptFill (n : Fin 32) (s : State) : State :=
  let s := setFill { slot := n, target := newCharge s n } (takeLong n .water s)
  if freshFull s then run [.fillEnd (.done true)] s
  else run [.req (.demand 7 { charge := ratedOf s 7 })] s

def fill (n : Fin 32) (s : State) : State :=
  match s.water.fill with
  | some f => finish n (fail .busy (Word.nat f.slot.val)) s
  | none =>
    if sigVal s .drainOpen = 1 then finish n (fail .notPermitted 1) s
    else if s.water.frost.stage = .heat ∨ s.water.frost.stage = .dump then
      finish n (fail .notPermitted 2 (Word.nat s.water.frost.stage.code)) s
    else acceptFill n s

/-- R119. -/
def drainDump (n : Fin 32) (s : State) : State :=
  let s := run [.stage .dump 0] s
  finish n (done (outlet s 1).state.code) s

/-- R120: the drain closes, step by step. -/
def closeDrain (s : State) : State :=
  let s := setHeld 1 false (run [.req (.withdraw 1)] s)
  let s := setLatch false (run [.signal .drainOpen 0] s)
  let s := run [.signal .frostStage 0] (setFrost (fun f => { f with stage := .watch }) s)
  let s := showAction [.water] [] (raise .water (bit 1 ||| bit 6) s)
  match s.water.frost.temp with
  | some t => run [.stage (nextStage (cfg s) t .watch) 0] s
  | none => s

def drainClose (n : Fin 32) (s : State) : State :=
  if s.water.frost.stage ≠ .dump then finish n done s
  else match s.water.frost.temp with
    | none => finish n (fail .notPermitted 1) s
    | some t =>
      if t ≤ Image.padThreshold (cfg s) then finish n (fail .notPermitted 2 (Word.int t)) s
      else
        let s := closeDrain s
        finish n (done (Word.nat s.water.frost.stage.code)) s

/-! ### Climate -/

/-- R127: flaps, demand and level follow the mode; OFF is handed to the sequencer as the mode. That a changed demand and heat level are
handed to the sequencer before the mode OFF, so that in RUNNING a SET_LEVEL is posted before the STOP, is the model's choice (log
entry 57). -/
def setMode (m : ClimateMode) (s : State) : State :=
  if s.climate.mode = m then s
  else
    let s := runReact (climateChange fun c => { c with mode := m }) s
    if m = .off then run [.runJudge] s else s

def climateMode (n : Fin 32) (s : State) : State :=
  let s := setMode (ClimateMode.ofWord (param s n 0)) s
  finish n (done (seq s).state.code (Word.flag s.climate.demand)) s

/-- R124: the host values, in force unless LOCKER is under frost demand. -/
def setHost (z : Fin 3) (target : Int) (on : Bool) (s : State) : State :=
  let x := { zone s z with hostTarget := target, hostOn := on }
  if z = 2 ∧ s.climate.frost then setZone z x s
  else runReact (zoneFollow z) (setZone z { x with target := target, on := on } s)

def zoneSet (n : Fin 32) (s : State) : State :=
  let z : Fin 3 := Fin.ofNat 3 (p s n 0)
  let s := setHost z (p s n 1) (p s n 2 == 1) s
  finish n (done (Word.flag (zone s z).demand) (seq s).state.code) s

/-- R139. -/
def heaterClear (n : Fin 32) (s : State) : State :=
  if (seq s).state = .lockedOut then
    let s := setSeq (fun q => { q with failed := 0, lockout := false, clearPending := true }) s
    finish n done (run [.enter .off 0, .heaterTest, .post (.single .clearFault)] s)
  else finish n (fail .notPermitted (seq s).state.code) s

/-! ### Movers -/

def dirArg (s : State) (n : Fin 32) : Dir := if p s n 1 = 0 then .out else .inward

def orDefault (v none default : Nat) : Nat := if v = none then default else v

/-- R146: the target of an accepted order. An inward move accepted with its position unknown runs to the stowed end-stop whatever p2
says; that its record then holds END is the model's choice (log entry 55). -/
def moveTarget (n : Fin 32) (s : State) : Target :=
  if p s n 2 = 0xFFFF then .stop
  else if dirArg s n = .inward ∧ (mover s (moverArg s n)).known = false then .stop
  else .count (p s n 2)

/-- R146: the move record of an accepted order. Until R148 chooses the segment at the entry into DRIVING the record shows RUN, which
is the model's choice (log entry 58). -/
def hostMove (n : Fin 32) (s : State) : Move :=
  let m := moverArg s n
  { tag := .host n, dir := dirArg s n, target := moveTarget n s
    run := orDefault (p s n 3) 0 (Image.runDuty (cfg s) m), creep := orDefault (p s n 4) 0 (Image.creepDuty (cfg s) m)
    creepCounts := orDefault (p s n 5) 0xFFFF (Image.creepCounts (cfg s) m) }

/-- R146: the target is a count already reached in the move's direction, the position known. -/
def reached (x : MoverRec) (v : Move) : Bool :=
  match v.target, v.dir with
  | .count k, .out => x.known && decide (k ≤ x.position)
  | .count k, .inward => x.known && decide (x.position ≤ k)
  | .stop, _ => false

def acceptMove (n : Fin 32) (s : State) : State :=
  let m := moverArg s n
  let v := hostMove n s
  let s := leaveStalled m (takeLong n .movers s)
  let s := run [.stowSignal m] (setMover m { mover s m with move := some v } s)
  if reached (mover s m) v then run [.shown [.mover m] [], .moveEnd m .ok 0] s else run [.claim m] s

/-- R146: the slot of the move in hand, or 0xFFFF. -/
def tagWord (v : Move) : Word :=
  match v.tag with
  | .host k => Word.nat k.val
  | _ => Config.noneWord

def move (n : Fin 32) (s : State) : State :=
  let m := moverArg s n
  let x := mover s m
  match x.move with
  | some v => finish n (fail .busy (tagWord v)) s
  | none =>
    if dirArg s n = .out ∧ x.known = false then finish n (fail .positionUnknown 0 x.state.code) s
    else if dirArg s n = .out ∧ blockCount s m ≠ 0 then finish n (fail .interlocked (Word.nat (blockCount s m))) s
    else match s.movers.owner with
      | some h => finish n (fail .bridgeHeld (Word.nat (moverIndex h))) s
      | none => acceptMove n s

/-- R156. -/
def moverStop (n : Fin 32) (s : State) : State :=
  let m := moverArg s n
  let had := (mover s m).move.isSome
  let s := setPending m false (run [.moveEnd m .stopped 0] (setPending m false s))
  finish n (done (Word.flag had) (mover s m).state.code (positionWord (mover s m))) s

/-! ### Lighting -/

/-- R171. -/
def sceneRecall (n : Fin 32) (s : State) : State :=
  if s.charge.power = .rest then finish n (fail .notPermitted 1) s
  else match lookup (Fin.ofNat 32 (p s n 0)) s with
    | (t, .invalid w) => finish n (fail .badParam (Word.nat w) 1) t
    | (t, .found l hit) => runReact (applyRecall l (.host n) hit) (takeLong n .lights t)

/-- R174: the scene a LIGHT_SET stands for. -/
def lightSetWords (c level ramp : Word) : List Word :=
  (List.range 6).map (fun i => if i = c.toNat then level else Config.noneWord) ++ [ramp]

def lightSet (n : Fin 32) (s : State) : State :=
  if s.charge.power = .rest then finish n (fail .notPermitted 1) s
  else runReact (applyRecall (lightSetWords (param s n 0) (param s n 1) (param s n 2)) (.host n) false) (takeLong n .lights s)

/-! ### Settings store -/

/-- R181: the window words above the image stay. -/
def fetchWindow (i : Image) (w : Mem) : Mem :=
  (i.map fun c => (c.1 + Config.windowBase, c.2)) ++ w.filter fun c => decide (0xA00 < c.1)

def settingsFetch (n : Fin 32) (s : State) : State :=
  let i := Image.fetchForm (cfg s)
  let s := { s with ram := { s.ram with window := fetchWindow i s.ram.window } }
  finish n (done (Word.flag s.store.defaults) (Word.nat (Image.termCount (cfg s))) (Image.word i 0x200)) s

/-- R182: the image offsets of the window. -/
def windowImage (w : Mem) : Image := Mem.rebase (Mem.window w Config.windowBase 0xA01) Config.windowBase

def acceptStore (n : Fin 32) (s : State) : State :=
  let s := takeLong n .store s
  { s with store := { s.store with phase := .validate, slot := some n, buffer := windowImage s.ram.window } }

def settingsStore (n : Fin 32) (s : State) : State :=
  match s.store.slot with
  | some m => finish n (fail .busy (Word.nat m.val)) s
  | none => if s.pins.service then acceptStore n s else finish n (fail .locked 0) s

/-! ### The rows -/

/-- BAD_KIND (R13). -/
def execBadKind (s : State) : Host.Outcome State Fault Refusal := .next (inRun dispatchBad s)
/-- CHARGE_SET (R49). -/
def execChargeSet (s : State) : Host.Outcome State Fault Refusal := .next (inRun (dispatch .chargeSet chargeSet) s)
/-- SHED_FLOOR (R57). -/
def execShedFloor (s : State) : Host.Outcome State Fault Refusal := .next (inRun (dispatch .shedFloor shedFloor) s)
/-- REST_NOW (R60). -/
def execRestNow (s : State) : Host.Outcome State Fault Refusal := .next (inRun (dispatch .restNow restNow) s)
/-- AUX_SET (R84). -/
def execAuxSet (s : State) : Host.Outcome State Fault Refusal := .next (inRun (dispatch .auxSet auxSet) s)
/-- TRIP_CLEAR (R83). -/
def execTripClear (s : State) : Host.Outcome State Fault Refusal := .next (inRun (dispatch .tripClear tripClear) s)
/-- TERMS_LOAD (R98). -/
def execTermsLoad (s : State) : Host.Outcome State Fault Refusal := .next (inRun (dispatch .termsLoad termsLoad) s)
/-- PUMP_MODE (R107). -/
def execPumpMode (s : State) : Host.Outcome State Fault Refusal := .next (inRun (dispatch .pumpMode pumpMode) s)
/-- PUMP_RESET (R108). -/
def execPumpReset (s : State) : Host.Outcome State Fault Refusal := .next (inRun (dispatch .pumpReset pumpReset) s)
/-- FILL (R109). -/
def execFill (s : State) : Host.Outcome State Fault Refusal := .next (inRun (dispatch .fill fill) s)
/-- DRAIN_DUMP (R119). -/
def execDrainDump (s : State) : Host.Outcome State Fault Refusal := .next (inRun (dispatch .drainDump drainDump) s)
/-- DRAIN_CLOSE (R120). -/
def execDrainClose (s : State) : Host.Outcome State Fault Refusal := .next (inRun (dispatch .drainClose drainClose) s)
/-- CLIMATE_MODE (R127). -/
def execClimateMode (s : State) : Host.Outcome State Fault Refusal := .next (inRun (dispatch .climateMode climateMode) s)
/-- ZONE_SET (R124). -/
def execZoneSet (s : State) : Host.Outcome State Fault Refusal := .next (inRun (dispatch .zoneSet zoneSet) s)
/-- HEATER_CLEAR (R139). -/
def execHeaterClear (s : State) : Host.Outcome State Fault Refusal := .next (inRun (dispatch .heaterClear heaterClear) s)
/-- MOVE (R146). -/
def execMove (s : State) : Host.Outcome State Fault Refusal := .next (inRun (dispatch .move move) s)
/-- MOVER_STOP (R156). -/
def execMoverStop (s : State) : Host.Outcome State Fault Refusal := .next (inRun (dispatch .moverStop moverStop) s)
/-- SCENE_RECALL (R171). -/
def execSceneRecall (s : State) : Host.Outcome State Fault Refusal := .next (inRun (dispatch .sceneRecall sceneRecall) s)
/-- LIGHT_SET (R174). -/
def execLightSet (s : State) : Host.Outcome State Fault Refusal := .next (inRun (dispatch .lightSet lightSet) s)
/-- SETTINGS_FETCH (R181). -/
def execSettingsFetch (s : State) : Host.Outcome State Fault Refusal := .next (inRun (dispatch .settingsFetch settingsFetch) s)
/-- SETTINGS_STORE (R182). -/
def execSettingsStore (s : State) : Host.Outcome State Fault Refusal := .next (inRun (dispatch .settingsStore settingsStore) s)

end Sys2Proof.Machine
end

