-- ==== Sys2Proof/Machine/StoreEvents.lean ====
section
/-!
DEFINITION. The phases of SETTINGS_STORE (R183, R184), the SERVICE input (R182), and the start's commands (R26, R27, R42, R187, R188).
-/
namespace Sys2Proof.Machine

/-- R184: the store phase becomes IDLE and the slot is finished. -/
def endStore (f : Finish) (s : State) : State :=
  let t := { s with store := { s.store with phase := .idle, slot := none } }
  match s.store.slot with
  | some n => finish n f t
  | none => t

def failed (o : Outcome) (r0 : Nat) (r1 : Nat := 0) : Finish :=
  { outcome := o, r0 := Word.nat r0, r1 := Word.nat r1 }

def setFlash (f : Flash) (s : State) : State := { s with store := { s.store with flash := f } }

/-- R184: an erase begins: FORMAT is 0xFFFF first. -/
def beginErase (s : State) : State :=
  setFlash { s.store.flash with tear := .erasing, source := [], ops := s.store.flash.ops + 1 } s

/-- R184: the erase has made every word 0xFFFF, and the program of the buffer begins; FORMAT is written last. -/
def beginProgram (s : State) : State :=
  setFlash { cells := [], tear := .programming, source := s.store.buffer, ops := s.store.flash.ops + 1 } s

def setPhase (x : StorePhase) (s : State) : State := { s with store := { s.store with phase := x } }

/-- The sector's cells after PROGRAM has written the buffer. -/
def programmed (b : Image) : Mem :=
  (List.range 0x201).filterMap fun o => let w := Image.word b o; if w = 0xFFFF then none else some (o, w)

/-- R183: the end of VALIDATE. -/
def validateEnd (s : State) : State :=
  if s.store.phase = .validate then
    match Image.validate s.store.buffer with
    | some (o, reason) => endStore (failed .invalidImage o reason) s
    | none => if s.pins.service then setPhase .erase (beginErase s) else endStore (failed .locked 1) s
  else s

/-- R184: the erase completes, or reports failure. -/
def eraseEnd (ok : Bool) (s : State) : State :=
  if s.store.phase = .erase then
    if ok then setPhase .program (beginProgram s)
    else endStore (failed .flashFault 1) s
  else s

/-- R184: the program completes, or reports failure. -/
def programEnd (ok : Bool) (s : State) : State :=
  if s.store.phase = .program then
    if ok then setPhase .verify (setFlash { s.store.flash with cells := programmed s.store.buffer, tear := .whole, source := [] } s)
    else endStore (failed .flashFault 2) s
  else s

/-- The cells that do differ from the buffer. -/
def differences (b : Image) (l : List FlashCell) : List FlashCell :=
  l.filter fun c => decide (c.offset ≤ 0x200) && c.word != Image.word b c.offset

/-- R184: the read-back finishes; `l` is what it finds that differs from the buffer. -/
def verifyEnd (l : List FlashCell) (s : State) : State :=
  if s.store.phase = .verify then
    match differences s.store.buffer l with
    | [] => endStore { outcome := .ok, r0 := Image.word s.store.buffer 0x200 } s
    | c :: cs =>
      endStore (failed .flashFault 3 c.offset)
        (setFlash { s.store.flash with
          cells := Mem.writeCells 0xFFFF s.store.flash.cells ((c :: cs).map fun d => (d.offset, d.word)) } s)
  else s

def timeoutIn (x : StorePhase) (r0 : Nat) (s : State) : State :=
  if s.store.phase = x then endStore (failed .flashFault r0) s else s

/-- VALIDATE_END (R183). -/
def execValidateEnd (s : State) : Host.Outcome State Fault Refusal := .next (inRun validateEnd s)
/-- ERASE_END (R184). -/
def execEraseEnd (ok : Bool) (s : State) : Host.Outcome State Fault Refusal := .next (inRun (eraseEnd ok) s)
/-- ERASE_TIMEOUT (R184): not complete within 800 ms. -/
def execEraseTimeout (s : State) : Host.Outcome State Fault Refusal := .next (inRun (timeoutIn .erase 1) s)
/-- PROGRAM_END (R184). -/
def execProgramEnd (ok : Bool) (s : State) : Host.Outcome State Fault Refusal := .next (inRun (programEnd ok) s)
/-- PROGRAM_TIMEOUT (R184): not complete within 300 ms. -/
def execProgramTimeout (s : State) : Host.Outcome State Fault Refusal := .next (inRun (timeoutIn .program 2) s)
/-- VERIFY_END (R184). -/
def execVerifyEnd (l : List FlashCell) (s : State) : Host.Outcome State Fault Refusal := .next (inRun (verifyEnd l) s)

/-- The level on the SERVICE pin; it is a level, so it is recorded under RESET too. -/
def setService (b : Bool) (s : State) : State := { s with pins := { s.pins with service := b } }

/-- SERVICE_INPUT (R182). -/
def execServiceInput (b : Bool) (s : State) : Host.Outcome State Fault Refusal :=
  .next (if s.pins.reset then setService b s else closeFrom s (setService b s))

/-- POWER_ON (R26). -/
def execPowerOn (s : State) : Host.Outcome State Fault Refusal := .next (powerOn s)

/-- RESET_ASSERT (R27, R188): an edge; a RESET already held changes nothing. -/
def execResetAssert (during : Bool) (s : State) : Host.Outcome State Fault Refusal :=
  .next (if s.pins.reset then s else resetAssert during s)

/-- RESET_RELEASE (R188). -/
def execResetRelease (s : State) : Host.Outcome State Fault Refusal := .next (if s.pins.reset then resetRelease s else s)

/-- LINK_START_QUIET (R42). -/
def execLinkStartQuiet (sub : Nat) (s : State) : Host.Outcome State Fault Refusal := .next (live (quietEnd sub) s)

/-- START_COMPLETE (R187). -/
def execStartComplete (s : State) : Host.Outcome State Fault Refusal := .next (startComplete s)

end Sys2Proof.Machine
end

