-- ==== Sys2Proof/Machine/Dispatch.lean ====
section
/-!
DEFINITION. One arm per command.
-/
namespace Sys2Proof.Machine

def exec (i : Instr) (s : State) : Host.Outcome State Fault Refusal :=
  match i with
  | .hostRead addr => Sys2Proof.Machine.execHostRead addr s
  | .slotWordWrite slot word value => Sys2Proof.Machine.execSlotWordWrite slot word value s
  | .slotPost slot => Sys2Proof.Machine.execSlotPost slot s
  | .slotCancelPosted slot => Sys2Proof.Machine.execSlotCancelPosted slot s
  | .slotCancelTaken slot => Sys2Proof.Machine.execSlotCancelTaken slot s
  | .slotCancelLate slot => Sys2Proof.Machine.execSlotCancelLate slot s
  | .slotGiveBack slot => Sys2Proof.Machine.execSlotGiveBack slot s
  | .slotStateFault slot value => Sys2Proof.Machine.execSlotStateFault slot value s
  | .sceneWrite scene word value => Sys2Proof.Machine.execSceneWrite scene word value s
  | .stagingWrite addr value => Sys2Proof.Machine.execStagingWrite addr value s
  | .digestWrite addr value => Sys2Proof.Machine.execDigestWrite addr value s
  | .unmappedWrite addr value => Sys2Proof.Machine.execUnmappedWrite addr value s
  | .registerWrite addr value => Sys2Proof.Machine.execRegisterWrite addr value s
  | .restart value => Sys2Proof.Machine.execRestart value s
  | .attnEn value => Sys2Proof.Machine.execAttnEn value s
  | .ordAutoclr value => Sys2Proof.Machine.execOrdAutoclr value s
  | .noticeClear value => Sys2Proof.Machine.execNoticeClear value s
  | .noticeMask value => Sys2Proof.Machine.execNoticeMask value s
  | .badKind => Sys2Proof.Machine.execBadKind s
  | .chargeSet => Sys2Proof.Machine.execChargeSet s
  | .shedFloor => Sys2Proof.Machine.execShedFloor s
  | .restNow => Sys2Proof.Machine.execRestNow s
  | .auxSet => Sys2Proof.Machine.execAuxSet s
  | .tripClear => Sys2Proof.Machine.execTripClear s
  | .termsLoad => Sys2Proof.Machine.execTermsLoad s
  | .pumpMode => Sys2Proof.Machine.execPumpMode s
  | .pumpReset => Sys2Proof.Machine.execPumpReset s
  | .fill => Sys2Proof.Machine.execFill s
  | .drainDump => Sys2Proof.Machine.execDrainDump s
  | .drainClose => Sys2Proof.Machine.execDrainClose s
  | .climateMode => Sys2Proof.Machine.execClimateMode s
  | .zoneSet => Sys2Proof.Machine.execZoneSet s
  | .heaterClear => Sys2Proof.Machine.execHeaterClear s
  | .move => Sys2Proof.Machine.execMove s
  | .moverStop => Sys2Proof.Machine.execMoverStop s
  | .sceneRecall => Sys2Proof.Machine.execSceneRecall s
  | .lightSet => Sys2Proof.Machine.execLightSet s
  | .settingsFetch => Sys2Proof.Machine.execSettingsFetch s
  | .settingsStore => Sys2Proof.Machine.execSettingsStore s
  | .validateEnd => Sys2Proof.Machine.execValidateEnd s
  | .eraseEnd ok => Sys2Proof.Machine.execEraseEnd ok s
  | .eraseTimeout => Sys2Proof.Machine.execEraseTimeout s
  | .programEnd ok => Sys2Proof.Machine.execProgramEnd ok s
  | .programTimeout => Sys2Proof.Machine.execProgramTimeout s
  | .verifyEnd differing => Sys2Proof.Machine.execVerifyEnd differing s
  | .serviceInput level => Sys2Proof.Machine.execServiceInput level s
  | .powerOn => Sys2Proof.Machine.execPowerOn s
  | .resetAssert duringUpdate => Sys2Proof.Machine.execResetAssert duringUpdate s
  | .resetRelease => Sys2Proof.Machine.execResetRelease s
  | .linkStartQuiet sub => Sys2Proof.Machine.execLinkStartQuiet sub s
  | .startComplete => Sys2Proof.Machine.execStartComplete s
  | .secondClose samples => Sys2Proof.Machine.execSecondClose samples s
  | .fullSync samples => Sys2Proof.Machine.execFullSync samples s
  | .emptySync samples => Sys2Proof.Machine.execEmptySync samples s
  | .voltageFloorEntry samples => Sys2Proof.Machine.execVoltageFloorEntry samples s
  | .voltageFloorExit samples => Sys2Proof.Machine.execVoltageFloorExit samples s
  | .restEntry samples => Sys2Proof.Machine.execRestEntry samples s
  | .filteredInputEdge input level => Sys2Proof.Machine.execFilteredInputEdge input level s
  | .vehicleInput input level => Sys2Proof.Machine.execVehicleInput input level s
  | .valvePullInEnd outlet => Sys2Proof.Machine.execValvePullInEnd outlet s
  | .immediateTrip outlet mA => Sys2Proof.Machine.execImmediateTrip outlet mA s
  | .sustainedTrip outlet mA => Sys2Proof.Machine.execSustainedTrip outlet mA s
  | .turnaroundEnd sub => Sys2Proof.Machine.execTurnaroundEnd sub s
  | .pollDue record sub => Sys2Proof.Machine.execPollDue record sub s
  | .requestSent => Sys2Proof.Machine.execRequestSent s
  | .ackWindowExpiry sub => Sys2Proof.Machine.execAckWindowExpiry sub s
  | .replyGapExpiry => Sys2Proof.Machine.execReplyGapExpiry s
  | .replyWordFault index word parityOk stopOk => Sys2Proof.Machine.execReplyWordFault index word parityOk stopOk s
  | .replyQuietEnd sub => Sys2Proof.Machine.execReplyQuietEnd sub s
  | .goodReply status data sub => Sys2Proof.Machine.execGoodReply status data sub s
  | .readingStale record samples => Sys2Proof.Machine.execReadingStale record samples s
  | .pressureLow level => Sys2Proof.Machine.execPressureLow level s
  | .pumpRunLimit => Sys2Proof.Machine.execPumpRunLimit s
  | .fillFlowPulse => Sys2Proof.Machine.execFillFlowPulse s
  | .fillWaitTimeout => Sys2Proof.Machine.execFillWaitTimeout s
  | .fillFlowTimeout => Sys2Proof.Machine.execFillFlowTimeout s
  | .frostBlindGrace => Sys2Proof.Machine.execFrostBlindGrace s
  | .padTimeout => Sys2Proof.Machine.execPadTimeout s
  | .heatTimeout => Sys2Proof.Machine.execHeatTimeout s
  | .retryHoldEnd => Sys2Proof.Machine.execRetryHoldEnd s
  | .grantWaitTimeout => Sys2Proof.Machine.execGrantWaitTimeout s
  | .ignitionLimit => Sys2Proof.Machine.execIgnitionLimit s
  | .runOnEnd => Sys2Proof.Machine.execRunOnEnd s
  | .cooldownMinimum => Sys2Proof.Machine.execCooldownMinimum s
  | .cooldownMaximum => Sys2Proof.Machine.execCooldownMaximum s
  | .supplyHoldEnd => Sys2Proof.Machine.execSupplyHoldEnd s
  | .hallPulse mover => Sys2Proof.Machine.execHallPulse mover s
  | .endStop input level => Sys2Proof.Machine.execEndStop input level s
  | .grantWindowExpiry mover => Sys2Proof.Machine.execGrantWindowExpiry mover s
  | .stallWindowExpiry mover => Sys2Proof.Machine.execStallWindowExpiry mover s
  | .moveTimeout mover => Sys2Proof.Machine.execMoveTimeout mover s
  | .windPulse => Sys2Proof.Machine.execWindPulse s
  | .windHighSet samples => Sys2Proof.Machine.execWindHighSet samples s
  | .windHighClear samples => Sys2Proof.Machine.execWindHighClear samples s
  | .rampTick => Sys2Proof.Machine.execRampTick s
  | .currentSample outlet mA => Sys2Proof.Machine.execCurrentSample outlet mA s

end Sys2Proof.Machine
end

