-- ==== Sys2Proof/Safety.lean ====
section
/-!
DEFINITION. What the statements speak of: the invariants of the machine, the parts of a state a statement leaves out of an equation,
and the conditions under which a command has its own effect.
-/
namespace Sys2Proof.Machine

/-! ### Invariants -/

/-- Every memory is in canonical form, and the active settings hold offsets 0x000 to 0x200 only. -/
abbrev State.MemsWf (s : State) : Prop :=
  Mem.Wf 0 s.ram.slots ∧ Mem.Wf 0 s.ram.digest ∧ Mem.Wf 0 s.ram.scenes ∧ Mem.Wf 0 s.ram.staging ∧ Mem.Wf 0 s.ram.window ∧
    Mem.Wf 0 s.store.buffer ∧ Mem.Wf 0 s.store.active ∧ (∀ c ∈ s.store.active, c.1 ≤ 0x200) ∧
    Mem.Wf 0xFFFF s.store.flash.cells ∧ Mem.Wf 0 s.store.flash.source

/-- The charge lies within the capacity, and every level within 0 to 3 (R46, R54 to R57). -/
abbrev State.TallyInv (s : State) : Prop :=
  s.charge.tally.charge ≤ s.charge.tally.capacity ∧ s.charge.socLevel ≤ 3 ∧ s.charge.hostFloor ≤ 3 ∧ s.charge.shedLevel ≤ 3

/-- An outlet that is not ON reserves no charge (R64). -/
abbrev State.OutletInv (s : State) : Prop := ∀ o, (outlet s o).state ≠ .on → (outlet s o).charge = 0

/-- Heater demand and heat level are those of the zones, the mode and the frost demand (R126). -/
abbrev State.HeatInv (s : State) : Prop := s.climate.demand = heaterDemand s.climate ∧ s.climate.level = heatLevel s.climate

/-- A known position lies within the travel (R142). -/
abbrev State.PositionInv (s : State) : Prop := ∀ m, (mover s m).known = true → (mover s m).position ≤ travelOf s m

/-- R90: every term's active flag is its condition on the held signals, every inhibit count the number of active terms that inhibit the
outlet, every block count the number that block the mover. Before the initial evaluation no term is active (R101); from ACTIVE on it
has been made (R102). -/
abbrev State.InterlockInv (s : State) : Prop :=
  s.interlock.builtIn.length = 6 ∧
  (s.interlock.evaluated = true → s.interlock.builtIn = builtIns.map (·.holds s.interlock.signals) ∧
    ∀ t ∈ s.interlock.terms, t.active = TermRec.holds t.record s.interlock.signals) ∧
  (s.interlock.evaluated = false → activeEffects s = []) ∧
  (s.charge.power ≠ .starting → s.interlock.evaluated = true) ∧
  (s.pins.reset = true → s.charge.power = .starting ∧ s.interlock.evaluated = false) ∧
  (∀ o : Fin 16, (outlet s o).inhibit = (activeEffects s).count (.inhibit o.val)) ∧
  ∀ m, blockCount s m = activeBlocks s m

/-- Where the blocks run, the digest shows every block's words (R177). -/
abbrev State.DigestInv (s : State) : Prop :=
  s.pins.reset = false → s.charge.power ≠ .starting → ∀ p ∈ parts, ∀ c ∈ partWords s p, digestWord s c.1 = c.2

/-- R4 to R6, R10, R11, R16: outside RESET the intake list holds exactly the POSTED slots that are no followers, each once, the held set
exactly the POSTED followers, each once, the owner table exactly the TAKEN and CANCEL slots, each once; under RESET they are empty. -/
abbrev State.QueuesInv (s : State) : Prop :=
  (s.pins.reset = true → s.disp.intake = [] ∧ s.disp.held = [] ∧ s.disp.owners = []) ∧
  (s.pins.reset = false →
    s.disp.intake.Nodup ∧ (s.disp.held.map (·.slot)).Nodup ∧ (s.disp.owners.map (·.1)).Nodup ∧
    ∀ n, (n ∈ s.disp.intake ↔ slotState s n = .posted ∧ follower s n = false) ∧
      (n ∈ s.disp.held.map (·.slot) ↔ slotState s n = .posted ∧ follower s n = true) ∧
      (n ∈ s.disp.owners.map (·.1) ↔ slotState s n = .taken ∨ slotState s n = .cancel))

/-- R16, R112, R149, R172, R183: an order that a block has in hand, a fill, a move, a recall or a store, is its entry in the owner table, and
no two moves carry one slot. -/
abbrev State.InHandInv (s : State) : Prop :=
  s.pins.reset = false →
    (∀ f, s.water.fill = some f → (f.slot, Block.water) ∈ s.disp.owners) ∧
    (∀ m v n, (mover s m).move = some v → v.tag = .host n → (n, Block.movers) ∈ s.disp.owners) ∧
    (∀ v w n, s.movers.awning.move = some v → s.movers.step.move = some w → v.tag = .host n → w.tag ≠ .host n) ∧
    (∀ r ∈ s.lights.recalls, ∀ n, r.owner = .host n → (n, Block.lights) ∈ s.disp.owners) ∧
    (∀ c n, (channel s c).owner = some (.host n) → (n, Block.lights) ∈ s.disp.owners) ∧
    ∀ n, s.store.slot = some n → (n, Block.store) ∈ s.disp.owners

/-- What a start has left until the part becomes ACTIVE: the terms unevaluated, no order in hand, nothing read from a node, no heater
demand, no move, and no outlet ON but one held through the restart, which is PROTECTED (R42, R88, R101, R140, R162, R187). -/
abbrev State.Waking (s : State) : Prop :=
  s.interlock.evaluated = false ∧ s.disp.owners = [] ∧ s.climate.demand = false ∧
    ((seq s).state = .off ∨ (seq s).state = .stopping) ∧ s.movers.awning.move = none ∧ s.movers.step.move = none ∧
    (∀ i, (node s i).stale = true) ∧ ((outlet s 2).state = .on → s.retained.heater = true) ∧
    ∀ o, (outlet s o).state ≠ .waiting ∧ (outlet s o).state ≠ .shed ∧
      ((outlet s o).state = .on → (o = 1 ∨ o = 2) ∧ effClass s o = 0)

/-- R74, R76: no outlet in ON is inhibited or shed, nor one in WAITING, nor is one in SHED inhibited; with it what a start needs to keep
this: DRAIN VALVE is of class PROTECTED (R180), and the held flag of the supply goes with the retained flag (R129). -/
abbrev State.ClearInv (s : State) : Prop :=
  (∀ o, (outlet s o).state = .on ∨ (outlet s o).state = .waiting → (outlet s o).inhibit = 0 ∧ isShed s o = false) ∧
  (∀ o, (outlet s o).state = .shed → (outlet s o).inhibit = 0) ∧
  configuredClass s 1 = 0 ∧ ((outlet s 2).held = true → s.retained.heater = true) ∧
  (s.pins.reset = true → s.charge.power = .starting) ∧ (s.charge.power = .starting → s.Waking)

/-! ### States with a part left out -/

/-- The state without the digest: an equation of two such states says that nothing else differs. -/
def State.sansDigest (s : State) : State := { s with ram := { s.ram with digest := [] } }

/-- The state without the order traffic: slots, digest, NOTICE with its causes, the dispatcher's collections. -/
def State.sansOrders (s : State) : State :=
  { s with ram := { s.ram with slots := [], digest := [] }
           port := { s.port with notice := 0, causes := Vector.replicate 10 0 }
           disp := {} }

/-! ### Slots and notices -/

/-- Slot n carries this finish, and ORDERS is pending with the slot's cause (R9, R17). -/
abbrev Finished (t : State) (n : Fin 32) (f : Finish) : Prop :=
  slotWord t n 0 = (if f.outcome = .ok then 4 else 5) ∧ slotWord t n 11 = f.outcome.code ∧ slotWord t n 12 = f.r0 ∧
    slotWord t n 13 = f.r1 ∧ slotWord t n 14 = f.r2 ∧ slotWord t n 15 = Word.nat t.time ∧
    t.port.notice.getLsbD 1 = true ∧ t.port.causes[1].getLsbD n.val = true ∧ ∀ e ∈ t.disp.owners, e.1 ≠ n

/-- Group g is pending with cause bit k. -/
abbrev Noticed (t : State) (g : Group) (k : Nat) : Prop :=
  t.port.notice.getLsbD g.index.val = true ∧ t.port.causes[g.index].getLsbD k = true

/-- No word of a slot other than n differs. -/
def OtherSlotsKept (s t : State) (n : Fin 32) : Prop := ∀ m i, m ≠ n → i < 16 → slotWord t m i = slotWord s m i

/-- A rejected host write as the capture records it (R24): nothing but the capture and the PORT notice differs. -/
def captured (k : PortFault) (addr : BitVec 13) (u : State) : State :=
  { u with port :=
      if u.port.valid then { u.port with further := true }
      else { u.port with
        valid := true, further := false, kind := k.code, addr := addr
        notice := u.port.notice ||| 0x200, causes := u.port.causes.set 9 (u.port.causes[9] ||| 1) } }

/-! ### Conditions on the state -/

/-- FOLLOW_ON names an unsuitable follower (R14). -/
def isBad : Follow → Bool
  | .bad _ => true
  | _ => false

/-- The next slot holds an order of kind k that passes the checks of R13 and R14. -/
abbrev Dispatches (s : State) (n : Fin 32) (k : Kind) : Prop :=
  blocksRun s = true ∧ nextSlot s = some n ∧ kindOf s n = some k ∧ badParam k s n = none ∧
    isBad (followCheck (takeSlot n s) n) = false

/-- The kind of order a dispatch row names. -/
def orderKind : Instr → Option Kind
  | .chargeSet => some .chargeSet | .shedFloor => some .shedFloor | .restNow => some .restNow | .auxSet => some .auxSet
  | .tripClear => some .tripClear | .termsLoad => some .termsLoad | .pumpMode => some .pumpMode
  | .pumpReset => some .pumpReset | .fill => some .fill | .drainDump => some .drainDump | .drainClose => some .drainClose
  | .climateMode => some .climateMode | .zoneSet => some .zoneSet | .heaterClear => some .heaterClear | .move => some .move
  | .moverStop => some .moverStop | .sceneRecall => some .sceneRecall | .lightSet => some .lightSet
  | .settingsFetch => some .settingsFetch | .settingsStore => some .settingsStore
  | _ => none

/-- The blocks beside the outlet controller, and what they stand on, are as they were. -/
abbrev OwnersKept (s t : State) : Prop :=
  t.water = s.water ∧ t.climate = s.climate ∧ t.movers = s.movers ∧ t.lights = s.lights ∧ t.link = s.link ∧
    t.interlock = s.interlock ∧ t.store = s.store ∧ t.pins = s.pins ∧ t.time = s.time ∧ t.charge.tally = s.charge.tally ∧
    t.charge.power = s.charge.power ∧ t.charge.shedLevel = s.charge.shedLevel ∧ t.charge.limit = s.charge.limit

/-- Every outlet but `o` is as it was. -/
abbrev OtherOutletsKept (s t : State) (o : Fin 16) : Prop := ∀ q, q ≠ o → outlet t q = outlet s q

/-- No outlet is WAITING, but for `o`. -/
abbrev NoneWaitsBut (s : State) (o : Fin 16) : Prop := ∀ q, q ≠ o → (outlet s q).state ≠ .waiting

/-- Signal g taking value v changes no term. -/
abbrev Quiet (s : State) (g : Signal) (v : Nat) : Prop :=
  sigVal s g = v ∨
    (s.interlock.evaluated = true ∧
      (evaluate (fun b => b.names g) (fun t => TermRec.names t g) (setSignal g v s)).2 = [])

/-- A demand of its rated current on an outlet of a fixed class would be granted: the outlet is OFF, not inhibited, not shed, and
the current fits (R68). -/
abbrev WouldGrant (s : State) (o : Fin 16) : Prop :=
  (outlet s o).state = .off ∧ (outlet s o).inhibit = 0 ∧ classShed (configuredClass s o) s.outlets.shedLevel = false ∧
    grantedTotal s + ratedOf s o ≤ s.outlets.limit

/-- The class rank of an outlet is shed at level k (R67). -/
abbrev ShedAt (s : State) (k : Nat) (o : Fin 16) : Prop := classShed (effClass s o) k = true

/-- The shed level an order of SHED_FLOOR with this host floor brings (R56). -/
def floorLevel (s : State) (floor : Nat) : Nat :=
  max floor (max (if s.charge.floor then 3 else 0) (if s.charge.shore then 0 else s.charge.socLevel))

/-- Shed level k changes no term, and the heater, which hears of it, neither starts nor stops (R130, R134). -/
abbrev ShedHeard (s : State) (k : Nat) : Prop :=
  Quiet s .shedLevel k ∧ s.charge.shedLevel = s.outlets.shedLevel ∧ s.climate.demand = false ∧ (seq s).state ≠ .running

/-- Outlet q is the one candidate a revocation takes first: ON, not PROTECTED, of the lowest class and in it the youngest grant (R69). -/
abbrev FirstRevoked (s : State) (q : Fin 16) : Prop :=
  (outlet s q).state = .on ∧ effClass s q ≠ 0 ∧
    ∀ p, p ≠ q → (outlet s p).state = .on → effClass s p ≠ 0 →
      effClass s p < effClass s q ∨ (effClass s p = effClass s q ∧ (outlet s p).grantOrder < (outlet s q).grantOrder)

/-- The effect blocks a mover or marks unsafe travel (Chapter 5). -/
def bearsOnMovers : Effect → Bool
  | .blockOut _ | .travelUnsafe => true
  | _ => false

/-- Signal g taking value v changes no term but ones that block movers or mark unsafe travel. -/
abbrev BlocksOnly (s : State) (g : Signal) (v : Nat) : Prop :=
  sigVal s g = v ∨
    (s.interlock.evaluated = true ∧
      ∀ e ∈ (evaluate (fun b => b.names g) (fun t => TermRec.names t g) (setSignal g v s)).2, bearsOnMovers e.1 = true)

/-- The bridge is free and no mover is in a move; the demand for it is OFF and would be granted in this direction (R145). -/
abbrev BridgeFree (s : State) (m : Mover) (d : Dir) : Prop :=
  s.movers.owner = none ∧ s.movers.awning.move = none ∧ s.movers.step.move = none ∧ (outlet s 5).state = .off ∧
    (outlet s 5).inhibit = 0 ∧ (d = .out → classShed (configuredClass s 5) s.outlets.shedLevel = false) ∧
    grantedTotal s + bridgeCharge m ≤ s.outlets.limit

/-- Mover m drives in an automatic move with the default plan of the settings (R159, R160). -/
abbrev DrivesAuto (s t : State) (m : Mover) (tag : MoveTag) (d : Dir) : Prop :=
  (∃ v, (mover t m).move = some v ∧ v.tag = tag ∧ v.dir = d ∧ v.target = .stop ∧ v.run = Image.runDuty (cfg s) m ∧
    v.creep = Image.creepDuty (cfg s) m ∧ v.creepCounts = Image.creepCounts (cfg s) m ∧ v.driving = true) ∧
  (mover t m).state = (if d = .out then .movingOut else .movingIn) ∧ t.movers.owner = some m ∧
    (outlet t 5).state = .on ∧ (outlet t 5).charge = bridgeCharge m ∧ (outlet t 5).demand.bind (·.dir) = some d

/-- The state in which a mover's move leaves it (R144, R149, R151). -/
def endState (s : State) (m : Mover) (v : Move) (f : Outcome) : MoverState :=
  if v.driving then (if f = .stalled then .stalled else restState s m (mover s m)) else (mover s m).state

/-- The move v of mover m owns the bridge and can be ended with nothing else waiting on it (R149). -/
abbrev MoveInHand (s : State) (m : Mover) (v : Move) (f : Outcome) : Prop :=
  (mover s m).move = some v ∧ v.ending = false ∧ s.movers.owner = some m ∧
    ((outlet s 5).state = .on ∨ (outlet s 5).state = .waiting ∨ (outlet s 5).state = .shed) ∧ NoneWaitsBut s 5 ∧
    s.movers.pendingAwning = false ∧ s.movers.pendingStep = false ∧
    sigVal s (stowSig m) = (if endState s m v f = .stowed then 1 else 0) ∧
    ∀ k, v.tag = .host k → heldOf s k = none

/-- What the end of a move leaves (R149): no move, a free bridge, outlet 5 OFF, position and known flag as they were. -/
abbrev MoveEnded (s t : State) (m : Mover) (v : Move) (f : Outcome) : Prop :=
  (mover t m).move = none ∧ (mover t m).state = endState s m v f ∧ (mover t m).position = (mover s m).position ∧
    (mover t m).known = (mover s m).known ∧ t.movers.owner = none ∧ (outlet t 5).state = .off ∧
    (outlet t 5).demand = none ∧ (outlet t 5).charge = 0 ∧ (v.driving = true → t.outlets.duty = 0) ∧
    ∀ k, v.tag = .host k →
      Finished t k { outcome := f, r0 := positionWord (mover s m), r1 := (endState s m v f).code, r2 := 0 }

/-! ### Recalls -/

/-- The words `l` may be applied at once with nothing else in the way: every channel they retarget is free, goes to a level above
0 or has yet to fade to it, on an outlet in ON with a standing demand, and one of them has a way to go. -/
abbrev Applicable (s : State) (l : List Word) : Prop :=
  (∀ c : Fin 6, l.getD c.val 0 ≠ 0xFFFF →
    (channel s c).owner = none ∧ (l.getD c.val 0 ≠ 0 ∨ (channel s c).output ≠ 0) ∧ (outlet s (lightOutlet c)).state = .on ∧
      (outlet s (lightOutlet c)).demand.isSome = true) ∧
  ∃ c : Fin 6, l.getD c.val 0 ≠ 0xFFFF ∧ (channel s c).output ≠ (l.getD c.val 0).toNat

/-- Every channel these words name is at its new target, ramping in the record's time for this owner; every other is as it was (R165,
R172). -/
abbrev Retargeted (s t : State) (l : List Word) (n : LightOwner) : Prop :=
  ∀ c : Fin 6, channel t c =
    if l.getD c.val 0 ≠ 0xFFFF then
      { channel s c with
        target := (l.getD c.val 0).toNat
        rampStep := rampStepOf (channel s c).output (l.getD c.val 0).toNat (l.getD 6 0).toNat
        owner := some n }
    else channel s c

/-- What an applied recall of slot n leaves. -/
abbrev Applied (s t : State) (l : List Word) (n : Fin 32) : Prop :=
  Retargeted s t l (.host n) ∧ t.outlets = s.outlets ∧ slotState t n = .taken ∧ (n, Block.lights) ∈ t.disp.owners

/-- The ramp interval moves no other channel than c (R165). -/
abbrev RampsAlone (s : State) (c : Fin 6) : Prop :=
  (outlet s (lightOutlet c)).state = .on ∧ (channel s c).output ≠ (channel s c).target ∧
    ∀ q, q ≠ c → (channel s q).output = (channel s q).target ∨ (outlet s (lightOutlet q)).state ≠ .on

end Sys2Proof.Machine
end

