-- ==== Sys2Proof/Certificates/Slice0/Obligations.lean ====
section
/-!
DEFINITION. The statements for the provers.
-/
open Sys2Proof Sys2Proof.Machine

/-! ### The machine as a whole -/

/-- A step runs the command at the front of the queue on the state with the queue's rest; on an empty queue the block idles, which
is the model's choice (log entry 1). -/
def Obligations.StepRunsFrontCommand : Prop :=
  (∀ c l s, s.pending = c :: l → Machine.step s = exec c { s with pending := l }) ∧
    ∀ s, s.pending = [] → Machine.step s = .next s

/-- Every memory stays in canonical form. -/
def Obligations.StepKeepsMemories : Prop := ∀ s t, s.MemsWf → Machine.step s = .next t → t.MemsWf

/-- The charge stays within the capacity and the levels within 0 to 3. -/
def Obligations.StepKeepsTally : Prop := ∀ s t, s.TallyInv → Machine.step s = .next t → t.TallyInv

/-- At every step: only an outlet in ON reserves charge; heater demand and heat level follow zones, mode and frost demand, unless the
cascade overran the model's bound (log entry 16); a known position stays within the travel. -/
def Obligations.StepKeepsBlockInvariants : Prop :=
  ∀ s t, Machine.step s = .next t →
    (s.OutletInv → t.OutletInv) ∧ (s.HeatInv → t.overrun = false → t.HeatInv) ∧ (s.PositionInv → t.PositionInv)

/-- After every step the digest shows every block's words, where the blocks run. -/
def Obligations.StepKeepsDigest : Prop := ∀ s t, s.MemsWf → s.DigestInv → Machine.step s = .next t → t.DigestInv

/-- R10, R11, R16: every step keeps the intake list, the held set and the owner table those of the slots' states, and what the blocks have
in hand in the owner table, unless the cascade overran the model's bound (log entry 16). -/
def Obligations.StepKeepsQueues : Prop :=
  ∀ s t, s.MemsWf → s.QueuesInv → s.InHandInv → Machine.step s = .next t → t.overrun = false → t.QueuesInv ∧ t.InHandInv

/-- R74, R76: every step, a start's among them, keeps every outlet in ON uninhibited and not shed, unless the cascade overran the model's
bound (log entry 16). -/
def Obligations.StepKeepsOutletsClear : Prop :=
  ∀ s t, s.ClearInv → Machine.step s = .next t → t.overrun = false → t.ClearInv

/-- The state right after reset meets the invariants, with an empty queue. -/
def Obligations.ResetMeetsInvariants : Prop :=
  State.reset.pending = [] ∧ State.reset.MemsWf ∧ State.reset.TallyInv ∧ State.reset.OutletInv ∧ State.reset.HeatInv ∧
    State.reset.PositionInv ∧ State.reset.InterlockInv ∧ State.reset.DigestInv ∧ State.reset.QueuesInv ∧
    State.reset.InHandInv ∧ State.reset.ClearInv

/-- R22, R65: the outputs. ATTN is asserted just while ATTN_EN is 1 and a group is both pending and enabled. Outside ON every drive is
inactive; in ON a switched outlet is fully on, a valve at 1000 in its pull-in and at 400 after it, a light channel at its output
level, the bridge at the mover's duty in the direction of its demand. R50, R158, R182, the inputs: the level on SERVICE, a raw edge of a
filtered input, and a pulse of the wind input are recorded, and nothing else changes. -/
def Obligations.PinsFollowAndAreRecorded : Prop :=
  ((∀ s, attn s = true ↔
     s.port.attnEn = true ∧ ∃ g : Fin 10, s.port.notice.getLsbD g.val = true ∧ s.port.mask.getLsbD g.val = true) ∧
   ∀ s o,
     ((outlet s o).state ≠ .on → drive s o = 0) ∧
     ((outlet s o).state = .on →
       ((o = 1 ∨ o = 7) → drive s o = if (outlet s o).pullIn then 1000 else 400) ∧
       (o = 5 → drive s o = s.outlets.duty) ∧
       (∀ c : Fin 6, o.val = 10 + c.val → drive s o = (channel s c).output) ∧
       (o ≠ 1 → o ≠ 7 → o ≠ 5 → o.val < 10 → drive s o = 1000)) ∧
     (driveBra s = true ↔ (outlet s 5).state = .on ∧ (outlet s 5).demand.bind (·.dir) = some .out) ∧
     (driveBrb s = true ↔ (outlet s 5).state = .on ∧ (outlet s 5).demand.bind (·.dir) = some .inward)) ∧
  (∀ s,
     (∀ b, ∃ t, exec (.serviceInput b) s = .next t ∧
       t.sansDigest = ({ s with pins := { s.pins with service := b } } : State).sansDigest) ∧
     (∀ i b, ∃ t, exec (.filteredInputEdge i b) s = .next t ∧ lineOf t i = { lineOf s i with raw := b } ∧
       (∀ j, j ≠ i → lineOf t j = lineOf s j) ∧ { t with pins := s.pins } = s ∧ t.pins.service = s.pins.service ∧
       t.pins.reset = s.pins.reset) ∧
     (s.pins.reset = false → ∃ t, exec .windPulse s = .next t ∧
       t.sansDigest = ({ s with movers := { s.movers with windPulses := s.movers.windPulses + 1 } } : State).sansDigest))

/-- R18, R19: the chain effect. A leader that finishes OK releases its claimed follower at the next position in the order of
release and changes nothing else; one that finishes otherwise fails it CHAIN_BROKEN. -/
def Obligations.FinishedLeaderActsOnFollower : Prop :=
  ∀ s n f o, s.MemsWf → claimedBy s n = some f →
    (o = .ok → chainEffect n o s = { s with disp := { s.disp with
      held := s.disp.held.map fun h => if h.slot = f then { h with released := some s.disp.nextRelease } else h
      nextRelease := s.disp.nextRelease + 1 } }) ∧
    (o ≠ .ok → Finished (chainEffect n o s) f { outcome := .chainBroken } ∧ heldOf (chainEffect n o s) f = none ∧
      (chainEffect n o s).sansOrders = s.sansOrders)

/-! ### Host accesses -/

/-- R27, R58, R61: a port access sets the idle timer to 0; in REST it wakes the part, makes every record due and raises REST_LEFT.
That the records are due at exactly part time × 1000 ms, the wake being reckoned at the last second close, is the model's choice (log
entry 31). Under RESET a host write is dropped without a trace. -/
def Obligations.AccessSetsIdleAndWakes : Prop :=
  (∀ s,
    (s.charge.power ≠ .rest → access s = { s with charge := { s.charge with idle := 0 } }) ∧
    (s.charge.power = .rest →
      (access s).charge.power = .active ∧ (access s).charge.idle = 0 ∧ Noticed (access s) .energy 3 ∧
        ∀ i ∈ roster s, (node (access s) i).due = some (s.time * 1000))) ∧
  ∀ s c, s.pins.reset = true →
    (∃ n i v, c = .slotWordWrite n i v ∨ c = .sceneWrite n i v) ∨ (∃ n, c = .slotPost n ∨ c = .slotCancelPosted n ∨
      c = .slotCancelTaken n ∨ c = .slotCancelLate n ∨ c = .slotGiveBack n) ∨ (∃ n v, c = .slotStateFault n v) ∨
      (∃ a v, c = .stagingWrite a v ∨ c = .digestWrite a v ∨ c = .unmappedWrite a v ∨ c = .registerWrite a v) ∨
      (∃ v, c = .restart v ∨ c = .attnEn v ∨ c = .ordAutoclr v ∨ c = .noticeClear v ∨ c = .noticeMask v) →
    exec c s = .next s

/-- R1, R27: a read returns the word of its address, and changes nothing else than any port access does; under RESET it returns 0. -/
def Obligations.HostReadReturnsWord : Prop :=
  ∀ s addr,
    (s.pins.reset = true → exec (.hostRead addr) s = .next { s with port := { s.port with bus := 0 } }) ∧
    (s.pins.reset = false →
      let u := access s
      let a := addr.toNat
      ∃ t, exec (.hostRead addr) s = .next t ∧
        t.sansDigest = ({ u with port := { u.port with bus := t.port.bus } } : State).sansDigest ∧
        (a < 0x200 → t.port.bus = Mem.read 0 u.ram.slots a) ∧
        (0x200 ≤ a → a < 0x400 → t.port.bus = Mem.read 0 u.ram.digest a) ∧
        (0x400 ≤ a → a < 0x600 → t.port.bus = Mem.read 0 u.ram.scenes a) ∧
        (0x600 ≤ a → a < 0x700 → t.port.bus = Mem.read 0 u.ram.staging a) ∧
        (0x800 ≤ a → a < 0x1000 → t.port.bus = Mem.read 0 u.ram.window a) ∧
        (a = 0x1000 → t.port.bus = 0x4302) ∧
        (a = 0x1001 → t.port.bus = (if u.port.autoClr then 2 else 0) + (if u.port.attnEn then 1 else 0)) ∧
        (a = 0x1002 → t.port.bus = u.port.notice.setWidth 16) ∧
        (a = 0x1003 → t.port.bus = u.port.mask.setWidth 16) ∧
        (a = 0x1004 → t.port.bus = (if u.port.valid then 0x8000 else 0) + (if u.port.further then 0x4000 else 0) +
          u.port.kind.setWidth 16) ∧
        (a = 0x1005 → t.port.bus = u.port.addr.setWidth 16) ∧
        ((0x700 ≤ a ∧ a < 0x800) ∨ 0x1006 ≤ a → t.port.bus = 0))

/-- R3: a slot word other than the state word is stored in EMPTY, DONE and FAILED, and is a SLOT_LOCKED fault otherwise. -/
def Obligations.SlotWordIsStoredOrLocked : Prop :=
  ∀ s n i v, s.pins.reset = false → i ≠ 0 →
    let u := access s
    ∃ t, exec (.slotWordWrite n i v) s = .next t ∧
      ((slotState u n = .empty ∨ slotState u n = .done ∨ slotState u n = .failed) →
        t.sansDigest = ({ u with ram := { u.ram with
          slots := Mem.write 0 u.ram.slots (16 * n.val + i.val) v } } : State).sansDigest) ∧
      ((slotState u n = .posted ∨ slotState u n = .taken ∨ slotState u n = .cancel) →
        t.sansDigest = (captured .slotLocked (BitVec.ofNat 13 (16 * n.val + i.val)) u).sansDigest)

/-- R4: POSTED to an EMPTY slot: the state word, and the intake list or the held set by the FOLLOWER bit. -/
def Obligations.PostingEntersIntakeOrHeldSet : Prop :=
  ∀ s n, s.pins.reset = false →
    let u := access s
    u.MemsWf → slotState u n = .empty →
    ∃ t, exec (.slotPost n) s = .next t ∧
      t.sansDigest = ({ u with
        ram := { u.ram with slots := Mem.write 0 u.ram.slots (16 * n.val) 1 }
        disp :=
          if (slotWord u n 1).getLsbD 15 then
            { u.disp with held := { slot := n, claimed := none, released := none } :: u.disp.held }
          else { u.disp with intake := u.disp.intake ++ [n] } } : State).sansDigest

/-- R5: CANCEL to a POSTED slot: out of the intake list and the held set, and FAILED CANCELLED with results 0. -/
def Obligations.CancelOfPostedFinishesSlot : Prop :=
  ∀ s n, s.pins.reset = false →
    let u := access s
    u.MemsWf → slotState u n = .posted →
    ∃ t, exec (.slotCancelPosted n) s = .next t ∧ Finished t n { outcome := .cancelled } ∧
      t.disp.intake = u.disp.intake.filter (· != n) ∧ t.disp.held = u.disp.held.filter (fun h => h.slot != n) ∧
      OtherSlotsKept u t n ∧ t.sansOrders = u.sansOrders

/-- R6, R112, R173, R183: CANCEL to a TAKEN slot. A store in VALIDATE ends CANCELLED, and later only the state word changes; a fill
is withdrawn and ends CANCELLED; a recall stops its channels and ends CANCELLED. -/
def Obligations.CancelOfTakenReachesOwner : Prop :=
  ∀ s n, s.pins.reset = false →
    let u := access s
    u.MemsWf → blocksRun u = true → slotState u n = .taken → heldOf u n = none →
    (ownerBlock u n = some .store → u.store.phase = .validate →
      ∃ t, exec (.slotCancelTaken n) s = .next t ∧ Finished t n { outcome := .cancelled } ∧
        t.sansOrders = ({ u with store := { u.store with phase := .idle, slot := none } } : State).sansOrders) ∧
    (ownerBlock u n = some .store → u.store.phase ≠ .validate →
      ∃ t, exec (.slotCancelTaken n) s = .next t ∧
        t.sansDigest = ({ u with ram := { u.ram with slots := Mem.write 0 u.ram.slots (16 * n.val) 3 } } : State).sansDigest) ∧
    (∀ f, ownerBlock u n = some .water → u.water.fill = some f → f.slot = n →
      ((outlet u 7).state = .on ∨ (outlet u 7).state = .waiting) → NoneWaitsBut u 7 →
      ∃ t, exec (.slotCancelTaken n) s = .next t ∧ t.water.fill = none ∧ (outlet t 7).state = .off ∧
        (outlet t 7).demand = none ∧ (outlet t 7).charge = 0 ∧
        Finished t n { outcome := .cancelled, r0 := Word.nat (metered u f), r1 := Word.natHi (metered u f), r2 := 0 }) ∧
    (∀ m v, ownerBlock u n = some .movers → v.tag = .host n → moverOf u n = some m → MoveInHand u m v .cancelled →
      ∃ t, exec (.slotCancelTaken n) s = .next t ∧ MoveEnded u t m v .cancelled) ∧
    (ownerBlock u n = some .lights →
      (∀ c, (channel u c).owner = some (.host n) →
        (outlet u (lightOutlet c)).state = .on ∧ (outlet u (lightOutlet c)).demand.isSome = true ∧ (channel u c).output ≠ 0) →
      ∃ t, exec (.slotCancelTaken n) s = .next t ∧ t.outlets = u.outlets ∧
        (∀ c, channel t c = if (channel u c).owner = some (.host n)
          then { channel u c with target := (channel u c).output, owner := none } else channel u c) ∧
        Finished t n { outcome := .cancelled,
                       r0 := Word.nat ((ownedBy u (.host n)).filter fun c => !arrived u c).length })

/-- R7, R23: CANCEL to a finished slot is dropped; EMPTY gives the slot back and, where no slot is finished any more and
ORD_AUTOCLR is 1, clears a pending ORDERS. -/
def Obligations.FinishedSlotIsGivenBack : Prop :=
  ∀ s n, s.pins.reset = false →
    let u := access s
    u.MemsWf → (slotState u n = .done ∨ slotState u n = .failed) →
    (∃ t, exec (.slotCancelLate n) s = .next t ∧ t.sansDigest = u.sansDigest) ∧
    (∃ t, exec (.slotGiveBack n) s = .next t ∧
      t.sansDigest = ({ u with
        ram := { u.ram with slots := Mem.write 0 u.ram.slots (16 * n.val) 0 }
        port :=
          if u.port.autoClr = true ∧ u.port.notice.getLsbD 1 = true ∧
              ∀ m, m ≠ n → slotState u m ≠ .done ∧ slotState u m ≠ .failed then
            { u.port with notice := u.port.notice &&& 0x3FD, causes := u.port.causes.set 1 0 }
          else u.port } : State).sansDigest)

/-- R8: every pair of value and state outside R4 to R7 is a SLOT_STATE fault and changes no slot, intake list or held set. -/
def Obligations.OtherStateWritesAreFaults : Prop :=
  ∀ s n v, s.pins.reset = false →
    let u := access s
    ¬ (slotState u n = .empty ∧ v = 1) → ¬ (slotState u n = .posted ∧ v = 3) → ¬ (slotState u n = .taken ∧ v = 3) →
    ¬ ((slotState u n = .done ∨ slotState u n = .failed) ∧ (v = 3 ∨ v = 0)) →
    ∃ t, exec (.slotStateFault n v) s = .next t ∧
      t.sansDigest = (captured .slotState (BitVec.ofNat 13 (16 * n.val)) u).sansDigest

/-- R2, R24, R170: host writes outside the slots, by region. -/
def Obligations.WritesAreHandledByRegion : Prop :=
  ∀ s, s.pins.reset = false →
    let u := access s
    (∀ n i v, ∃ t, exec (.sceneWrite n i v) s = .next t ∧
      t.ram.scenes = Mem.write 0 u.ram.scenes (0x400 + 16 * n.val + i.val) v ∧
      (∀ k, cacheEntry t k = if cacheOf u n = some k then { cacheEntry u k with valid := false } else cacheEntry u k) ∧
      ({ t with ram := { t.ram with scenes := [] }, lights := { t.lights with cache := u.lights.cache } } : State).sansDigest =
        ({ u with ram := { u.ram with scenes := [] } } : State).sansDigest) ∧
    (∀ a v, 0x600 ≤ a.toNat → a.toNat < 0x700 → ∃ t, exec (.stagingWrite a v) s = .next t ∧
      t.sansDigest = ({ u with ram := { u.ram with staging := Mem.write 0 u.ram.staging a.toNat v } } : State).sansDigest) ∧
    (∀ a v, 0x800 ≤ a.toNat → a.toNat < 0x1000 → ∃ t, exec (.stagingWrite a v) s = .next t ∧
      t.sansDigest = ({ u with ram := { u.ram with window := Mem.write 0 u.ram.window a.toNat v } } : State).sansDigest) ∧
    (∀ a v, 0x200 ≤ a.toNat → a.toNat < 0x400 → ∃ t, exec (.digestWrite a v) s = .next t ∧
      t.sansDigest = (captured .readOnly a u).sansDigest) ∧
    (∀ a v, ((0x700 ≤ a.toNat ∧ a.toNat < 0x800) ∨ 0x1006 ≤ a.toNat) → ∃ t, exec (.unmappedWrite a v) s = .next t ∧
      t.sansDigest = (captured .unmapped a u).sansDigest) ∧
    (∀ a v, (a = 0x1000 ∨ a = 0x1004 ∨ a = 0x1005) → ∃ t, exec (.registerWrite a v) s = .next t ∧
      t.sansDigest = (captured .readOnly a u).sansDigest)

/-- R21, R22, R24, R25: a write to CONTROL without bit 15 stores bits 1 and 0, a write to NOTICE MASK bits 9 to 0; a write to NOTICE
clears each pending group whose bit is 1, with its causes, and clearing PORT releases the capture. Each writes its own register alone. -/
def Obligations.RegisterWritesAct : Prop :=
  (∀ s v, s.pins.reset = false →
    let u := access s
    (v.getLsbD 15 = false →
      (∃ t, exec (.attnEn v) s = .next t ∧
        t.sansDigest = ({ u with port := { u.port with attnEn := v.getLsbD 0, autoClr := v.getLsbD 1 } } : State).sansDigest) ∧
      (∃ t, exec (.ordAutoclr v) s = .next t ∧
        t.sansDigest =
          ({ u with port := { u.port with attnEn := v.getLsbD 0, autoClr := v.getLsbD 1 } } : State).sansDigest)) ∧
    (∃ t, exec (.noticeMask v) s = .next t ∧
      t.sansDigest = ({ u with port := { u.port with mask := v.setWidth 10 } } : State).sansDigest)) ∧
  ∀ s v, s.pins.reset = false →
    let u := access s
    ∃ t, exec (.noticeClear v) s = .next t ∧
      t.port.notice = u.port.notice &&& ~~~(v.setWidth 10) ∧
      (∀ g : Fin 10, t.port.causes[g] =
        if v.getLsbD g.val = true ∧ u.port.notice.getLsbD g.val = true then 0 else u.port.causes[g]) ∧
      (t.port.valid, t.port.further, t.port.kind, t.port.addr) =
        (if v.getLsbD 9 = true ∧ u.port.notice.getLsbD 9 = true then (false, false, 0, 0)
         else (u.port.valid, u.port.further, u.port.kind, u.port.addr)) ∧
      t.port.attnEn = u.port.attnEn ∧ t.port.autoClr = u.port.autoClr ∧ t.port.mask = u.port.mask ∧ t.port.bus = u.port.bus ∧
      ({ t with port := u.port } : State).sansDigest = u.sansDigest

/-! ### Start and restart -/

/-- R25, R61: a CONTROL write with bit 15 is the RESET input asserted and released, in every power state, REST included: that it does
not wake the part first is the model's choice between R61's sentences (log entry 36), and whether it interrupts a
digest update is a free value, at every value of which this holds (log entry 19). -/
def Obligations.RestartIsReset : Prop :=
  ∀ s v, s.pins.reset = false → v.getLsbD 15 = true →
    ∃ t u, exec (.resetAssert (Config.restartCutsUpdate s.restarts)) { s with restarts := s.restarts + 1 } = .next u ∧
      exec .resetRelease u = .next t ∧ exec (.restart v) s = .next t ∧
      t.pins.reset = false ∧ t.charge.power = .starting ∧ t.port.attnEn = false ∧ t.port.autoClr = false ∧ t.port.mask = 1 ∧
      t.disp.intake = [] ∧ t.disp.held = [] ∧ t.disp.owners = []

/-- R27, R88, R188: RESET asserted. The RAM keeps its contents (the digest's count may be left odd), the registers take their reset
values, the dispatcher's collections are emptied, every outlet but a held one in ON goes OFF, and the blocks stand at their restart
states. The model's choices: a RESET already held changes nothing (log entry 6); the bus word of the last read is kept, and the
restart states are there at once, by the settings still active (log entry 19). -/
def Obligations.ResetAssertStopsTheBlocks : Prop :=
  ∀ s d,
    (s.pins.reset = true → exec (.resetAssert d) s = .next s) ∧
    (s.pins.reset = false → ∃ t, exec (.resetAssert d) s = .next t ∧
      t.pins = { s.pins with reset := true } ∧ t.charge.power = .starting ∧ t.disp = {} ∧ t.port = { bus := s.port.bus } ∧
      t.ram.slots = s.ram.slots ∧ t.ram.scenes = s.ram.scenes ∧ t.ram.staging = s.ram.staging ∧
      t.ram.window = s.ram.window ∧ t.store.flash = s.store.flash ∧ t.store.slot = none ∧ t.retained = s.retained ∧
      t.time = 0 ∧ t.lights = {} ∧ t.link = {} ∧ t.water.fill = none ∧ t.movers.awning.move = none ∧
      t.movers.step.move = none ∧ t.movers.owner = none ∧ t.interlock.evaluated = false ∧ activeEffects t = [] ∧
      ∀ o, if (o = 1 ∨ o = 2) ∧ (outlet s o).held = true ∧ (outlet s o).state = .on
        then (outlet t o).state = .on ∧ (outlet t o).charge = (outlet s o).charge ∧ (outlet t o).demand = (outlet s o).demand
        else (outlet t o).state = .off ∧ (outlet t o).charge = 0 ∧ (outlet t o).demand = none)

/-- R27, R186, R188: RESET released. The sweep fails every POSTED, TAKEN and CANCEL slot with RESTART and leaves the others; part
time begins at 0 and the active settings are the sector's if it is valid, the built-in defaults otherwise; an outlet held in ON keeps
its measured current and begins a whole second (R80). That a release without RESET changes nothing is the model's (log entry 6). -/
def Obligations.ResetReleaseSweepsAndLoads : Prop :=
  ∀ s,
    (s.pins.reset = false → exec .resetRelease s = .next s) ∧
    (s.pins.reset = true → s.MemsWf → ∃ t, exec .resetRelease s = .next t ∧
      t.pins.reset = false ∧ t.charge.power = .starting ∧ t.time = 0 ∧ t.start = .restart ∧
      (∀ n, if slotState s n = .posted ∨ slotState s n = .taken ∨ slotState s n = .cancel
        then slotWord t n 0 = 5 ∧ slotWord t n 11 = 23 ∧ slotWord t n 12 = 0 ∧ slotWord t n 13 = 0 ∧ slotWord t n 14 = 0 ∧
          slotWord t n 15 = 0 ∧ t.port.notice.getLsbD 1 = true ∧ t.port.causes[1].getLsbD n.val = true
        else ∀ i, i < 16 → slotWord t n i = slotWord s n i) ∧
      t.store.result = Image.judge (flashImage s.store.flash) ∧
      (t.store.result = .valid → t.store.active = flashImage s.store.flash ∧ t.store.defaults = false) ∧
      (t.store.result ≠ .valid → t.store.active = Image.default ∧ t.store.defaults = true) ∧
      t.charge.tally.synced = (decide (s.retained.charge ≤ t.charge.tally.capacity) && s.retained.synced) ∧
      ∀ o, (outlet s o).state = .on → (outlet t o).state = .on ∧ (outlet t o).measured = (outlet s o).measured ∧
        (outlet t o).sum = 0 ∧ (outlet t o).samples = 0 ∧ (outlet t o).whole = true)

/-- R26, R62, R87, R121, R140, R162: a power-on clears the RAM, the registers and the collections; half the capacity is presumed, unsynced;
every outlet is OFF; the flash stays. That RESET is deasserted afterwards whatever it was is the model's choice (log entry 19), and so is
that the queue stays (log entry 1). -/
def Obligations.PowerOnClears : Prop :=
  ∀ s, ∃ t, exec .powerOn s = .next t ∧ t.ram = {} ∧ t.port = {} ∧ t.disp = {} ∧ t.pins.reset = false ∧
    t.charge.power = .starting ∧ t.time = 0 ∧ t.start = .powerOn ∧ t.store.flash = s.store.flash ∧ t.pending = s.pending ∧
    t.charge.tally.charge = t.charge.tally.capacity / 2 ∧ t.charge.tally.synced = false ∧
    (∀ o, (outlet t o).state = .off ∧ (outlet t o).charge = 0 ∧ (outlet t o).demand = none) ∧
    (seq t).state = .off ∧ t.movers.awning.move = none ∧ t.movers.step.move = none ∧ t.water.frost.latch = false

/-- R163, R187: the part becomes ACTIVE, and START is raised with its cause and DEFAULTS where the defaults are in use. With the ignition
on, a step that is not STOWED begins its retract. That it, and not an awning out with WIND_HIGH 1, then owns the bridge is the model's
choice (log entry 51, DESIGN CHOICE). The last clause is the model's own: R163 and R187 name the ignition test alone, and that an awning
not STOWED begins its retract at ACTIVE, with the ignition off, for a WIND_HIGH kept in STARTING is log entry 29 (DEDUCED). -/
def Obligations.StartCompleteEntersActive : Prop :=
  ∀ s, s.pins.reset = false → s.charge.power = .starting →
    ∃ t, exec .startComplete s = .next t ∧ t.charge.power = .active ∧ t.charge.idle = 0 ∧ t.interlock.evaluated = true ∧
      Noticed t .start (match s.start with | .powerOn => 0 | .restart => 1) ∧
      (s.store.defaults = true → Noticed t .start 2) ∧ t.time = s.time ∧ t.store = s.store ∧
      (s.pins.ignition.level = true → (mover s .step).state ≠ .stowed → s.movers.owner = none → s.movers.awning.move = none →
        s.movers.step.move = none → (outlet s 5).state = .off →
        ∃ v, (mover t .step).move = some v ∧ v.tag = .retract ∧ v.dir = .inward ∧ v.target = .stop ∧
          t.movers.owner = some .step) ∧
      (s.pins.ignition.level = false → s.movers.windHigh = true → (mover s .awning).state ≠ .stowed → s.movers.owner = none →
        s.movers.awning.move = none → s.movers.step.move = none → (outlet s 5).state = .off →
        ∃ v, (mover t .awning).move = some v ∧ v.tag = .retract ∧ v.dir = .inward ∧ v.target = .stop ∧
          t.movers.owner = some .awning)

/-! ### Orders -/

/-- R12, R14, R18, R19: the dispatcher. It takes the released entry of the held set that was released earliest, otherwise the head of the intake
list. The slot it takes leaves its collection, whatever becomes of the order. The follower its FOLLOW_ON names is claimed: it stays so
while the order is TAKEN, is released where the order ends DONE, and fails CHAIN_BROKEN where it ends FAILED. -/
def Obligations.DispatchTakesSlotAndClaims : Prop :=
  (∀ s, (∀ h ∈ s.disp.held, h.released = none) → nextSlot s = s.disp.intake.head?) ∧
  (∀ s h k, h ∈ s.disp.held → h.released = some k →
    (∀ g ∈ s.disp.held, ∀ j, g.released = some j → g.slot ≠ h.slot → k < j) → nextSlot s = some h.slot) ∧
  (∀ s n, blocksRun s = true → nextSlot s = some n →
    ∀ c, (c = .badKind ∧ kindOf s n = none) ∨ (∃ k, orderKind c = some k ∧ kindOf s n = some k) →
      ∃ t, exec c s = .next t ∧ t.disp.intake = s.disp.intake.filter (· != n) ∧ ∀ h ∈ t.disp.held, h.slot ≠ n) ∧
  ∀ s n f, s.MemsWf → blocksRun s = true → nextSlot s = some n → followCheck (takeSlot n s) n = .claim f →
    (∀ h ∈ s.disp.held, h.claimed ≠ some n ∧ (h.slot = f → h.released = none)) →
    let rest := s.disp.held.filter fun h => h.slot != n
    (kindOf s n = some .settingsStore → s.store.slot = none → s.pins.service = true →
      ∃ t, exec .settingsStore s = .next t ∧ slotState t n = .taken ∧
        t.disp.held = rest.map fun h => if h.slot = f then { h with claimed := some n } else h) ∧
    (kindOf s n = some .settingsStore → s.store.slot = none → s.pins.service = false →
      ∃ t, exec .settingsStore s = .next t ∧ slotState t n = .failed ∧ Finished t f { outcome := .chainBroken } ∧
        heldOf t f = none) ∧
    (kindOf s n = some .settingsFetch →
      ∃ t, exec .settingsFetch s = .next t ∧ slotState t n = .done ∧ t.disp.nextRelease = s.disp.nextRelease + 1 ∧
        t.disp.held = rest.map fun h =>
          if h.slot = f then { h with claimed := some n, released := some s.disp.nextRelease } else h)

/-- R13, R14: an order whose KIND is unknown, whose parameter is out of range or whose FOLLOW_ON is unsuitable is finished at once,
and nothing outside the order traffic changes. That a follower naming itself fails with reason 4 is the model's reading (log entry 30). -/
def Obligations.DispatchRejectsBadOrders : Prop :=
  ∀ s n, s.MemsWf → blocksRun s = true → nextSlot s = some n →
    (kindOf s n = none →
      ∃ t, exec .badKind s = .next t ∧ Finished t n { outcome := .badKind } ∧ t.sansOrders = s.sansOrders) ∧
    ∀ c k, orderKind c = some k → kindOf s n = some k →
      (∀ i, badParam k s n = some i →
        ∃ t, exec c s = .next t ∧ Finished t n { outcome := .badParam, r0 := Word.nat i } ∧ t.sansOrders = s.sansOrders) ∧
      (badParam k s n = none → ∀ r, followCheck (takeSlot n s) n = .bad r →
        ∃ t, exec c s = .next t ∧ Finished t n { outcome := .chainInvalid, r0 := Word.nat r } ∧
          t.sansOrders = s.sansOrders)

/-- R49, R54, R56, R185: CHARGE_SET, with the retained copies. -/
def Obligations.ChargeSetSetsTally : Prop :=
  ∀ s n, s.MemsWf → Dispatches s n .chargeSet →
    let c := (slotWord s n 3).toNat + (slotWord s n 4).toNat * 65536
    ∃ t, exec .chargeSet s = .next t ∧
      t.charge.tally = { s.charge.tally with charge := c, acc := 0, synced := true } ∧
      t.charge.socLevel = nextSocLevel (cfg s) (c * 1000 / s.charge.tally.capacity) s.charge.socLevel ∧
      t.charge.shedLevel = shedOf t ∧
      (t.retained.charge, t.retained.acc, t.retained.synced) = (c, 0, true) ∧
      Finished t n { outcome := .ok, r0 := Word.nat (c * 1000 / s.charge.tally.capacity),
                     r1 := Word.nat t.charge.shedLevel }

/-- R56, R57, R74, R75: SHED_FLOOR. A rise of the shed level cuts every outlet in ON or WAITING whose class is now shed and no other
outlet changes; a fall takes an outlet out of SHED, into ON if its request fits and into WAITING otherwise. -/
def Obligations.ShedFloorSetsHostFloor : Prop :=
  ∀ s n, s.MemsWf → Dispatches s n .shedFloor →
    ∃ t, exec .shedFloor s = .next t ∧ t.charge.hostFloor = (slotWord s n 3).toNat ∧
      t.charge.shedLevel = max t.charge.hostFloor (max (if t.charge.floor then 3 else 0)
        (if t.charge.shore then 0 else t.charge.socLevel)) ∧
      t.charge.tally = s.charge.tally ∧ t.pins = s.pins ∧
      Finished t n { outcome := .ok, r0 := Word.nat t.charge.shedLevel } ∧
      let k := floorLevel s (slotWord s n 3).toNat
      (s.charge.shedLevel < k → ShedHeard s k →
        (∀ q, ((outlet s q).state = .on ∨ (outlet s q).state = .waiting) → ShedAt s k q →
          q ≠ 2 ∧ q ≠ 5 ∧ q ≠ 7 ∧ ∀ c, q = lightOutlet c → 0 < (channel s c).target) →
        (∀ q, (outlet s q).state = .waiting → ShedAt s k q) →
        ∀ q, if ((outlet s q).state = .on ∨ (outlet s q).state = .waiting) ∧ ShedAt s k q
          then (outlet t q).state = .shed ∧ (outlet t q).charge = 0 ∧ (outlet t q).demand = (outlet s q).demand
          else outlet t q = outlet s q) ∧
      (∀ d, s.OutletInv → k < s.charge.shedLevel → ShedHeard s k → (outlet s 8).state = .shed → (outlet s 8).demand = some d →
        configuredClass s 8 ≠ 0 → ¬ ShedAt s k 8 →
        (∀ q, q ≠ 8 → (outlet s q).state ≠ .waiting ∧ ((outlet s q).state = .shed → ShedAt s k q)) →
        OtherOutletsKept s t 8 ∧ (outlet t 8).demand = some d ∧
        (grantedTotal s + d.charge ≤ s.outlets.limit → (outlet t 8).state = .on ∧ (outlet t 8).charge = d.charge) ∧
        (s.outlets.limit < grantedTotal s + d.charge → (outlet t 8).state = .waiting ∧ (outlet t 8).charge = 0))

/-- R60: REST_NOW. -/
def Obligations.RestNowNeedsIdleConditions : Prop :=
  ∀ s n, s.MemsWf → Dispatches s n .restNow →
    (s.charge.power = .rest →
      ∃ t, exec .restNow s = .next t ∧ Finished t n { outcome := .ok } ∧ t.sansOrders = s.sansOrders) ∧
    (s.charge.power = .active → idleBroken s = 0 →
      ∃ t, exec .restNow s = .next t ∧ t.charge.power = .rest ∧ t.charge.idle = 0 ∧ Noticed t .energy 2 ∧
        (∀ i ∈ roster s, (node t i).scaled = true) ∧ Finished t n { outcome := .ok }) ∧
    (s.charge.power = .active → idleBroken s ≠ 0 →
      ∃ t, exec .restNow s = .next t ∧
        Finished t n { outcome := .notPermitted, r0 := Word.nat (idleBroken s) } ∧ t.sansOrders = s.sansOrders)

/-- R68, R69, R72, R74, R76, R83, R84: AUX_SET with each outcome of the decision (inhibited, shed, granted, waiting, and for a PROTECTED
request a preemption or a grant over the limit); TRIP_CLEAR. That AUX_SET reads its r0 after what the owners asked in answer to its
reports is the model's choice (log entry 61). No act puts an outlet into ON that is inhibited or shed, and a rise of
the inhibit count or of the shed level leaves none so. -/
def Obligations.OutletOrders : Prop :=
  (∀ s n, s.MemsWf → Dispatches s n .auxSet →
    (∃ t, exec .auxSet s = .next t ∧ Finished t n { outcome := .ok, r0 := (outlet t 8).state.code }) ∧
    (slotWord s n 3 = 1 → WouldGrant s 8 →
      ∃ t, exec .auxSet s = .next t ∧ (outlet t 8).state = .on ∧ (outlet t 8).charge = ratedOf s 8 ∧
        (outlet t 8).demand = some { charge := ratedOf s 8 } ∧ OtherOutletsKept s t 8 ∧ OwnersKept s t ∧
        Finished t n { outcome := .ok, r0 := 2 }) ∧
    (slotWord s n 3 = 0 → (outlet s 8).state = .on → NoneWaitsBut s 8 →
      ∃ t, exec .auxSet s = .next t ∧ (outlet t 8).state = .off ∧ (outlet t 8).charge = 0 ∧ (outlet t 8).demand = none ∧
        OtherOutletsKept s t 8 ∧ OwnersKept s t ∧ Finished t n { outcome := .ok, r0 := 0 })) ∧
  (∀ s n, s.MemsWf → Dispatches s n .tripClear →
    let o : Fin 16 := Fin.ofNat 16 (slotWord s n 3).toNat
    ((outlet s o).state ≠ .tripped →
      ∃ t, exec .tripClear s = .next t ∧ Finished t n { outcome := .notPermitted, r0 := (outlet s o).state.code } ∧
        t.sansOrders = s.sansOrders) ∧
    ((outlet s o).state = .tripped → (outlet s o).demand = none →
      ∃ t, exec .tripClear s = .next t ∧ (outlet t o).state = .off ∧ (outlet t o).charge = 0 ∧ OtherOutletsKept s t o ∧
        Finished t n { outcome := .ok, r0 := 0, r1 := Word.nat (grantedTotal t) }) ∧
    (o = 8 → (outlet s 8).state = .tripped → (outlet s 8).demand = some { charge := ratedOf s 8 } →
      (outlet s 8).inhibit = 0 → classShed (configuredClass s 8) s.outlets.shedLevel = false →
      grantedTotal s + ratedOf s 8 ≤ s.outlets.limit →
      ∃ t, exec .tripClear s = .next t ∧ (outlet t 8).state = .on ∧ (outlet t 8).charge = ratedOf s 8 ∧
        OtherOutletsKept s t 8 ∧ Finished t n { outcome := .ok, r0 := 2, r1 := Word.nat (grantedTotal t) })) ∧
  (∀ s n, s.MemsWf → s.OutletInv → Dispatches s n .auxSet → slotWord s n 3 = 1 → (outlet s 8).state = .off →
    let refused : OutletState → Prop := fun x => ∃ t, exec .auxSet s = .next t ∧ (outlet t 8).state = x ∧
      (outlet t 8).charge = 0 ∧ (outlet t 8).demand = some { charge := ratedOf s 8 } ∧ OtherOutletsKept s t 8 ∧
      Finished t n { outcome := .ok, r0 := x.code }
    ((outlet s 8).inhibit ≠ 0 → refused .inhibited) ∧
    ((outlet s 8).inhibit = 0 → isShed s 8 = true → refused .shed) ∧
    ((outlet s 8).inhibit = 0 → isShed s 8 = false → s.outlets.limit < grantedTotal s + ratedOf s 8 →
      (configuredClass s 8 ≠ 0 → refused .waiting) ∧
      (configuredClass s 8 = 0 → (∀ q, (outlet s q).state = .on → effClass s q = 0) →
        ∃ t, exec .auxSet s = .next t ∧ (outlet t 8).state = .on ∧ (outlet t 8).charge = ratedOf s 8 ∧
          OtherOutletsKept s t 8 ∧ (grantedTotal s ≤ s.outlets.limit → Noticed t .outlets 15) ∧
          Finished t n { outcome := .ok, r0 := 2 }) ∧
      (∀ q e, configuredClass s 8 = 0 → (q = 0 ∨ q = 3 ∨ q = 4 ∨ q = 6 ∨ q = 9) → FirstRevoked s q → isShed s q = false →
        (outlet s q).demand = some e → e.charge = (outlet s q).charge → NoneWaitsBut s 8 →
        grantedTotal s + ratedOf s 8 ≤ s.outlets.limit + (outlet s q).charge →
        ∃ t, exec .auxSet s = .next t ∧ (outlet t 8).state = .on ∧ (outlet t 8).charge = ratedOf s 8 ∧
          (outlet t q).state = .waiting ∧ (outlet t q).charge = 0 ∧ (outlet t q).demand = some e ∧
          (outlet t q).requestOrder = (outlet s q).requestOrder ∧ (∀ p, p ≠ 8 → p ≠ q → outlet t p = outlet s p) ∧ Noticed t .outlets 13 ∧
          Finished t n { outcome := .ok, r0 := 2 }))) ∧
  (∀ a (r : Run) o, (outlet r.st o).state ≠ .on → ((outlet r.st o).state = .waiting → (outlet r.st o).inhibit = 0) →
    (outlet (perform a r).st o).state = .on →
    (outlet (perform a r).st o).inhibit = 0 ∧ isShed (perform a r).st o = false) ∧
  (∀ l (r : Run), (∀ q, ((outlet r.st q).state = .on ∨ (outlet r.st q).state = .waiting ∨ (outlet r.st q).state = .shed) →
      (outlet r.st q).inhibit = 0) →
    ∀ x ∈ l, 0 < x.2 → (outlet (perform (.rises l) r).st x.1).state ≠ .on ∧
      (outlet (perform (.rises l) r).st x.1).state ≠ .waiting ∧ (outlet (perform (.rises l) r).st x.1).state ≠ .shed) ∧
  ∀ (r : Run) q, ((outlet (perform .cutRest r).st q).state = .on ∨ (outlet (perform .cutRest r).st q).state = .waiting) →
    isShed (perform .cutRest r).st q = false

/-- R90, R93 to R102: TERMS_LOAD; and after every step each active flag is its term's condition on the held signals and each count the
number of active terms, unless the cascade overran the model's bound (log entry 16). That r1 counts the terms active at the load is the
model's choice (log entry 39). -/
def Obligations.TermsLoadReplacesHostSet : Prop :=
  (∀ s n, s.MemsWf → Dispatches s n .termsLoad →
    let k := (slotWord s n 3).toNat
    (∀ r reason w, stagingCheck s 0 k = some (r, reason, w) →
      ∃ t, exec .termsLoad s = .next t ∧
        Finished t n { outcome := .badParam, r0 := Word.nat r, r1 := Word.nat reason, r2 := Word.nat w } ∧
        t.sansOrders = s.sansOrders) ∧
    (stagingCheck s 0 k = none →
      ∃ t, exec .termsLoad s = .next t ∧
        t.interlock.terms.map (·.record) =
          (List.range k).map (fun r => Mem.readList 0 s.ram.staging (0x600 + 16 * r) 16) ∧
        t.ram.staging = s.ram.staging ∧
        Finished t n { outcome := .ok, r0 := slotWord s n 3,
                       r1 := Word.nat ((stagedTerms s k).filter fun x => TermRec.holds x s.interlock.signals).length })) ∧
  ∀ s t, s.InterlockInv → Machine.step s = .next t → t.overrun = false → t.InterlockInv

/-- R106 to R108: PUMP_MODE and PUMP_RESET. That the results are read after what owners asked in answer to reports is the model's choice
(log entry 61). -/
def Obligations.PumpOrders : Prop :=
  (∀ s n, s.MemsWf → Dispatches s n .pumpMode →
    (∃ t, exec .pumpMode s = .next t ∧ t.water.pump.auto = (slotWord s n 3 == 1) ∧
      Finished t n { outcome := .ok, r0 := t.water.pump.state.code, r1 := (outlet t 0).state.code }) ∧
    (slotWord s n 3 = 0 → s.water.pump.auto = true → s.water.pump.state ≠ .dry →
      ((outlet s 0).state = .on ∨ (outlet s 0).state = .waiting) → NoneWaitsBut s 0 →
      ∃ t, exec .pumpMode s = .next t ∧ t.water.pump.state = .idle ∧ (outlet t 0).state = .off ∧
        (outlet t 0).demand = none ∧ OtherOutletsKept s t 0)) ∧
  ∀ s n, s.MemsWf → Dispatches s n .pumpReset →
    (s.water.pump.state ≠ .dry →
      ∃ t, exec .pumpReset s = .next t ∧
        Finished t n { outcome := .notPermitted, r0 := 1, r1 := s.water.pump.state.code } ∧ t.sansOrders = s.sansOrders) ∧
    (s.water.pump.state = .dry → (outlet s 0).state = .tripped →
      ∃ t, exec .pumpReset s = .next t ∧ Finished t n { outcome := .notPermitted, r0 := 2, r1 := 5 } ∧
        t.sansOrders = s.sansOrders) ∧
    (s.water.pump.state = .dry → (outlet s 0).state ≠ .tripped →
      (s.water.pump.auto = false ∨ s.pins.pressureLow.level = false) →
      ∃ t, exec .pumpReset s = .next t ∧ Finished t n { outcome := .ok, r0 := 0 } ∧
        t.sansOrders = ({ s with water := { s.water with
          pump := { s.water.pump with state := .idle, cause := .none, entry := none } } } : State).sansOrders) ∧
    (s.water.pump.state = .dry → s.water.pump.auto = true → s.pins.pressureLow.level = true → pumpLow s = false →
      WouldGrant s 0 →
      ∃ t, exec .pumpReset s = .next t ∧ t.water.pump.state = .running ∧ t.water.pump.cause = .none ∧
        (outlet t 0).state = .on ∧ OtherOutletsKept s t 0 ∧ Finished t n { outcome := .ok, r0 := 1 })

/-- R109, R110: FILL. -/
def Obligations.FillIsAcceptedOrRefused : Prop :=
  ∀ s n, s.MemsWf → Dispatches s n .fill →
    let target := (slotWord s n 3).toNat + (slotWord s n 4).toNat * 65536
    (∀ f, s.water.fill = some f →
      ∃ t, exec .fill s = .next t ∧ Finished t n { outcome := .busy, r0 := Word.nat f.slot.val } ∧
        t.sansOrders = s.sansOrders) ∧
    (s.water.fill = none → sigVal s .drainOpen = 1 →
      ∃ t, exec .fill s = .next t ∧ Finished t n { outcome := .notPermitted, r0 := 1 } ∧ t.sansOrders = s.sansOrders) ∧
    (s.water.fill = none → sigVal s .drainOpen ≠ 1 → (s.water.frost.stage = .heat ∨ s.water.frost.stage = .dump) →
      ∃ t, exec .fill s = .next t ∧
        Finished t n { outcome := .notPermitted, r0 := 2, r1 := Word.nat s.water.frost.stage.code } ∧
        t.sansOrders = s.sansOrders) ∧
    (s.water.fill = none → sigVal s .drainOpen ≠ 1 → (s.water.frost.stage = .watch ∨ s.water.frost.stage = .pad) →
      (freshFull s = false → WouldGrant s 7 →
        ∃ t, exec .fill s = .next t ∧ slotState t n = .taken ∧ (n, Block.water) ∈ t.disp.owners ∧
          t.water.fill = some { slot := n, target := target, valve := .on } ∧ (outlet t 7).state = .on ∧
          (outlet t 7).pullIn = true ∧ (outlet t 7).charge = ratedOf s 7 ∧ OtherOutletsKept s t 7) ∧
      (freshFull s = true → (outlet s 7).state = .off →
        ∃ t, exec .fill s = .next t ∧ t.water.fill = none ∧ (outlet t 7).state = .off ∧ OtherOutletsKept s t 7 ∧
          Finished t n { outcome := .ok, r0 := 0, r1 := 0, r2 := 1 }))

/-- R115, R118 to R120: DRAIN_DUMP and DRAIN_CLOSE. A dump hands DRAIN_OPEN, opens the drain valve and sets its held flag and the latch,
unless the cascade overran the model's bound (log entry 16); a close withdraws the valve and hands DRAIN_OPEN = 0. That r0 is read
after what owners asked in answer to reports is the model's choice (log entry 61). -/
def Obligations.DrainOrders : Prop :=
  (∀ s n, s.MemsWf → Dispatches s n .drainDump →
    ∃ t, exec .drainDump s = .next t ∧ t.water.frost.stage = .dump ∧
      (s.water.frost.stage ≠ .dump → t.overrun = false → t.water.frost.latch = true ∧ t.retained.latch = true ∧
        (outlet t 1).held = true ∧ sigVal t .drainOpen = 1 ∧ sigVal t .frostStage = 3 ∧ Noticed t .water 1 ∧ Noticed t .water 2 ∧
        ((outlet s 1).state = .tripped → (outlet t 1).state = .tripped ∧ (outlet t 1).demand = some { charge := ratedOf s 1 }) ∧
        ((outlet s 1).state = .off → (outlet s 1).inhibit = 0 → configuredClass s 1 = 0 →
          (∀ x ∈ s.interlock.terms, TermRec.effectOf x.record ≠ .inhibit 1) →
          (outlet t 1).state = .on ∧ (outlet t 1).charge = ratedOf s 1 ∧ (outlet t 1).pullIn = true ∧
            (outlet t 1).demand = some { charge := ratedOf s 1 })) ∧
      Finished t n { outcome := .ok, r0 := (outlet t 1).state.code }) ∧
  ∀ s n, s.MemsWf → Dispatches s n .drainClose →
    (s.water.frost.stage ≠ .dump →
      ∃ t, exec .drainClose s = .next t ∧ Finished t n { outcome := .ok } ∧ t.sansOrders = s.sansOrders) ∧
    (s.water.frost.stage = .dump → s.water.frost.temp = none →
      ∃ t, exec .drainClose s = .next t ∧ Finished t n { outcome := .notPermitted, r0 := 1 } ∧
        t.sansOrders = s.sansOrders) ∧
    (∀ x, s.water.frost.stage = .dump → s.water.frost.temp = some x → x ≤ Image.padThreshold (cfg s) →
      ∃ t, exec .drainClose s = .next t ∧ Finished t n { outcome := .notPermitted, r0 := 2, r1 := Word.int x } ∧
        t.sansOrders = s.sansOrders) ∧
    (∀ x, s.water.frost.stage = .dump → s.water.frost.temp = some x → Image.padThreshold (cfg s) < x →
      ∃ t, exec .drainClose s = .next t ∧ t.water.frost.stage = .watch ∧ t.water.frost.latch = false ∧
        t.retained.latch = false ∧ sigVal t .drainOpen = 0 ∧ sigVal t .frostStage = 0 ∧ (outlet t 1).held = false ∧
        (outlet t 1).demand = none ∧ (outlet t 1).state = (if (outlet s 1).state = .tripped then .tripped else .off) ∧
        ((outlet s 1).state ≠ .tripped → (outlet s 1).state ≠ .off → (outlet t 1).charge = 0) ∧
        Noticed t .water 1 ∧ Noticed t .water 6 ∧ Finished t n { outcome := .ok, r0 := 0 })

/-- R124, R127, R139: CLIMATE_MODE, ZONE_SET and HEATER_CLEAR. That the results are read after what owners asked in answer to reports is
the model's choice (log entry 61). -/
def Obligations.ClimateOrders : Prop :=
  (∀ s n, s.MemsWf →
     (Dispatches s n .climateMode →
       ∃ t, exec .climateMode s = .next t ∧ t.climate.mode.code = slotWord s n 3 ∧
         Finished t n { outcome := .ok, r0 := (seq t).state.code, r1 := Word.flag t.climate.demand }) ∧
     (Dispatches s n .zoneSet →
       let z : Fin 3 := Fin.ofNat 3 (slotWord s n 3).toNat
       ∃ t, exec .zoneSet s = .next t ∧ (zone t z).hostTarget = (slotWord s n 4).toNat ∧
         (zone t z).hostOn = (slotWord s n 5 == 1) ∧
         (¬ (z = 2 ∧ s.climate.frost = true) →
           (zone t z).target = (slotWord s n 4).toNat ∧ (zone t z).on = (slotWord s n 5 == 1)) ∧
         (z = 2 → s.climate.frost = true → (zone t z).target = (zone s z).target ∧ (zone t z).on = (zone s z).on) ∧
         Finished t n { outcome := .ok, r0 := Word.flag (zone t z).demand, r1 := (seq t).state.code })) ∧
  (∀ s n, s.MemsWf → Dispatches s n .heaterClear →
     ((seq s).state ≠ .lockedOut →
       ∃ t, exec .heaterClear s = .next t ∧ Finished t n { outcome := .notPermitted, r0 := (seq s).state.code } ∧
         t.sansOrders = s.sansOrders) ∧
     ((seq s).state = .lockedOut → sigVal s .heaterActive = 0 → s.outlets.heater = .lockedOut →
       ∃ t, exec .heaterClear s = .next t ∧ (seq t).state = .off ∧ (seq t).failed = 0 ∧ (seq t).lockout = false ∧
         (seq t).clearPending = (recordOf s .heater).isSome ∧ (∀ o, (outlet t o).state = (outlet s o).state) ∧
         (recordOf s .heater ≠ none → s.link.phase ≠ .idle → t.link.heater = some (.single .clearFault)) ∧
         Finished t n { outcome := .ok }))

/-- R145 to R148: MOVE. A STALLED mover, a target already reached and a demand that waits for its grant are not stated here. An awning
that stands at its travel drives at an OUT move to END: that a goal met at the entry into DRIVING does not end the move there is the
model's choice (log entry 56). An accepted move takes the bridge and, its demand granted at once, drives, in CREEP if the position is unknown or
the distance left is within the creep counts, in RUN otherwise (with creep counts 0 and no distance left this is the model's choice, log
entry 41). An inward move with its position unknown has END for its target, so that it runs to the stowed end-stop (R146; that the
record holds END is the model's choice, log entry 55). -/
def Obligations.MoveTakesBridgeAndDrives : Prop :=
  ∀ s n, s.MemsWf → Dispatches s n .move →
    let m := moverArg s n
    let d := dirArg s n
    (∀ v, (mover s m).move = some v →
      ∃ t, exec .move s = .next t ∧ Finished t n { outcome := .busy, r0 := tagWord v } ∧ t.sansOrders = s.sansOrders) ∧
    ((mover s m).move = none → d = .out → (mover s m).known = false →
      ∃ t, exec .move s = .next t ∧
        Finished t n { outcome := .positionUnknown, r0 := 0, r1 := (mover s m).state.code } ∧
        t.sansOrders = s.sansOrders) ∧
    ((mover s m).move = none → d = .out → (mover s m).known = true → blockCount s m ≠ 0 →
      ∃ t, exec .move s = .next t ∧ Finished t n { outcome := .interlocked, r0 := Word.nat (blockCount s m) } ∧
        t.sansOrders = s.sansOrders) ∧
    ((mover s m).move = none → (d = .out → (mover s m).known = true ∧ blockCount s m = 0) →
      ∀ h, s.movers.owner = some h →
      ∃ t, exec .move s = .next t ∧ Finished t n { outcome := .bridgeHeld, r0 := Word.nat (moverIndex h) } ∧
        t.sansOrders = s.sansOrders) ∧
    ((mover s m).move = none → (d = .out → (mover s m).known = true ∧ blockCount s m = 0) → s.movers.owner = none →
      (mover s m).state ≠ .stalled → reached (mover s m) (hostMove n s) = false →
      sigVal s (stowSig m) = (if (mover s m).state = .stowed then 1 else 0) → Quiet s (stowSig m) 0 →
      (outlet s 5).state = .off → (outlet s 5).inhibit = 0 →
      (d = .out → classShed (configuredClass s 5) s.outlets.shedLevel = false) →
      grantedTotal s + bridgeCharge m ≤ s.outlets.limit →
      ∃ t v, exec .move s = .next t ∧ (mover t m).move = some v ∧ v.tag = .host n ∧ v.dir = d ∧ v.driving = true ∧
        v.target = (hostMove n s).target ∧ (d = .inward → (mover s m).known = false → v.target = .stop) ∧
        v.run = (hostMove n s).run ∧ v.creep = (hostMove n s).creep ∧ v.creepCounts = (hostMove n s).creepCounts ∧ v.timer = 0 ∧ v.stall = 0 ∧
        v.creeping = (!(mover s m).known || decide (remaining s m v (mover s m).position ≤ v.creepCounts)) ∧
        (mover t m).state = (if d = .out then .movingOut else .movingIn) ∧ (mover t m).lastDir = some d ∧
        (mover t m).position = (mover s m).position ∧ t.movers.owner = some m ∧
        t.outlets.duty = (if v.creeping then v.creep else v.run) ∧ (outlet t 5).state = .on ∧
        (outlet t 5).charge = bridgeCharge m ∧ (outlet t 5).demand.bind (·.dir) = some d ∧ OtherOutletsKept s t 5 ∧
        slotState t n = .taken ∧ (n, Block.movers) ∈ t.disp.owners)

/-- R149, R156: MOVER_STOP. -/
def Obligations.MoverStopEndsMove : Prop :=
  ∀ s n, s.MemsWf → Dispatches s n .moverStop →
    let m := moverArg s n
    ((mover s m).move = none →
      ∃ t, exec .moverStop s = .next t ∧ pendingOf t m = false ∧ mover t m = mover s m ∧ t.outlets = s.outlets ∧
        Finished t n { outcome := .ok, r0 := 0, r1 := (mover s m).state.code, r2 := positionWord (mover s m) }) ∧
    (∀ v, MoveInHand s m v .stopped → v.tag ≠ .host n →
      ∃ t, exec .moverStop s = .next t ∧ MoveEnded s t m v .stopped ∧ pendingOf t m = false ∧ OtherOutletsKept s t 5 ∧
        Finished t n { outcome := .ok, r0 := 1, r1 := (endState s m v .stopped).code, r2 := positionWord (mover s m) })

/-- R164, R166, R168, R169, R171, R172, R174: SCENE_RECALL and LIGHT_SET. A LIGHT_SET of a channel that another order owns supersedes
it; of a channel already dark to 0 it withdraws the demand and arrives; of a channel held dark it arrives at once; of a channel that is
OFF it raises the demand and the light fades up once granted. -/
def Obligations.RecallsRetargetChannels : Prop :=
  ∀ s n, s.MemsWf →
    (Dispatches s n .sceneRecall →
      (s.charge.power = .rest → ∃ t, exec .sceneRecall s = .next t ∧
        Finished t n { outcome := .notPermitted, r0 := 1 } ∧ t.sansOrders = s.sansOrders) ∧
      (s.charge.power = .active →
        let k : Fin 32 := Fin.ofNat 32 (slotWord s n 3).toNat
        let l := Mem.readList 0 s.ram.scenes (0x400 + 16 * k.val) 16
        (cacheOf s k = none → ∀ w, offending l = some w → ∃ t, exec .sceneRecall s = .next t ∧
          Finished t n { outcome := .badParam, r0 := Word.nat w, r1 := 1 } ∧ t.sansOrders = s.sansOrders) ∧
        (cacheOf s k = none → offending l = none → Applicable s l →
          ∃ t, exec .sceneRecall s = .next t ∧ Applied s t l n ∧
            cacheEntry t s.lights.pointer = { scene := k, valid := true, copy := l } ∧
            t.lights.pointer = s.lights.pointer + 1 ∧
            (∀ e, e ≠ s.lights.pointer → cacheEntry t e = cacheEntry s e)) ∧
        (∀ e, cacheOf s k = some e → Applicable s (cacheEntry s e).copy →
          ∃ t, exec .sceneRecall s = .next t ∧ Applied s t (cacheEntry s e).copy n ∧
            t.lights.cache = s.lights.cache ∧ t.lights.pointer = s.lights.pointer))) ∧
    (Dispatches s n .lightSet →
      (s.charge.power = .rest → ∃ t, exec .lightSet s = .next t ∧
        Finished t n { outcome := .notPermitted, r0 := 1 } ∧ t.sansOrders = s.sansOrders) ∧
      (s.charge.power = .active →
        let l := lightSetWords (slotWord s n 3) (slotWord s n 4) (slotWord s n 5)
        Applicable s l →
          ∃ t, exec .lightSet s = .next t ∧ Applied s t l n ∧ t.lights.cache = s.lights.cache) ∧
      (s.charge.power = .active → ∀ c : Fin 6, c.val = (slotWord s n 3).toNat →
        let o := lightOutlet c
        let x := channel s c
        let step := rampStepOf x.output (slotWord s n 4).toNat (slotWord s n 5).toNat
        (∀ m, x.owner = some (.host m) → m ≠ n → heldOf s m = none → (slotWord s n 4).toNat ≠ 0 →
          (slotWord s n 4).toNat ≠ x.output → (outlet s o).state = .on → (outlet s o).demand.isSome = true →
          ∃ t, exec .lightSet s = .next t ∧ Finished t m { outcome := .superseded, r0 := slotWord s n 3, r1 := Word.nat n.val } ∧
            slotState t n = .taken ∧ t.outlets = s.outlets ∧
            ∀ q, channel t q =
              if q = c then { x with target := (slotWord s n 4).toNat, rampStep := step, owner := some (.host n) }
              else if (channel s q).owner = some (.host m) then { channel s q with owner := none } else channel s q) ∧
        (x.owner = none → (∀ q, (channel s q).owner ≠ some (.host n)) → slotWord s n 4 = 0 → x.output = 0 →
          (outlet s o).state = .on → (outlet s o).demand.isSome = true → NoneWaitsBut s o →
          ∃ t, exec .lightSet s = .next t ∧ (outlet t o).state = .off ∧ (outlet t o).demand = none ∧ OtherOutletsKept s t o ∧
            channel t c = { x with target := 0, rampStep := step, shedDark := false } ∧
            (∀ q, q ≠ c → channel t q = channel s q) ∧ Finished t n { outcome := .ok, r0 := 1, r1 := 0, r2 := 0 }) ∧
        (x.owner = none → (∀ q, (channel s q).owner ≠ some (.host n)) → (slotWord s n 4).toNat ≠ 0 →
          (outlet s o).state ≠ .on → (outlet s o).demand.isSome = true →
          ∃ t, exec .lightSet s = .next t ∧ t.outlets = s.outlets ∧
            channel t c = { x with target := (slotWord s n 4).toNat, rampStep := step } ∧
            (∀ q, q ≠ c → channel t q = channel s q) ∧ Finished t n { outcome := .ok, r0 := 1, r1 := 1, r2 := 0 }) ∧
        (x.owner = none → x.output = 0 → (slotWord s n 4).toNat ≠ 0 → (outlet s o).demand = none → WouldGrant s o →
          ∃ t, exec .lightSet s = .next t ∧ (outlet t o).state = .on ∧ (outlet t o).charge = ratedOf s o ∧
            OtherOutletsKept s t o ∧ slotState t n = .taken ∧
            channel t c =
              { x with target := (slotWord s n 4).toNat, rampStep := step, owner := some (.host n), shedDark := false } ∧
            ∀ q, q ≠ c → channel t q = channel s q)))

/-- R181, R182: SETTINGS_FETCH and SETTINGS_STORE. -/
def Obligations.SettingsOrders : Prop :=
  (∀ s n, s.MemsWf → Dispatches s n .settingsFetch →
    ∃ t, exec .settingsFetch s = .next t ∧
      (∀ o, o ≤ 0x200 → Mem.read 0 t.ram.window (0x800 + o) = Image.word (Image.fetchForm (cfg s)) o) ∧
      (∀ a, 0xA00 < a → Mem.read 0 t.ram.window a = Mem.read 0 s.ram.window a) ∧
      ({ t with ram := { t.ram with window := s.ram.window } } : State).sansOrders = s.sansOrders ∧
      Finished t n { outcome := .ok, r0 := Word.flag s.store.defaults, r1 := Word.nat (Image.termCount (cfg s)),
                     r2 := Image.word (Image.fetchForm (cfg s)) 0x200 }) ∧
  ∀ s n, s.MemsWf → Dispatches s n .settingsStore →
    (∀ m, s.store.slot = some m → ∃ t, exec .settingsStore s = .next t ∧
      Finished t n { outcome := .busy, r0 := Word.nat m.val } ∧ t.sansOrders = s.sansOrders) ∧
    (s.store.slot = none → s.pins.service = false → ∃ t, exec .settingsStore s = .next t ∧
      Finished t n { outcome := .locked, r0 := 0 } ∧ t.sansOrders = s.sansOrders) ∧
    (s.store.slot = none → s.pins.service = true → ∃ t, exec .settingsStore s = .next t ∧
      t.store.phase = .validate ∧ t.store.slot = some n ∧
      (∀ o, o ≤ 0x200 → Image.word t.store.buffer o = Mem.read 0 s.ram.window (0x800 + o)) ∧
      t.store.flash = s.store.flash ∧ t.store.active = s.store.active ∧ slotState t n = .taken ∧
      (n, Block.store) ∈ t.disp.owners)

/-! ### Settings store -/

/-- R183: the end of VALIDATE. -/
def Obligations.ValidateDecidesStore : Prop :=
  ∀ s n, s.MemsWf → blocksRun s = true → s.store.phase = .validate → s.store.slot = some n → heldOf s n = none →
    (∀ o r, Image.validate s.store.buffer = some (o, r) → ∃ t, exec .validateEnd s = .next t ∧
      Finished t n { outcome := .invalidImage, r0 := Word.nat o, r1 := Word.nat r } ∧ t.store.phase = .idle ∧
      t.store.slot = none ∧ t.store.flash = s.store.flash) ∧
    (Image.validate s.store.buffer = none → s.pins.service = false → ∃ t, exec .validateEnd s = .next t ∧
      Finished t n { outcome := .locked, r0 := 1 } ∧ t.store.phase = .idle ∧ t.store.slot = none ∧
      t.store.flash = s.store.flash) ∧
    (Image.validate s.store.buffer = none → s.pins.service = true → ∃ t, exec .validateEnd s = .next t ∧
      t.store.phase = .erase ∧ t.store.slot = some n ∧ flashWord t.store.flash 0 = 0xFFFF ∧
      ({ t with store := s.store } : State).sansDigest = s.sansDigest)

/-- R184: erase and program, their completions, failures and timeouts; the read-back. After an erase the program has come to some
offset: the buffer's words below it, erased words above it, and FORMAT still 0xFFFF; where it has come to is open (log entry 4). A
failed erase or program leaves the flash record as it was, so the sector incomplete (log entry 20). The active settings are unchanged
by every ending. -/
def Obligations.FlashPhasesEnd : Prop :=
  (∀ s n, s.MemsWf → blocksRun s = true → s.store.slot = some n → heldOf s n = none →
    (s.store.phase = .erase →
      (∃ t, exec (.eraseEnd true) s = .next t ∧ t.store.phase = .program ∧ t.store.slot = some n ∧
        flashWord t.store.flash 0 = 0xFFFF ∧
        (∃ k, ∀ o, o ≠ 0 → o ≤ 0x200 → (o < k → flashWord t.store.flash o = Image.word s.store.buffer o) ∧
          (k < o → flashWord t.store.flash o = 0xFFFF)) ∧
        t.store.active = s.store.active ∧ ({ t with store := s.store } : State).sansDigest = s.sansDigest) ∧
      ∀ c, (c = .eraseEnd false ∨ c = .eraseTimeout) → ∃ t, exec c s = .next t ∧
        Finished t n { outcome := .flashFault, r0 := 1 } ∧ t.store.phase = .idle ∧ t.store.slot = none ∧
        t.store.flash = s.store.flash ∧ t.store.active = s.store.active) ∧
    (s.store.phase = .program →
      (∃ t, exec (.programEnd true) s = .next t ∧ t.store.phase = .verify ∧ t.store.slot = some n ∧
        (∀ o, o ≤ 0x200 → flashWord t.store.flash o = Image.word s.store.buffer o) ∧ t.store.active = s.store.active ∧
        ({ t with store := s.store } : State).sansDigest = s.sansDigest) ∧
      ∀ c, (c = .programEnd false ∨ c = .programTimeout) → ∃ t, exec c s = .next t ∧
        Finished t n { outcome := .flashFault, r0 := 2 } ∧ t.store.phase = .idle ∧ t.store.slot = none ∧
        t.store.flash = s.store.flash ∧ t.store.active = s.store.active)) ∧
  ∀ s n l, s.MemsWf → blocksRun s = true → s.store.phase = .verify → s.store.slot = some n → heldOf s n = none →
    (differences s.store.buffer l = [] → ∃ t, exec (.verifyEnd l) s = .next t ∧
      Finished t n { outcome := .ok, r0 := Image.word s.store.buffer 0x200 } ∧ t.store.phase = .idle ∧
      t.store.slot = none ∧ t.store.flash = s.store.flash ∧ t.store.active = s.store.active) ∧
    (∀ c cs, differences s.store.buffer l = c :: cs → ∃ t, exec (.verifyEnd l) s = .next t ∧
      Finished t n { outcome := .flashFault, r0 := 3, r1 := Word.nat c.offset } ∧ t.store.phase = .idle ∧
      t.store.slot = none ∧ t.store.active = s.store.active)

/-! ### Vehicle inputs -/

/-- R50 to R53, R56, R61, R159, R160, R175: a vehicle input taken by its filter; a change of SHORE or ALTERNATOR raises SOURCES, and SHED
where it moves the shed level, in STARTING as well (that the first filtered level, which R62 exempts, is the pin's level at the start
of STARTING is log entry 17, DEDUCED); ENGINE RUN demands the split relay or withdraws it; the
ignition has a step that is not STOWED retracted, at once or at the release of the bridge; an opening door with the ignition off has a
stowed step extended, or drops the extension, and recalls the entry scene. That the extension is dropped too where the STOWED step's
own move waits for its grant and so owns the bridge is the model's choice (log entry 42). -/
def Obligations.VehicleInputIsTaken : Prop :=
  (∀ s i b, s.pins.reset = false → (lineOf s (.vehicle i)).raw = b → (lineOf s (.vehicle i)).level ≠ b →
    ∃ t, exec (.vehicleInput i b) s = .next t ∧ (lineOf t (.vehicle i)).level = b ∧
      (∀ j, j ≠ .vehicle i → lineOf t j = lineOf s j) ∧
      sigVal t (inputSignal i) = (if b then 1 else 0) ∧
      (i = .shorePresent → t.charge.shore = b) ∧ (i = .engineRun → t.charge.alternator = b) ∧
      ((i = .shorePresent ∨ i = .engineRun) → t.charge.shedLevel = shedOf t ∧ t.charge.limit = limitOf t ∧
        Noticed t .energy 6 ∧ (t.charge.shedLevel ≠ s.charge.shedLevel → Noticed t .energy 0)) ∧
      (b = true → (i = .ignition ∨ i = .door) → s.charge.power ≠ .starting → t.charge.power = .active ∧ t.charge.idle = 0) ∧
      (i = .engineRun → s.charge.power ≠ .starting →
        (b = true → ((outlet s 6).state = .off ∨ (outlet s 6).state = .tripped) →
          (outlet t 6).demand = some { charge := ratedOf s 6 }) ∧
        (b = false → (outlet t 6).demand = none ∧ ((outlet t 6).state = .off ∨ (outlet t 6).state = .tripped)))) ∧
  (∀ s, s.pins.reset = false → s.charge.power = .active → s.pins.ignition = { raw := true, level := false } →
    isStowed s .step = false → sigVal s .stepStowed = 0 → BlocksOnly s .ignition 1 →
    ((mover s .step).state ≠ .stalled → BridgeFree s .step .inward →
      ∃ t, exec (.vehicleInput .ignition true) s = .next t ∧ DrivesAuto s t .step .retract .inward ∧ OtherOutletsKept s t 5) ∧
    (∀ h, s.movers.owner = some h → (∀ m v, (mover s m).move = some v → v.dir = .inward) →
      ∃ t, exec (.vehicleInput .ignition true) s = .next t ∧ t.movers.pendingStep = true ∧ t.movers.owner = some h ∧
        t.outlets.table = s.outlets.table)) ∧
  ∀ s, s.pins.reset = false → s.charge.power = .active → s.pins.door = { raw := true, level := false } →
    s.pins.ignition.level = false → Quiet s .door 1 →
    (entryScene s = none → Image.autoStep (cfg s) = true → (mover s .step).state = .stowed → (mover s .step).known = true →
      ((blockCount s .step ≠ 0 ∨ s.movers.owner ≠ none) →
        ∃ t, exec (.vehicleInput .door true) s = .next t ∧ t.movers = s.movers ∧ t.outlets.table = s.outlets.table ∧
          Noticed t .movers 9) ∧
      (blockCount s .step = 0 → BridgeFree s .step .out → sigVal s .stepStowed = 1 → Quiet (setSignal .door 1 s) .stepStowed 0 →
        ∃ t, exec (.vehicleInput .door true) s = .next t ∧ DrivesAuto s t .step .extend .out ∧ OtherOutletsKept s t 5)) ∧
    ((mover s .step).state ≠ .stowed →
      (entryScene s = none → ∃ t, exec (.vehicleInput .door true) s = .next t ∧ t.movers = s.movers ∧ t.lights = s.lights ∧
        t.outlets.table = s.outlets.table) ∧
      ∀ k, entryScene s = some k → cacheOf s k = none →
        let l := Mem.readList 0 s.ram.scenes (0x400 + 16 * k.val) 16
        (∀ w, offending l = some w → ∃ t, exec (.vehicleInput .door true) s = .next t ∧
          t.lights = { s.lights with lastEntry := some .badParam } ∧ t.outlets.table = s.outlets.table ∧ Noticed t .lights 1) ∧
        (offending l = none → Applicable s l → ∃ t, exec (.vehicleInput .door true) s = .next t ∧
          Retargeted s t l (.entry s.lights.nextEntry) ∧ t.outlets.table = s.outlets.table ∧
          cacheEntry t s.lights.pointer = { scene := k, valid := true, copy := l }))

/-! ### Second close -/

/-- R45, R46: the tally moves whole mAh and loses nothing but what the clamps cut off; a mean lies within one of the exact
quotient, whichever way the open rounding goes (log entry 3). -/
def Obligations.BankArithmeticIsExact : Prop :=
  (∀ (x : Tally) (a : Int), x.charge ≤ x.capacity →
    let y := moveCharge x a
    y.capacity = x.capacity ∧ y.charge ≤ y.capacity ∧
      (0 ≤ (x.charge : Int) + Int.tdiv (x.acc + a) 3600 → (x.charge : Int) + Int.tdiv (x.acc + a) 3600 ≤ x.capacity →
        3600 * (y.charge : Int) + y.acc = 3600 * (x.charge : Int) + x.acc + a ∧ -3600 < y.acc ∧ y.acc < 3600) ∧
      ((x.capacity : Int) < (x.charge : Int) + Int.tdiv (x.acc + a) 3600 → y.charge = x.capacity ∧ y.acc = 0) ∧
      ((x.charge : Int) + Int.tdiv (x.acc + a) 3600 < 0 → y.charge = 0 ∧ y.acc = 0)) ∧
  ∀ (sum : Int) (n : Nat), 0 < n →
    n * mean sum n - n < sum ∧ sum < n * mean sum n + n ∧ (sum % n = 0 → n * mean sum n = sum)

/-- R45 to R48, R56, R158, R186: one second close: part time, the averages, the tally with its synchronisation windows, the shed
level and the wind speed of the second. -/
def Obligations.SecondCloseActsOnAverages : Prop :=
  ∀ s l, s.pins.reset = false →
    let v := meanVolts l
    let a := meanAmps l
    let x0 := moveCharge s.charge.tally a
    let x1 : Tally :=
      if meetsFull l s then { x0 with charge := x0.capacity, acc := 0, synced := true, fullCount := 600 }
      else { x0 with fullCount := if fullCondition s v a then min (x0.fullCount + 1) 600 else 0 }
    let x2 : Tally :=
      if meetsEmpty l s then { x1 with charge := 0, acc := 0, synced := true, emptyCount := 60 }
      else { x1 with emptyCount := if emptyCondition s v a then min (x1.emptyCount + 1) 60 else 0 }
    ∃ t, exec (.secondClose l) s = .next t ∧ t.time = s.time + 1 ∧ t.charge.volts = v ∧ t.charge.amps = a ∧
      t.charge.tally = x2 ∧ (t.retained.charge, t.retained.acc, t.retained.synced) = (x2.charge, x2.acc, x2.synced) ∧
      t.charge.shedLevel = shedOf t ∧ t.movers.windPulses = 0 ∧
      t.movers.windSpeed = min (s.movers.windPulses * 10 / Image.windFactor (cfg s)) 250 ∧ t.pins = s.pins ∧
      t.store = s.store ∧ t.ram.scenes = s.ram.scenes ∧ t.ram.window = s.ram.window

/-- R47, R48, R55: the second closes at which a synchronisation count or a floor count reaches its limit; a close that would not
reach it has no effect under these rows, which is the model's choice (log entry 9). -/
def Obligations.SyncsAndFloorAtTheirCounts : Prop :=
  ∀ s l, s.pins.reset = false →
    (meetsFull l s = true → meetsEmpty l s = false → ∃ t, exec (.fullSync l) s = .next t ∧ t.time = s.time + 1 ∧
      t.charge.tally.charge = s.charge.tally.capacity ∧ t.charge.tally.acc = 0 ∧ t.charge.tally.synced = true ∧
      t.charge.tally.fullCount = 600 ∧ Noticed t .energy 4 ∧
      (∀ i, recordOf s .solar = some i → s.link.phase ≠ .idle → t.link.solar = true)) ∧
    (meetsEmpty l s = true → ∃ t, exec (.emptySync l) s = .next t ∧ t.time = s.time + 1 ∧ t.charge.tally.charge = 0 ∧
      t.charge.tally.acc = 0 ∧ t.charge.tally.synced = true ∧ t.charge.tally.emptyCount = 60 ∧ Noticed t .energy 5) ∧
    (meetsFloorEntry l s = true → ∃ t, exec (.voltageFloorEntry l) s = .next t ∧ t.time = s.time + 1 ∧
      t.charge.floor = true ∧ t.charge.floorExit = 0 ∧ 3 ≤ t.charge.shedLevel ∧ t.charge.shedLevel = shedOf t ∧
      Noticed t .energy 1) ∧
    (meetsFloorExit l s = true → ∃ t, exec (.voltageFloorExit l) s = .next t ∧ t.time = s.time + 1 ∧
      t.charge.floor = false ∧ t.charge.floorEntry = 0 ∧ t.charge.shedLevel = shedOf t ∧ Noticed t .energy 1) ∧
    (meetsFull l s = false → ∃ t, exec (.fullSync l) s = .next t ∧ t.sansDigest = s.sansDigest) ∧
    (meetsEmpty l s = false → ∃ t, exec (.emptySync l) s = .next t ∧ t.sansDigest = s.sansDigest) ∧
    (meetsFloorEntry l s = false → ∃ t, exec (.voltageFloorEntry l) s = .next t ∧ t.sansDigest = s.sansDigest) ∧
    (meetsFloorExit l s = false → ∃ t, exec (.voltageFloorExit l) s = .next t ∧ t.sansDigest = s.sansDigest)

/-- R36, R58, R59: the second close at which the idle timer reaches the rest delay, nothing else of that second touching an idle
condition, puts the part into REST with every record at the long interval. R32: the second close at which a reading's age passes its
limit makes it stale, no REST entry meeting it. The model's choices (log entry 9): REST_ENTRY and READING_STALE are that whole second
close, part time and all, and READING_STALE has no effect where the limit would not be passed. -/
def Obligations.RestAndStalenessAtTheirSeconds : Prop :=
  (∀ s l, s.pins.reset = false → meetsRest s = true → meetsFull l s = false → meetsEmpty l s = false →
     meetsFloorEntry l s = false → meetsFloorExit l s = false → windCrossed s = false →
     max s.charge.hostFloor (max (if s.charge.floor then 3 else 0) (if s.charge.shore then 0 else
       nextSocLevel (cfg s) ((moveCharge s.charge.tally (meanAmps l)).charge * 1000 / s.charge.tally.capacity)
         s.charge.socLevel)) = s.charge.shedLevel →
     ∃ t, exec (.restEntry l) s = .next t ∧ t.time = s.time + 1 ∧ t.charge.power = .rest ∧ t.charge.idle = 0 ∧
       Noticed t .energy 2 ∧ ∀ i ∈ roster s, (node t i).scaled = true) ∧
  (∀ s l i, s.pins.reset = false →
     (meetsStale i s = true → (node s i).age < 65535 → s.charge.idle + 1 < Image.restDelay (cfg s) →
       ∃ t, exec (.readingStale i l) s = .next t ∧ t.time = s.time + 1 ∧ (node t i).stale = true ∧
         (node t i).age = (node s i).age + 1 ∧ usable (node t i) = none) ∧
     (meetsStale i s = false → ∃ t, exec (.readingStale i l) s = .next t ∧ t.sansDigest = s.sansDigest))

/-- R142, R143, R151, R158, R159: Hall pulses move the position by one within the travel and set the stall timer to 0, end-stops set or
lose the position, and WIND_HIGH is set and cleared at the second closes that reach its counts; set, it has an awning that is not STOWED
retracted. That WIND_HIGH_SET and WIND_HIGH_CLEAR are whole second closes is the model's choice (log entry 9); the retract is performed
unless the cascade overran the model's bound (log entry 16). -/
def Obligations.MoverInputsAndWind : Prop :=
  ∀ s, s.pins.reset = false →
    (∀ m, ∃ t, exec (.hallPulse m) s = .next t ∧
      (∀ d, (∃ v, (mover s m).move = some v ∧ v.driving = true ∧ v.dir = d) ∨
          ((∀ v, (mover s m).move = some v → v.driving = false) ∧ (mover s m).lastDir = some d) →
        (mover t m).position = match d with
          | .out => min ((mover s m).position + 1) (travelOf s m)
          | .inward => min ((mover s m).position - 1) (travelOf s m)) ∧
      (∀ v, (mover s m).move = some v → v.driving = true → ∀ w, (mover t m).move = some w → w.stall = 0) ∧
      (mover t m).known = (mover s m).known ∧
      ((∀ v, (mover s m).move = some v → v.driving = false) → (mover s m).lastDir = none → t.sansDigest = s.sansDigest)) ∧
    (∀ e b, (lineOf s (.endStop e)).raw = b → (lineOf s (.endStop e)).level ≠ b →
      let m := stopMover e
      ∃ t, exec (.endStop e b) s = .next t ∧ (lineOf t (.endStop e)).level = b ∧
        (b = true → (mover t m).known = true ∧ (mover t m).position = if e = .out1 then travelOf s m else 0) ∧
        (b = false → (mover t m).position = (mover s m).position ∧
          (mover t m).known = ((mover s m).state.moving && (mover s m).known))) ∧
    (∀ l, meetsWindSet s = true → ∃ t, exec (.windHighSet l) s = .next t ∧ t.time = s.time + 1 ∧
      t.movers.windHigh = true ∧ t.movers.windClear = 0 ∧ t.movers.windPulses = 0 ∧ sigVal t .windHigh = 1 ∧
      (s.charge.power ≠ .starting → isStowed s .awning = false → s.movers.owner = none → s.movers.awning.move = none →
        s.movers.step.move = none → (outlet s 5).state = .off → t.overrun = false →
        ∃ v, (mover t .awning).move = some v ∧ v.tag = .retract ∧ v.dir = .inward ∧ v.target = .stop ∧
          t.movers.owner = some .awning)) ∧
    (∀ l, meetsWindClear s = true → ∃ t, exec (.windHighClear l) s = .next t ∧ t.time = s.time + 1 ∧
      t.movers.windHigh = false ∧ t.movers.windSet = 0 ∧ t.movers.windPulses = 0 ∧ sigVal t .windHigh = 0)

/-! ### Outlets -/

/-- R65, R80 to R82: one current sample of an outlet in ON is recorded, or trips the outlet; a sample of the BRIDGE adds its 10 ms to the
stall timer of the move it drives, which is the model's reading of R80 and R151 (log entry 8); the valves' pull-in ends. -/
def Obligations.SamplesAndTrips : Prop :=
  ∀ s o mA,
    let i := min mA (Image.fullScale (cfg s) o.val)
    let spent := if 3 * ratedOf s o < 2 * i then min ((outlet s o).overMs + 10) 200 else 0
    ((outlet s o).state = .on → i ≤ 3 * ratedOf s o → spent < 200 → ∃ t, exec (.currentSample o mA) s = .next t ∧
      t.sansDigest = (setOutlet o { outlet s o with
        sum := (outlet s o).sum + i, samples := (outlet s o).samples + 1, overMs := spent } (stallTick o s)).sansDigest ∧
      (o ≠ 5 → t.movers = s.movers) ∧
      ∀ m v, o = 5 → (mover s m).move = some v →
        (mover t m).move = some (if v.driving then { v with stall := min (v.stall + 10) 400 } else v)) ∧
    ((outlet s o).state = .on → (3 * ratedOf s o < i ∨ 200 ≤ spent) → ∃ t, exec (.currentSample o mA) s = .next t ∧
      (outlet t o).state = .tripped ∧ (outlet t o).charge = 0 ∧ drive t o = 0 ∧ Noticed t .outlets 14) ∧
    ((outlet s o).state = .on → 3 * ratedOf s o < i → ∃ t, exec (.immediateTrip o mA) s = .next t ∧
      (outlet t o).state = .tripped ∧ (outlet t o).charge = 0 ∧ drive t o = 0 ∧ Noticed t .outlets 14) ∧
    ((outlet s o).state = .on → 200 ≤ spent → ∃ t, exec (.sustainedTrip o mA) s = .next t ∧
      (outlet t o).state = .tripped ∧ (outlet t o).charge = 0 ∧ drive t o = 0 ∧ Noticed t .outlets 14) ∧
    ((outlet s o).state ≠ .on → ∃ t, exec (.currentSample o mA) s = .next t ∧ t.sansDigest = s.sansDigest) ∧
    ((o = 1 ∨ o = 7) → (outlet s o).state = .on → ∃ t, exec (.valvePullInEnd o) s = .next t ∧
      t = setOutlet o { outlet s o with pullIn := false } s ∧ drive t o = 400)

/-! ### Node link -/

/-- R28, R29, R36, R37, R40: the requests, the choices of an idle link (the bound pair's halves, the heater buffer, FLOAT, a poll), the
end of a request, and what spoils a reply. That dueness is reckoned in milliseconds, part time × 1000 plus the row's operand, is the model's
choice (log entry 31). A tie between two records and a poll chosen at the end of a turnaround are not stated here. -/
def Obligations.LinkChoosesAndListens : Prop :=
  (∀ w, (((List.range 16).filter w.getLsbD).length + (if oddParity w then 1 else 0)) % 2 = 1) ∧
  (∀ a l,
    let sent : List Nat → List (Word × Bool) := List.map fun x => (Word.nat x, oddParity (Word.nat x))
    requestWords a .poll = sent [a] ∧
    requestWords a (.heater (.start l)) = sent [a + 16 + 32 + 256, l] ∧
    requestWords a (.heater (.setLevel l)) = sent [a + 16 + 32 + 512, l] ∧
    requestWords a (.heater (.pairLevel l)) = sent [a + 16 + 32 + 512, l] ∧
    requestWords a (.heater .stop) = sent [a + 16 + 768] ∧
    requestWords a (.heater .clearFault) = sent [a + 16 + 1024] ∧
    requestWords a .float = sent [a + 16 + 256]) ∧
  ∀ s, blocksRun s = true →
    (∀ sub i l, s.link.phase = .turnaround → s.link.remainderDue = true → s.link.remainder = some l →
      recordOf s .heater = some i →
      ∃ t, exec (.turnaroundEnd sub) s = .next t ∧
        t.sansDigest = ({ s with link := { s.link with
          phase := .sending, txn := some { record := i, cmd := .heater (.start l) }, remainder := none, remainderDue := false
          request := requestWords (Image.address (cfg s) i.val) (.heater (.start l)) } } : State).sansDigest) ∧
    (∀ sub i l, s.link.phase = .turnaround → s.link.remainderDue = false → s.link.heater = some (.pair l) →
      recordOf s .heater = some i →
      ∃ t, exec (.turnaroundEnd sub) s = .next t ∧
        t.sansDigest = ({ s with link := { s.link with
          phase := .sending, txn := some { record := i, cmd := .heater (.pairLevel l) }, heater := none, remainder := some l
          remainderDue := false
          request := requestWords (Image.address (cfg s) i.val) (.heater (.setLevel l)) } } : State).sansDigest) ∧
    (∀ sub i, s.link.phase = .turnaround → s.link.remainderDue = false → s.link.heater = none → s.link.solar = true →
      recordOf s .solar = some i →
      ∃ t, exec (.turnaroundEnd sub) s = .next t ∧
        t.sansDigest = ({ s with link := { s.link with
          phase := .sending, txn := some { record := i, cmd := .float }, solar := false
          request := requestWords (Image.address (cfg s) i.val) .float } } : State).sansDigest) ∧
    (∀ sub, s.link.phase = .turnaround → s.link.remainderDue = false → s.link.heater = none → s.link.solar = false →
      (∀ i ∈ roster s, ∀ d, (node s i).due = some d → s.time * 1000 + sub < d) →
      ∃ t, exec (.turnaroundEnd sub) s = .next t ∧
        t.sansDigest = ({ s with link := { s.link with phase := .idle, txn := none } } : State).sansDigest) ∧
    (∀ sub i c, s.link.phase = .turnaround → s.link.remainderDue = false → recordOf s .heater = some i →
      s.link.heater = some (.single c) →
      ∃ t, exec (.turnaroundEnd sub) s = .next t ∧
        t.sansDigest = ({ s with link := { s.link with
          phase := .sending, txn := some { record := i, cmd := .heater c }, heater := none
          request := requestWords (Image.address (cfg s) i.val) (.heater c) } } : State).sansDigest) ∧
    (∀ sub i, s.link.phase = .idle → s.link.remainderDue = false → s.link.heater = none → s.link.solar = false →
      i ∈ roster s → (∃ d, (node s i).due = some d ∧ d ≤ s.time * 1000 + sub) →
      ∃ t j e, exec (.pollDue i sub) s = .next t ∧ j ∈ roster s ∧ (node s j).due = some e ∧ e ≤ s.time * 1000 + sub ∧
        (∀ k ∈ roster s, ∀ d, (node s k).due = some d → e ≤ d) ∧
        t.sansDigest = ({ s with link := { s.link with
          phase := .sending, txn := some { record := j, cmd := .poll }
          request := requestWords (Image.address (cfg s) j.val) .poll } } : State).sansDigest) ∧
    (s.link.phase = .sending → ∃ t, exec .requestSent s = .next t ∧
      t.sansDigest = ({ s with link := { s.link with phase := .listening, request := [] } } : State).sansDigest) ∧
    (s.link.phase = .listening → ∃ t, exec .replyGapExpiry s = .next t ∧
      t.sansDigest = ({ s with link := { s.link with phase := .badReply .format } } : State).sansDigest) ∧
    (∀ x r index word parity stop k, s.link.phase = .listening → s.link.txn = some x → roleOf s x.record = some r →
      wordFault r index word parity stop = some k →
      ∃ t, exec (.replyWordFault index word parity stop) s = .next t ∧
        t.sansDigest = ({ s with link := { s.link with phase := .badReply k } } : State).sansDigest) ∧
    (∀ x r index word, s.link.phase = .listening → s.link.txn = some x → roleOf s x.record = some r → index ≠ 0 →
      ∃ t, exec (.replyWordFault index word true true) s = .next t ∧ t.sansDigest = s.sansDigest)

/-- R42: the quiet wait ends. That a FLOAT posted in STARTING is not sent there is the model's choice (log entry 50). From ACTIVE on, every record is due at that moment; with no command posted the link is then idle: that the
polls go out at their own rows, POLL_DUE, and that the moment is in milliseconds are the model's choices (log entry 31). -/
def Obligations.QuietEndMakesRecordsDue : Prop :=
  ∀ s sub, s.pins.reset = false → s.link.phase = .startQuiet →
    (s.charge.power = .starting → ∃ t, exec (.linkStartQuiet sub) s = .next t ∧
      t.sansDigest = ({ s with link := { s.link with phase := .idle } } : State).sansDigest) ∧
    (s.charge.power ≠ .starting → ∃ t, exec (.linkStartQuiet sub) s = .next t ∧
      (∀ i ∈ roster s, (node t i).due = some (s.time * 1000 + sub)) ∧
      (s.link.heater = none → s.link.solar = false → t.link.phase = .idle))

/-- R31, R36, R39, R41, R47, R132: a miss counts up to 3, at which the node is MISSING, and the record is due again its interval after the end. A
command ends MISSED: FLOAT so records it, the first half of a bound pair discards the second and fails the start once. That due times are
reckoned in milliseconds is the model's choice (log entry 31). -/
def Obligations.MissCountsTowardsMissing : Prop :=
  ∀ s sub x k c, blocksRun s = true → s.link.txn = some x →
    ((c = .ackWindowExpiry sub ∧ s.link.phase = .listening ∧ k = .noReply) ∨
      (c = .replyQuietEnd sub ∧ s.link.phase = .badReply k)) →
    ∃ t, exec c s = .next t ∧ t.link.phase = .turnaround ∧ t.link.txn = none ∧
      (node t x.record).misses = min ((node s x.record).misses + 1) 3 ∧ (node t x.record).lastMiss = k ∧
      (node t x.record).state = (if 2 ≤ (node s x.record).misses then .missing else (node s x.record).state) ∧
      (node t x.record).lastEnd = s.time * 1000 + sub ∧
      (node t x.record).due = some (s.time * 1000 + sub + 1000 * interval t x.record) ∧
      (∀ i, i ≠ x.record → node t i = node s i) ∧
      (x.cmd = .float → t.charge.lastFloat = some .missed) ∧
      ∀ l, x.cmd = .heater (.pairLevel l) → t.link.remainder = none ∧ t.link.remainderDue = false ∧
        ((seq s).state = .igniting → (node s x.record).misses < 2 →
          (seq t).state = .stopping ∧ (seq t).failed = min ((seq s).failed + 1) 2)

/-- R30, R33 to R36, R39 to R41, R47, R136: a good reply makes the node PRESENT with no misses and a fresh reading, faulty where a word is out of range or
the node says so. A command's result follows: FLOAT records it, CLEAR_FAULT is no longer pending, and the second half of a bound pair
becomes due if the first was accepted and is discarded otherwise. That due times are reckoned in milliseconds is the model's choice (log
entry 31). -/
def Obligations.GoodReplyRefreshesRecord : Prop :=
  ∀ s status data sub x r, blocksRun s = true → s.link.phase = .listening → s.link.txn = some x →
    roleOf s x.record = some r → goodForm r status data = true →
    ∃ t, exec (.goodReply status data sub) s = .next t ∧ t.link.phase = .turnaround ∧ t.link.txn = none ∧
      (node t x.record).state = .present ∧ (node t x.record).misses = 0 ∧ (node t x.record).age = 0 ∧
      (node t x.record).stale = false ∧ (node t x.record).reading = (if inRange r data then some data else none) ∧
      (node t x.record).faulty = (!inRange r data || status.getLsbD 4) ∧
      (node t x.record).due = some (s.time * 1000 + sub + 1000 * interval t x.record) ∧
      (∀ i, i ≠ x.record → node t i = node s i) ∧
      let result : CmdResult := if inRange r data = true ∧ status.getLsbD 4 = false then .accepted else .refused
      (x.cmd = .float → t.charge.lastFloat = some result) ∧
      (x.cmd = .heater .clearFault → (seq t).clearPending = false) ∧
      ∀ l, x.cmd = .heater (.pairLevel l) →
        (result = .accepted → t.link.remainderDue = true ∧ t.link.remainder = s.link.remainder) ∧
        (result = .refused → t.link.remainderDue = false ∧ t.link.remainder = none)

/-! ### Water -/

/-- R104, R105: PRESSURE LOW taken by its filter, and the pump's run limit. -/
def Obligations.PumpFollowsPressureAndLimit : Prop :=
  ∀ s,
    (∀ b, s.pins.reset = false → s.pins.pressureLow.raw = b → s.pins.pressureLow.level ≠ b →
      let u : State := { s with pins := { s.pins with pressureLow := { raw := b, level := b } } }
      (s.charge.power = .starting ∨ s.water.pump.auto = false ∨ s.water.pump.state = .dry →
        ∃ t, exec (.pressureLow b) s = .next t ∧ t.sansDigest = u.sansDigest) ∧
      (s.charge.power ≠ .starting → s.water.pump.auto = true → s.water.pump.state ≠ .dry → b = true →
        (pumpLow s = false → WouldGrant s 0 → ∃ t, exec (.pressureLow b) s = .next t ∧ t.pins = u.pins ∧
          t.water.pump.state = .running ∧ (outlet t 0).state = .on ∧ (outlet t 0).charge = ratedOf s 0 ∧
          OtherOutletsKept s t 0) ∧
        (pumpLow s = true → (outlet s 0).state = .off → ∃ t, exec (.pressureLow b) s = .next t ∧ t.pins = u.pins ∧
          t.water.pump.state = .dry ∧ t.water.pump.cause = .lowLevel ∧ (outlet t 0).state = .off ∧ OtherOutletsKept s t 0 ∧
          Noticed t .water 0)) ∧
      (s.charge.power ≠ .starting → s.water.pump.auto = true → s.water.pump.state ≠ .dry → b = false →
        ((outlet s 0).state = .on ∨ (outlet s 0).state = .waiting) → NoneWaitsBut s 0 →
        ∃ t, exec (.pressureLow b) s = .next t ∧ t.pins = u.pins ∧ t.water.pump.state = .idle ∧
          (outlet t 0).state = .off ∧ (outlet t 0).demand = none ∧ OtherOutletsKept s t 0)) ∧
    (blocksRun s = true → s.water.pump.state = .running → 45 ≤ s.water.pump.timer → (outlet s 0).state = .on →
      NoneWaitsBut s 0 →
      ∃ t, exec .pumpRunLimit s = .next t ∧ t.water.pump.state = .dry ∧ t.water.pump.cause = .runLimit ∧
        t.water.pump.entry = s.water.fresh ∧ (outlet t 0).state = .off ∧ (outlet t 0).demand = none ∧
        OtherOutletsKept s t 0 ∧ Noticed t .water 0)

/-- R110, R111: pulses of the fill meter, the end of a fill at its target, and its two timeouts. -/
def Obligations.FillIsMeteredAndTimed : Prop :=
  ∀ s, s.MemsWf → blocksRun s = true →
    (s.water.fill = none → ∃ t, exec .fillFlowPulse s = .next t ∧ t.sansDigest = s.sansDigest) ∧
    ∀ f, s.water.fill = some f →
      ((f.pulses + 1) * 10 / Image.fillPulses (cfg s) < f.target → ∃ t, exec .fillFlowPulse s = .next t ∧
        t.sansDigest = ({ s with water := { s.water with fill := some { f with
          pulses := f.pulses + 1, flow := if f.valve = .on then 0 else f.flow } } } : State).sansDigest) ∧
      (f.target ≤ (f.pulses + 1) * 10 / Image.fillPulses (cfg s) → (outlet s 7).state = .on → NoneWaitsBut s 7 →
        ∃ t, exec .fillFlowPulse s = .next t ∧ t.water.fill = none ∧ (outlet t 7).state = .off ∧
          (outlet t 7).demand = none ∧ OtherOutletsKept s t 7 ∧
          Finished t f.slot { outcome := .ok, r0 := Word.nat ((f.pulses + 1) * 10 / Image.fillPulses (cfg s)),
                              r1 := Word.natHi ((f.pulses + 1) * 10 / Image.fillPulses (cfg s)), r2 := 0 }) ∧
      (f.valve = .waiting → 30 ≤ f.wait → (outlet s 7).state = .waiting → heldOf s f.slot = none →
        ∃ t, exec .fillWaitTimeout s = .next t ∧ t.water.fill = none ∧ (outlet t 7).state = .off ∧
          (outlet t 7).demand = none ∧ OtherOutletsKept s t 7 ∧
          Finished t f.slot { outcome := .noBudget, r0 := Word.nat (metered s f), r1 := Word.natHi (metered s f) }) ∧
      (f.valve = .on → 60 ≤ f.flow → (outlet s 7).state = .on → NoneWaitsBut s 7 → heldOf s f.slot = none →
        ∃ t, exec .fillFlowTimeout s = .next t ∧ t.water.fill = none ∧ (outlet t 7).state = .off ∧
          (outlet t 7).demand = none ∧ OtherOutletsKept s t 7 ∧
          Finished t f.slot { outcome := .timeout, r0 := Word.nat (metered s f), r1 := Word.natHi (metered s f) })

/-- R113, R114, R116 to R118: the grace of the frost temperature, the pad and heat timeouts, and the judgement of the stage at each usable
FROST_PROBE reading, whether or not it changes the frost temperature (that an unusable one is no such reading is log entry 47, DEDUCED).
The drain latch and the held flag of a dump stand unless the cascade overran the model's bound (log entry 16). -/
def Obligations.FrostGuardTimesOut : Prop :=
  (∀ s status data sub x, blocksRun s = true → s.link.phase = .listening → s.link.txn = some x →
    x.record ∈ roster s → roleOf s x.record = some .frostProbe → goodForm .frostProbe status data = true → inRange .frostProbe data = true →
    status.getLsbD 4 = false →
    ∃ t k, exec (.goodReply status data sub) s = .next t ∧ frostOf t = some k ∧ t.water.frost.temp = some k ∧
      t.water.frost.stage = nextStage (cfg s) k s.water.frost.stage ∧
      (s.water.frost.stage = .heat → Image.dumpThreshold (cfg s) < k → Image.heatThreshold (cfg s) + 10 ≤ k →
        t.water.frost.stage = if Image.padThreshold (cfg s) + 10 ≤ k then .watch else .pad)) ∧
  ∀ s, blocksRun s = true →
    (60 ≤ s.water.frost.grace → s.water.frost.temp = none → s.water.frost.blind = false →
      ∃ t, exec .frostBlindGrace s = .next t ∧
        t.water = { s.water with frost := { s.water.frost with blind := true } } ∧
        (s.water.frost.stage = .watch → Noticed t .water 3)) ∧
    (s.water.frost.stage = .pad → s.water.frost.padOn = false → 120 ≤ s.water.frost.padTimer →
      ∃ t, exec .padTimeout s = .next t ∧ t.water.frost.stage = .heat) ∧
    (s.water.frost.stage = .heat → s.water.frost.delivered = false → 300 ≤ s.water.frost.heatTimer →
      ∃ t, exec .heatTimeout s = .next t ∧ t.water.frost.stage = .dump ∧
        (t.overrun = false → t.water.frost.latch = true ∧ (outlet t 1).held = true))

/-! ### Climate -/

/-- R129 to R132: the start of the heater: the retry hold ends and the supply is demanded, which is granted or waits; the wait for
the grant and the ignition run out. -/
def Obligations.HeaterStartsAndFails : Prop :=
  ∀ s, blocksRun s = true →
    ((seq s).state = .off → (seq s).retry = 0 → startConditions s = true → s.climate.frost = false →
      sigVal s .heaterActive = 0 → s.outlets.heater = .off → (outlet s 2).state = .off → (outlet s 2).inhibit = 0 →
      configuredClass s 2 ≠ 0 → classShed (configuredClass s 2) s.outlets.shedLevel = false →
      (s.outlets.limit < grantedTotal s + Image.startCurrent (cfg s) → ∃ t, exec .retryHoldEnd s = .next t ∧
        (seq t).state = .grantWait ∧ (seq t).phase = 0 ∧ (outlet t 2).state = .waiting ∧ (outlet t 2).charge = 0 ∧
        (outlet t 2).demand = some { charge := Image.startCurrent (cfg s) } ∧ OtherOutletsKept s t 2) ∧
      (grantedTotal s + Image.startCurrent (cfg s) ≤ s.outlets.limit → Quiet s .heaterActive 1 →
        ∃ t, exec .retryHoldEnd s = .next t ∧ (seq t).state = .igniting ∧ (seq t).started = s.climate.level ∧
          (outlet t 2).state = .on ∧ (outlet t 2).charge = Image.startCurrent (cfg s) ∧ (outlet t 2).held = true ∧
          t.retained.heater = true ∧ t.outlets.heater = .igniting ∧ OtherOutletsKept s t 2)) ∧
    ((seq s).state = .grantWait → 300 ≤ (seq s).phase → (outlet s 2).state = .waiting → sigVal s .heaterActive = 0 →
      ∃ t, exec .grantWaitTimeout s = .next t ∧ (seq t).state = .off ∧ (seq t).retry = 60 ∧
        (outlet t 2).state = .off ∧ (outlet t 2).demand = none ∧ OtherOutletsKept s t 2 ∧ Noticed t .climate 0) ∧
    (∀ d, (seq s).state = .igniting → Image.ignitionLimit (cfg s) ≤ (seq s).phase → sigVal s .heaterActive = 1 →
      s.outlets.heater = .igniting → (outlet s 2).state = .on → (outlet s 2).demand = some d →
      d.charge ≠ Image.runCurrent (cfg s) → Image.runCurrent (cfg s) < (outlet s 2).charge → NoneWaitsBut s 2 →
      ∃ t, exec .ignitionLimit s = .next t ∧ (seq t).state = .stopping ∧ (seq t).failed = min ((seq s).failed + 1) 2 ∧
        (seq t).lockout = ((seq s).lockout || decide (1 ≤ (seq s).failed)) ∧ (outlet t 2).state = .on ∧
        (outlet t 2).charge = Image.runCurrent (cfg s) ∧ OtherOutletsKept s t 2 ∧ Noticed t .climate 1)

/-- R134, R135, R138, R139: the end of the heater: the run-on ends, the cooldown ends at its minimum or its maximum, and the supply
held for a lost unit is released. -/
def Obligations.HeaterStopsAndReleases : Prop :=
  ∀ s, blocksRun s = true →
    ((seq s).state = .running → s.climate.demand = false → 120 ≤ (seq s).runOn → sigVal s .heaterActive = 1 →
      s.outlets.heater = .running →
      ∃ t, exec .runOnEnd s = .next t ∧ (seq t).state = .stopping ∧ (seq t).phase = 0 ∧
        t.water.frost.delivered = false ∧ (outlet t 2).state = (outlet s 2).state ∧ OtherOutletsKept s t 2) ∧
    (∀ c, (c = .cooldownMinimum ∧ Image.cooldownMinimum (cfg s) ≤ (seq s).phase ∧ lastCold s = true) ∨
        (c = .cooldownMaximum ∧ 600 ≤ (seq s).phase) →
      (seq s).state = .stopping → (outlet s 2).state = .on → NoneWaitsBut s 2 → Quiet s .heaterActive 0 →
      s.climate.demand = false →
      ∃ t, exec c s = .next t ∧ (outlet t 2).state = .off ∧ (outlet t 2).demand = none ∧ (outlet t 2).held = false ∧
        t.retained.heater = false ∧ (seq t).elevation = false ∧ OtherOutletsKept s t 2 ∧
        ((seq s).lockout = true → (seq t).state = .lockedOut ∧ Noticed t .climate 4) ∧
        ((seq s).lockout = false → (seq t).state = .off ∧
          (seq t).failed = if (seq s).ran then 0 else (seq s).failed)) ∧
    ((seq s).state = .unitLost → 600 ≤ (seq s).phase → (outlet s 2).state = .on → NoneWaitsBut s 2 →
      ∃ t, exec .supplyHoldEnd s = .next t ∧ (seq t).state = .unitLost ∧ (seq t).elevation = false ∧ (outlet t 2).state = .off ∧
        (outlet t 2).demand = none ∧ OtherOutletsKept s t 2)

/-! ### Movers and lights -/

/-- R147, R149, R151, R152: the windows and the time limit of a move end it. -/
def Obligations.MoveWindowsEndMove : Prop :=
  ∀ s m v, s.MemsWf → blocksRun s = true →
    (v.driving = false → 2 ≤ v.grant → MoveInHand s m v (if v.report = .shed then .shed else .noBudget) →
      ∃ t, exec (.grantWindowExpiry m) s = .next t ∧
        MoveEnded s t m v (if v.report = .shed then .shed else .noBudget) ∧ OtherOutletsKept s t 5) ∧
    (v.driving = true → 400 ≤ v.stall → MoveInHand s m v .stalled →
      ∃ t, exec (.stallWindowExpiry m) s = .next t ∧ MoveEnded s t m v .stalled ∧ OtherOutletsKept s t 5 ∧
        Noticed t .movers (4 + moverIndex m)) ∧
    (v.driving = true → Image.moveLimit (cfg s) m ≤ v.timer → MoveInHand s m v .timeout →
      ∃ t, exec (.moveTimeout m) s = .next t ∧ MoveEnded s t m v .timeout ∧ OtherOutletsKept s t 5)

/-- R164, R165, R172: one ramp interval, no channel on its way to darkness: every channel whose outlet is ON moves its step towards its
target, and never past it. A channel that reaches 0 has its demand withdrawn; the last channel of a recall to arrive ends its order, with
the number of its channels held dark. -/
def Obligations.RampTickMovesOutputs : Prop :=
  (∀ s, blocksRun s = true → (∀ c, (channel s c).target = 0 → (channel s c).output = 0) →
    ∃ t, exec .rampTick s = .next t ∧ t.outlets = s.outlets ∧
      ∀ c, (channel t c).target = (channel s c).target ∧ (channel t c).rampStep = (channel s c).rampStep ∧
        (channel t c).output =
          if (outlet s (lightOutlet c)).state = .on then
            (if (channel s c).output < (channel s c).target
              then min ((channel s c).output + (channel s c).rampStep) (channel s c).target
              else max ((channel s c).output - (channel s c).rampStep) (channel s c).target)
          else (channel s c).output) ∧
  ∀ s c, s.MemsWf → blocksRun s = true → RampsAlone s c →
    (∀ n r, (channel s c).owner = some (.host n) → (channel s c).target ≠ 0 → rampMove (channel s c) = (channel s c).target →
      (s.lights.recalls.find? fun r => r.owner == .host n) = some r →
      (∀ q, q ≠ c → (channel s q).owner = some (.host n) → arrived s q = true) → heldOf s n = none →
      ∃ t, exec .rampTick s = .next t ∧ t.outlets = s.outlets ∧ channel t c = { channel s c with
          output := (channel s c).target, owner := none } ∧
        (∀ q, q ≠ c → channel t q =
          if (channel s q).owner = some (.host n) then { channel s q with owner := none } else channel s q) ∧
        Finished t n { outcome := .ok, r0 := Word.nat r.retargeted
                       r1 := Word.nat ((ownedBy s (.host n)).filter (heldDark s)).length, r2 := Word.flag r.hit }) ∧
    ((channel s c).owner = none → (channel s c).target = 0 → (channel s c).output ≤ (channel s c).rampStep →
      (outlet s (lightOutlet c)).demand.isSome = true → NoneWaitsBut s (lightOutlet c) →
      ∃ t, exec .rampTick s = .next t ∧ (outlet t (lightOutlet c)).state = .off ∧ (outlet t (lightOutlet c)).demand = none ∧
        OtherOutletsKept s t (lightOutlet c) ∧ channel t c = { channel s c with output := 0, shedDark := false } ∧
        ∀ q, q ≠ c → channel t q = channel s q)
end

