-- ==== Sys2Proof/Laws/State.lean ====
section
/-!
SUPPORT. What each named update leaves alone: one lemma for each field of the state it does not write.
-/
namespace Sys2Proof.Machine

variable (s : State)

/-! setSlotWord -/
@[simp] theorem setSlotWord_pending (n : Fin 32) (i : Nat) (v : Word) : (setSlotWord n i v s).pending = s.pending := rfl
@[simp] theorem setSlotWord_port (n : Fin 32) (i : Nat) (v : Word) : (setSlotWord n i v s).port = s.port := rfl
@[simp] theorem setSlotWord_disp (n : Fin 32) (i : Nat) (v : Word) : (setSlotWord n i v s).disp = s.disp := rfl
@[simp] theorem setSlotWord_pins (n : Fin 32) (i : Nat) (v : Word) : (setSlotWord n i v s).pins = s.pins := rfl
@[simp] theorem setSlotWord_time (n : Fin 32) (i : Nat) (v : Word) : (setSlotWord n i v s).time = s.time := rfl
@[simp] theorem setSlotWord_charge (n : Fin 32) (i : Nat) (v : Word) : (setSlotWord n i v s).charge = s.charge := rfl
@[simp] theorem setSlotWord_outlets (n : Fin 32) (i : Nat) (v : Word) : (setSlotWord n i v s).outlets = s.outlets := rfl
@[simp] theorem setSlotWord_interlock (n : Fin 32) (i : Nat) (v : Word) : (setSlotWord n i v s).interlock = s.interlock := rfl
@[simp] theorem setSlotWord_water (n : Fin 32) (i : Nat) (v : Word) : (setSlotWord n i v s).water = s.water := rfl
@[simp] theorem setSlotWord_climate (n : Fin 32) (i : Nat) (v : Word) : (setSlotWord n i v s).climate = s.climate := rfl
@[simp] theorem setSlotWord_movers (n : Fin 32) (i : Nat) (v : Word) : (setSlotWord n i v s).movers = s.movers := rfl
@[simp] theorem setSlotWord_lights (n : Fin 32) (i : Nat) (v : Word) : (setSlotWord n i v s).lights = s.lights := rfl
@[simp] theorem setSlotWord_link (n : Fin 32) (i : Nat) (v : Word) : (setSlotWord n i v s).link = s.link := rfl
@[simp] theorem setSlotWord_store (n : Fin 32) (i : Nat) (v : Word) : (setSlotWord n i v s).store = s.store := rfl
@[simp] theorem setSlotWord_retained (n : Fin 32) (i : Nat) (v : Word) : (setSlotWord n i v s).retained = s.retained := rfl
@[simp] theorem setSlotWord_start (n : Fin 32) (i : Nat) (v : Word) : (setSlotWord n i v s).start = s.start := rfl
@[simp] theorem setSlotWord_overrun (n : Fin 32) (i : Nat) (v : Word) : (setSlotWord n i v s).overrun = s.overrun := rfl
@[simp] theorem setSlotWord_restarts (n : Fin 32) (i : Nat) (v : Word) : (setSlotWord n i v s).restarts = s.restarts := rfl

/-! setSlotState -/
@[simp] theorem setSlotState_pending (n : Fin 32) (x : SlotState) : (setSlotState n x s).pending = s.pending := rfl
@[simp] theorem setSlotState_port (n : Fin 32) (x : SlotState) : (setSlotState n x s).port = s.port := rfl
@[simp] theorem setSlotState_disp (n : Fin 32) (x : SlotState) : (setSlotState n x s).disp = s.disp := rfl
@[simp] theorem setSlotState_pins (n : Fin 32) (x : SlotState) : (setSlotState n x s).pins = s.pins := rfl
@[simp] theorem setSlotState_time (n : Fin 32) (x : SlotState) : (setSlotState n x s).time = s.time := rfl
@[simp] theorem setSlotState_charge (n : Fin 32) (x : SlotState) : (setSlotState n x s).charge = s.charge := rfl
@[simp] theorem setSlotState_outlets (n : Fin 32) (x : SlotState) : (setSlotState n x s).outlets = s.outlets := rfl
@[simp] theorem setSlotState_interlock (n : Fin 32) (x : SlotState) : (setSlotState n x s).interlock = s.interlock := rfl
@[simp] theorem setSlotState_water (n : Fin 32) (x : SlotState) : (setSlotState n x s).water = s.water := rfl
@[simp] theorem setSlotState_climate (n : Fin 32) (x : SlotState) : (setSlotState n x s).climate = s.climate := rfl
@[simp] theorem setSlotState_movers (n : Fin 32) (x : SlotState) : (setSlotState n x s).movers = s.movers := rfl
@[simp] theorem setSlotState_lights (n : Fin 32) (x : SlotState) : (setSlotState n x s).lights = s.lights := rfl
@[simp] theorem setSlotState_link (n : Fin 32) (x : SlotState) : (setSlotState n x s).link = s.link := rfl
@[simp] theorem setSlotState_store (n : Fin 32) (x : SlotState) : (setSlotState n x s).store = s.store := rfl
@[simp] theorem setSlotState_retained (n : Fin 32) (x : SlotState) : (setSlotState n x s).retained = s.retained := rfl
@[simp] theorem setSlotState_start (n : Fin 32) (x : SlotState) : (setSlotState n x s).start = s.start := rfl
@[simp] theorem setSlotState_overrun (n : Fin 32) (x : SlotState) : (setSlotState n x s).overrun = s.overrun := rfl
@[simp] theorem setSlotState_restarts (n : Fin 32) (x : SlotState) : (setSlotState n x s).restarts = s.restarts := rfl

/-! digestUpdate -/
@[simp] theorem digestUpdate_pending (l : List (Nat × Word)) : (digestUpdate l s).pending = s.pending := rfl
@[simp] theorem digestUpdate_port (l : List (Nat × Word)) : (digestUpdate l s).port = s.port := rfl
@[simp] theorem digestUpdate_disp (l : List (Nat × Word)) : (digestUpdate l s).disp = s.disp := rfl
@[simp] theorem digestUpdate_pins (l : List (Nat × Word)) : (digestUpdate l s).pins = s.pins := rfl
@[simp] theorem digestUpdate_time (l : List (Nat × Word)) : (digestUpdate l s).time = s.time := rfl
@[simp] theorem digestUpdate_charge (l : List (Nat × Word)) : (digestUpdate l s).charge = s.charge := rfl
@[simp] theorem digestUpdate_outlets (l : List (Nat × Word)) : (digestUpdate l s).outlets = s.outlets := rfl
@[simp] theorem digestUpdate_interlock (l : List (Nat × Word)) : (digestUpdate l s).interlock = s.interlock := rfl
@[simp] theorem digestUpdate_water (l : List (Nat × Word)) : (digestUpdate l s).water = s.water := rfl
@[simp] theorem digestUpdate_climate (l : List (Nat × Word)) : (digestUpdate l s).climate = s.climate := rfl
@[simp] theorem digestUpdate_movers (l : List (Nat × Word)) : (digestUpdate l s).movers = s.movers := rfl
@[simp] theorem digestUpdate_lights (l : List (Nat × Word)) : (digestUpdate l s).lights = s.lights := rfl
@[simp] theorem digestUpdate_link (l : List (Nat × Word)) : (digestUpdate l s).link = s.link := rfl
@[simp] theorem digestUpdate_store (l : List (Nat × Word)) : (digestUpdate l s).store = s.store := rfl
@[simp] theorem digestUpdate_retained (l : List (Nat × Word)) : (digestUpdate l s).retained = s.retained := rfl
@[simp] theorem digestUpdate_start (l : List (Nat × Word)) : (digestUpdate l s).start = s.start := rfl
@[simp] theorem digestUpdate_overrun (l : List (Nat × Word)) : (digestUpdate l s).overrun = s.overrun := rfl
@[simp] theorem digestUpdate_restarts (l : List (Nat × Word)) : (digestUpdate l s).restarts = s.restarts := rfl

/-! showCells -/
@[simp] theorem showCells_pending (l : List (Nat × Word)) : (showCells l s).pending = s.pending := rfl
@[simp] theorem showCells_port (l : List (Nat × Word)) : (showCells l s).port = s.port := rfl
@[simp] theorem showCells_disp (l : List (Nat × Word)) : (showCells l s).disp = s.disp := rfl
@[simp] theorem showCells_pins (l : List (Nat × Word)) : (showCells l s).pins = s.pins := rfl
@[simp] theorem showCells_time (l : List (Nat × Word)) : (showCells l s).time = s.time := rfl
@[simp] theorem showCells_charge (l : List (Nat × Word)) : (showCells l s).charge = s.charge := rfl
@[simp] theorem showCells_outlets (l : List (Nat × Word)) : (showCells l s).outlets = s.outlets := rfl
@[simp] theorem showCells_interlock (l : List (Nat × Word)) : (showCells l s).interlock = s.interlock := rfl
@[simp] theorem showCells_water (l : List (Nat × Word)) : (showCells l s).water = s.water := rfl
@[simp] theorem showCells_climate (l : List (Nat × Word)) : (showCells l s).climate = s.climate := rfl
@[simp] theorem showCells_movers (l : List (Nat × Word)) : (showCells l s).movers = s.movers := rfl
@[simp] theorem showCells_lights (l : List (Nat × Word)) : (showCells l s).lights = s.lights := rfl
@[simp] theorem showCells_link (l : List (Nat × Word)) : (showCells l s).link = s.link := rfl
@[simp] theorem showCells_store (l : List (Nat × Word)) : (showCells l s).store = s.store := rfl
@[simp] theorem showCells_retained (l : List (Nat × Word)) : (showCells l s).retained = s.retained := rfl
@[simp] theorem showCells_start (l : List (Nat × Word)) : (showCells l s).start = s.start := rfl
@[simp] theorem showCells_overrun (l : List (Nat × Word)) : (showCells l s).overrun = s.overrun := rfl
@[simp] theorem showCells_restarts (l : List (Nat × Word)) : (showCells l s).restarts = s.restarts := rfl

/-! showAction -/
@[simp] theorem showAction_pending (m l : List Part) : (showAction m l s).pending = s.pending := rfl
@[simp] theorem showAction_port (m l : List Part) : (showAction m l s).port = s.port := rfl
@[simp] theorem showAction_disp (m l : List Part) : (showAction m l s).disp = s.disp := rfl
@[simp] theorem showAction_pins (m l : List Part) : (showAction m l s).pins = s.pins := rfl
@[simp] theorem showAction_time (m l : List Part) : (showAction m l s).time = s.time := rfl
@[simp] theorem showAction_charge (m l : List Part) : (showAction m l s).charge = s.charge := rfl
@[simp] theorem showAction_outlets (m l : List Part) : (showAction m l s).outlets = s.outlets := rfl
@[simp] theorem showAction_interlock (m l : List Part) : (showAction m l s).interlock = s.interlock := rfl
@[simp] theorem showAction_water (m l : List Part) : (showAction m l s).water = s.water := rfl
@[simp] theorem showAction_climate (m l : List Part) : (showAction m l s).climate = s.climate := rfl
@[simp] theorem showAction_movers (m l : List Part) : (showAction m l s).movers = s.movers := rfl
@[simp] theorem showAction_lights (m l : List Part) : (showAction m l s).lights = s.lights := rfl
@[simp] theorem showAction_link (m l : List Part) : (showAction m l s).link = s.link := rfl
@[simp] theorem showAction_store (m l : List Part) : (showAction m l s).store = s.store := rfl
@[simp] theorem showAction_retained (m l : List Part) : (showAction m l s).retained = s.retained := rfl
@[simp] theorem showAction_start (m l : List Part) : (showAction m l s).start = s.start := rfl
@[simp] theorem showAction_overrun (m l : List Part) : (showAction m l s).overrun = s.overrun := rfl
@[simp] theorem showAction_restarts (m l : List Part) : (showAction m l s).restarts = s.restarts := rfl

/-! showChange -/
@[simp] theorem showChange_pending (l : List Part) (old : State) : (showChange l old s).pending = s.pending := rfl
@[simp] theorem showChange_port (l : List Part) (old : State) : (showChange l old s).port = s.port := rfl
@[simp] theorem showChange_disp (l : List Part) (old : State) : (showChange l old s).disp = s.disp := rfl
@[simp] theorem showChange_pins (l : List Part) (old : State) : (showChange l old s).pins = s.pins := rfl
@[simp] theorem showChange_time (l : List Part) (old : State) : (showChange l old s).time = s.time := rfl
@[simp] theorem showChange_charge (l : List Part) (old : State) : (showChange l old s).charge = s.charge := rfl
@[simp] theorem showChange_outlets (l : List Part) (old : State) : (showChange l old s).outlets = s.outlets := rfl
@[simp] theorem showChange_interlock (l : List Part) (old : State) : (showChange l old s).interlock = s.interlock := rfl
@[simp] theorem showChange_water (l : List Part) (old : State) : (showChange l old s).water = s.water := rfl
@[simp] theorem showChange_climate (l : List Part) (old : State) : (showChange l old s).climate = s.climate := rfl
@[simp] theorem showChange_movers (l : List Part) (old : State) : (showChange l old s).movers = s.movers := rfl
@[simp] theorem showChange_lights (l : List Part) (old : State) : (showChange l old s).lights = s.lights := rfl
@[simp] theorem showChange_link (l : List Part) (old : State) : (showChange l old s).link = s.link := rfl
@[simp] theorem showChange_store (l : List Part) (old : State) : (showChange l old s).store = s.store := rfl
@[simp] theorem showChange_retained (l : List Part) (old : State) : (showChange l old s).retained = s.retained := rfl
@[simp] theorem showChange_start (l : List Part) (old : State) : (showChange l old s).start = s.start := rfl
@[simp] theorem showChange_overrun (l : List Part) (old : State) : (showChange l old s).overrun = s.overrun := rfl
@[simp] theorem showChange_restarts (l : List Part) (old : State) : (showChange l old s).restarts = s.restarts := rfl

/-! syncPart -/
@[simp] theorem syncPart_pending (p : Part) : (syncPart p s).pending = s.pending := rfl
@[simp] theorem syncPart_port (p : Part) : (syncPart p s).port = s.port := rfl
@[simp] theorem syncPart_disp (p : Part) : (syncPart p s).disp = s.disp := rfl
@[simp] theorem syncPart_pins (p : Part) : (syncPart p s).pins = s.pins := rfl
@[simp] theorem syncPart_time (p : Part) : (syncPart p s).time = s.time := rfl
@[simp] theorem syncPart_charge (p : Part) : (syncPart p s).charge = s.charge := rfl
@[simp] theorem syncPart_outlets (p : Part) : (syncPart p s).outlets = s.outlets := rfl
@[simp] theorem syncPart_interlock (p : Part) : (syncPart p s).interlock = s.interlock := rfl
@[simp] theorem syncPart_water (p : Part) : (syncPart p s).water = s.water := rfl
@[simp] theorem syncPart_climate (p : Part) : (syncPart p s).climate = s.climate := rfl
@[simp] theorem syncPart_movers (p : Part) : (syncPart p s).movers = s.movers := rfl
@[simp] theorem syncPart_lights (p : Part) : (syncPart p s).lights = s.lights := rfl
@[simp] theorem syncPart_link (p : Part) : (syncPart p s).link = s.link := rfl
@[simp] theorem syncPart_store (p : Part) : (syncPart p s).store = s.store := rfl
@[simp] theorem syncPart_retained (p : Part) : (syncPart p s).retained = s.retained := rfl
@[simp] theorem syncPart_start (p : Part) : (syncPart p s).start = s.start := rfl
@[simp] theorem syncPart_overrun (p : Part) : (syncPart p s).overrun = s.overrun := rfl
@[simp] theorem syncPart_restarts (p : Part) : (syncPart p s).restarts = s.restarts := rfl

/-! writeFinish -/
@[simp] theorem writeFinish_pending (n : Fin 32) (f : Finish) (k : Nat) : (writeFinish n f k s).pending = s.pending := rfl
@[simp] theorem writeFinish_port (n : Fin 32) (f : Finish) (k : Nat) : (writeFinish n f k s).port = s.port := rfl
@[simp] theorem writeFinish_disp (n : Fin 32) (f : Finish) (k : Nat) : (writeFinish n f k s).disp = s.disp := rfl
@[simp] theorem writeFinish_pins (n : Fin 32) (f : Finish) (k : Nat) : (writeFinish n f k s).pins = s.pins := rfl
@[simp] theorem writeFinish_time (n : Fin 32) (f : Finish) (k : Nat) : (writeFinish n f k s).time = s.time := rfl
@[simp] theorem writeFinish_charge (n : Fin 32) (f : Finish) (k : Nat) : (writeFinish n f k s).charge = s.charge := rfl
@[simp] theorem writeFinish_outlets (n : Fin 32) (f : Finish) (k : Nat) : (writeFinish n f k s).outlets = s.outlets := rfl
@[simp] theorem writeFinish_interlock (n : Fin 32) (f : Finish) (k : Nat) : (writeFinish n f k s).interlock = s.interlock := rfl
@[simp] theorem writeFinish_water (n : Fin 32) (f : Finish) (k : Nat) : (writeFinish n f k s).water = s.water := rfl
@[simp] theorem writeFinish_climate (n : Fin 32) (f : Finish) (k : Nat) : (writeFinish n f k s).climate = s.climate := rfl
@[simp] theorem writeFinish_movers (n : Fin 32) (f : Finish) (k : Nat) : (writeFinish n f k s).movers = s.movers := rfl
@[simp] theorem writeFinish_lights (n : Fin 32) (f : Finish) (k : Nat) : (writeFinish n f k s).lights = s.lights := rfl
@[simp] theorem writeFinish_link (n : Fin 32) (f : Finish) (k : Nat) : (writeFinish n f k s).link = s.link := rfl
@[simp] theorem writeFinish_store (n : Fin 32) (f : Finish) (k : Nat) : (writeFinish n f k s).store = s.store := rfl
@[simp] theorem writeFinish_retained (n : Fin 32) (f : Finish) (k : Nat) : (writeFinish n f k s).retained = s.retained := rfl
@[simp] theorem writeFinish_start (n : Fin 32) (f : Finish) (k : Nat) : (writeFinish n f k s).start = s.start := rfl
@[simp] theorem writeFinish_overrun (n : Fin 32) (f : Finish) (k : Nat) : (writeFinish n f k s).overrun = s.overrun := rfl
@[simp] theorem writeFinish_restarts (n : Fin 32) (f : Finish) (k : Nat) : (writeFinish n f k s).restarts = s.restarts := rfl

/-! markNotice -/
@[simp] theorem markNotice_pending (g : Group) (b : BitVec 32) : (markNotice g b s).pending = s.pending := rfl
@[simp] theorem markNotice_ram (g : Group) (b : BitVec 32) : (markNotice g b s).ram = s.ram := rfl
@[simp] theorem markNotice_disp (g : Group) (b : BitVec 32) : (markNotice g b s).disp = s.disp := rfl
@[simp] theorem markNotice_pins (g : Group) (b : BitVec 32) : (markNotice g b s).pins = s.pins := rfl
@[simp] theorem markNotice_time (g : Group) (b : BitVec 32) : (markNotice g b s).time = s.time := rfl
@[simp] theorem markNotice_charge (g : Group) (b : BitVec 32) : (markNotice g b s).charge = s.charge := rfl
@[simp] theorem markNotice_outlets (g : Group) (b : BitVec 32) : (markNotice g b s).outlets = s.outlets := rfl
@[simp] theorem markNotice_interlock (g : Group) (b : BitVec 32) : (markNotice g b s).interlock = s.interlock := rfl
@[simp] theorem markNotice_water (g : Group) (b : BitVec 32) : (markNotice g b s).water = s.water := rfl
@[simp] theorem markNotice_climate (g : Group) (b : BitVec 32) : (markNotice g b s).climate = s.climate := rfl
@[simp] theorem markNotice_movers (g : Group) (b : BitVec 32) : (markNotice g b s).movers = s.movers := rfl
@[simp] theorem markNotice_lights (g : Group) (b : BitVec 32) : (markNotice g b s).lights = s.lights := rfl
@[simp] theorem markNotice_link (g : Group) (b : BitVec 32) : (markNotice g b s).link = s.link := rfl
@[simp] theorem markNotice_store (g : Group) (b : BitVec 32) : (markNotice g b s).store = s.store := rfl
@[simp] theorem markNotice_retained (g : Group) (b : BitVec 32) : (markNotice g b s).retained = s.retained := rfl
@[simp] theorem markNotice_start (g : Group) (b : BitVec 32) : (markNotice g b s).start = s.start := rfl
@[simp] theorem markNotice_overrun (g : Group) (b : BitVec 32) : (markNotice g b s).overrun = s.overrun := rfl
@[simp] theorem markNotice_restarts (g : Group) (b : BitVec 32) : (markNotice g b s).restarts = s.restarts := rfl

/-! raise -/
@[simp] theorem raise_pending (g : Group) (b : BitVec 32) : (raise g b s).pending = s.pending := rfl
@[simp] theorem raise_disp (g : Group) (b : BitVec 32) : (raise g b s).disp = s.disp := rfl
@[simp] theorem raise_pins (g : Group) (b : BitVec 32) : (raise g b s).pins = s.pins := rfl
@[simp] theorem raise_time (g : Group) (b : BitVec 32) : (raise g b s).time = s.time := rfl
@[simp] theorem raise_charge (g : Group) (b : BitVec 32) : (raise g b s).charge = s.charge := rfl
@[simp] theorem raise_outlets (g : Group) (b : BitVec 32) : (raise g b s).outlets = s.outlets := rfl
@[simp] theorem raise_interlock (g : Group) (b : BitVec 32) : (raise g b s).interlock = s.interlock := rfl
@[simp] theorem raise_water (g : Group) (b : BitVec 32) : (raise g b s).water = s.water := rfl
@[simp] theorem raise_climate (g : Group) (b : BitVec 32) : (raise g b s).climate = s.climate := rfl
@[simp] theorem raise_movers (g : Group) (b : BitVec 32) : (raise g b s).movers = s.movers := rfl
@[simp] theorem raise_lights (g : Group) (b : BitVec 32) : (raise g b s).lights = s.lights := rfl
@[simp] theorem raise_link (g : Group) (b : BitVec 32) : (raise g b s).link = s.link := rfl
@[simp] theorem raise_store (g : Group) (b : BitVec 32) : (raise g b s).store = s.store := rfl
@[simp] theorem raise_retained (g : Group) (b : BitVec 32) : (raise g b s).retained = s.retained := rfl
@[simp] theorem raise_start (g : Group) (b : BitVec 32) : (raise g b s).start = s.start := rfl
@[simp] theorem raise_overrun (g : Group) (b : BitVec 32) : (raise g b s).overrun = s.overrun := rfl
@[simp] theorem raise_restarts (g : Group) (b : BitVec 32) : (raise g b s).restarts = s.restarts := rfl

/-! setBus -/
@[simp] theorem setBus_pending (w : Word) : (setBus w s).pending = s.pending := rfl
@[simp] theorem setBus_ram (w : Word) : (setBus w s).ram = s.ram := rfl
@[simp] theorem setBus_disp (w : Word) : (setBus w s).disp = s.disp := rfl
@[simp] theorem setBus_pins (w : Word) : (setBus w s).pins = s.pins := rfl
@[simp] theorem setBus_time (w : Word) : (setBus w s).time = s.time := rfl
@[simp] theorem setBus_charge (w : Word) : (setBus w s).charge = s.charge := rfl
@[simp] theorem setBus_outlets (w : Word) : (setBus w s).outlets = s.outlets := rfl
@[simp] theorem setBus_interlock (w : Word) : (setBus w s).interlock = s.interlock := rfl
@[simp] theorem setBus_water (w : Word) : (setBus w s).water = s.water := rfl
@[simp] theorem setBus_climate (w : Word) : (setBus w s).climate = s.climate := rfl
@[simp] theorem setBus_movers (w : Word) : (setBus w s).movers = s.movers := rfl
@[simp] theorem setBus_lights (w : Word) : (setBus w s).lights = s.lights := rfl
@[simp] theorem setBus_link (w : Word) : (setBus w s).link = s.link := rfl
@[simp] theorem setBus_store (w : Word) : (setBus w s).store = s.store := rfl
@[simp] theorem setBus_retained (w : Word) : (setBus w s).retained = s.retained := rfl
@[simp] theorem setBus_start (w : Word) : (setBus w s).start = s.start := rfl
@[simp] theorem setBus_overrun (w : Word) : (setBus w s).overrun = s.overrun := rfl
@[simp] theorem setBus_restarts (w : Word) : (setBus w s).restarts = s.restarts := rfl

/-! dropOwner -/
@[simp] theorem dropOwner_pending (n : Fin 32) : (dropOwner n s).pending = s.pending := rfl
@[simp] theorem dropOwner_ram (n : Fin 32) : (dropOwner n s).ram = s.ram := rfl
@[simp] theorem dropOwner_port (n : Fin 32) : (dropOwner n s).port = s.port := rfl
@[simp] theorem dropOwner_pins (n : Fin 32) : (dropOwner n s).pins = s.pins := rfl
@[simp] theorem dropOwner_time (n : Fin 32) : (dropOwner n s).time = s.time := rfl
@[simp] theorem dropOwner_charge (n : Fin 32) : (dropOwner n s).charge = s.charge := rfl
@[simp] theorem dropOwner_outlets (n : Fin 32) : (dropOwner n s).outlets = s.outlets := rfl
@[simp] theorem dropOwner_interlock (n : Fin 32) : (dropOwner n s).interlock = s.interlock := rfl
@[simp] theorem dropOwner_water (n : Fin 32) : (dropOwner n s).water = s.water := rfl
@[simp] theorem dropOwner_climate (n : Fin 32) : (dropOwner n s).climate = s.climate := rfl
@[simp] theorem dropOwner_movers (n : Fin 32) : (dropOwner n s).movers = s.movers := rfl
@[simp] theorem dropOwner_lights (n : Fin 32) : (dropOwner n s).lights = s.lights := rfl
@[simp] theorem dropOwner_link (n : Fin 32) : (dropOwner n s).link = s.link := rfl
@[simp] theorem dropOwner_store (n : Fin 32) : (dropOwner n s).store = s.store := rfl
@[simp] theorem dropOwner_retained (n : Fin 32) : (dropOwner n s).retained = s.retained := rfl
@[simp] theorem dropOwner_start (n : Fin 32) : (dropOwner n s).start = s.start := rfl
@[simp] theorem dropOwner_overrun (n : Fin 32) : (dropOwner n s).overrun = s.overrun := rfl
@[simp] theorem dropOwner_restarts (n : Fin 32) : (dropOwner n s).restarts = s.restarts := rfl

/-! dropHeld -/
@[simp] theorem dropHeld_pending (n : Fin 32) : (dropHeld n s).pending = s.pending := rfl
@[simp] theorem dropHeld_ram (n : Fin 32) : (dropHeld n s).ram = s.ram := rfl
@[simp] theorem dropHeld_port (n : Fin 32) : (dropHeld n s).port = s.port := rfl
@[simp] theorem dropHeld_pins (n : Fin 32) : (dropHeld n s).pins = s.pins := rfl
@[simp] theorem dropHeld_time (n : Fin 32) : (dropHeld n s).time = s.time := rfl
@[simp] theorem dropHeld_charge (n : Fin 32) : (dropHeld n s).charge = s.charge := rfl
@[simp] theorem dropHeld_outlets (n : Fin 32) : (dropHeld n s).outlets = s.outlets := rfl
@[simp] theorem dropHeld_interlock (n : Fin 32) : (dropHeld n s).interlock = s.interlock := rfl
@[simp] theorem dropHeld_water (n : Fin 32) : (dropHeld n s).water = s.water := rfl
@[simp] theorem dropHeld_climate (n : Fin 32) : (dropHeld n s).climate = s.climate := rfl
@[simp] theorem dropHeld_movers (n : Fin 32) : (dropHeld n s).movers = s.movers := rfl
@[simp] theorem dropHeld_lights (n : Fin 32) : (dropHeld n s).lights = s.lights := rfl
@[simp] theorem dropHeld_link (n : Fin 32) : (dropHeld n s).link = s.link := rfl
@[simp] theorem dropHeld_store (n : Fin 32) : (dropHeld n s).store = s.store := rfl
@[simp] theorem dropHeld_retained (n : Fin 32) : (dropHeld n s).retained = s.retained := rfl
@[simp] theorem dropHeld_start (n : Fin 32) : (dropHeld n s).start = s.start := rfl
@[simp] theorem dropHeld_overrun (n : Fin 32) : (dropHeld n s).overrun = s.overrun := rfl
@[simp] theorem dropHeld_restarts (n : Fin 32) : (dropHeld n s).restarts = s.restarts := rfl

/-! dropIntake -/
@[simp] theorem dropIntake_pending (n : Fin 32) : (dropIntake n s).pending = s.pending := rfl
@[simp] theorem dropIntake_ram (n : Fin 32) : (dropIntake n s).ram = s.ram := rfl
@[simp] theorem dropIntake_port (n : Fin 32) : (dropIntake n s).port = s.port := rfl
@[simp] theorem dropIntake_pins (n : Fin 32) : (dropIntake n s).pins = s.pins := rfl
@[simp] theorem dropIntake_time (n : Fin 32) : (dropIntake n s).time = s.time := rfl
@[simp] theorem dropIntake_charge (n : Fin 32) : (dropIntake n s).charge = s.charge := rfl
@[simp] theorem dropIntake_outlets (n : Fin 32) : (dropIntake n s).outlets = s.outlets := rfl
@[simp] theorem dropIntake_interlock (n : Fin 32) : (dropIntake n s).interlock = s.interlock := rfl
@[simp] theorem dropIntake_water (n : Fin 32) : (dropIntake n s).water = s.water := rfl
@[simp] theorem dropIntake_climate (n : Fin 32) : (dropIntake n s).climate = s.climate := rfl
@[simp] theorem dropIntake_movers (n : Fin 32) : (dropIntake n s).movers = s.movers := rfl
@[simp] theorem dropIntake_lights (n : Fin 32) : (dropIntake n s).lights = s.lights := rfl
@[simp] theorem dropIntake_link (n : Fin 32) : (dropIntake n s).link = s.link := rfl
@[simp] theorem dropIntake_store (n : Fin 32) : (dropIntake n s).store = s.store := rfl
@[simp] theorem dropIntake_retained (n : Fin 32) : (dropIntake n s).retained = s.retained := rfl
@[simp] theorem dropIntake_start (n : Fin 32) : (dropIntake n s).start = s.start := rfl
@[simp] theorem dropIntake_overrun (n : Fin 32) : (dropIntake n s).overrun = s.overrun := rfl
@[simp] theorem dropIntake_restarts (n : Fin 32) : (dropIntake n s).restarts = s.restarts := rfl

/-! release -/
@[simp] theorem release_pending (n : Fin 32) : (release n s).pending = s.pending := rfl
@[simp] theorem release_ram (n : Fin 32) : (release n s).ram = s.ram := rfl
@[simp] theorem release_port (n : Fin 32) : (release n s).port = s.port := rfl
@[simp] theorem release_pins (n : Fin 32) : (release n s).pins = s.pins := rfl
@[simp] theorem release_time (n : Fin 32) : (release n s).time = s.time := rfl
@[simp] theorem release_charge (n : Fin 32) : (release n s).charge = s.charge := rfl
@[simp] theorem release_outlets (n : Fin 32) : (release n s).outlets = s.outlets := rfl
@[simp] theorem release_interlock (n : Fin 32) : (release n s).interlock = s.interlock := rfl
@[simp] theorem release_water (n : Fin 32) : (release n s).water = s.water := rfl
@[simp] theorem release_climate (n : Fin 32) : (release n s).climate = s.climate := rfl
@[simp] theorem release_movers (n : Fin 32) : (release n s).movers = s.movers := rfl
@[simp] theorem release_lights (n : Fin 32) : (release n s).lights = s.lights := rfl
@[simp] theorem release_link (n : Fin 32) : (release n s).link = s.link := rfl
@[simp] theorem release_store (n : Fin 32) : (release n s).store = s.store := rfl
@[simp] theorem release_retained (n : Fin 32) : (release n s).retained = s.retained := rfl
@[simp] theorem release_start (n : Fin 32) : (release n s).start = s.start := rfl
@[simp] theorem release_overrun (n : Fin 32) : (release n s).overrun = s.overrun := rfl
@[simp] theorem release_restarts (n : Fin 32) : (release n s).restarts = s.restarts := rfl

/-! claimFollower -/
@[simp] theorem claimFollower_pending (n f : Fin 32) : (claimFollower n f s).pending = s.pending := rfl
@[simp] theorem claimFollower_ram (n f : Fin 32) : (claimFollower n f s).ram = s.ram := rfl
@[simp] theorem claimFollower_port (n f : Fin 32) : (claimFollower n f s).port = s.port := rfl
@[simp] theorem claimFollower_pins (n f : Fin 32) : (claimFollower n f s).pins = s.pins := rfl
@[simp] theorem claimFollower_time (n f : Fin 32) : (claimFollower n f s).time = s.time := rfl
@[simp] theorem claimFollower_charge (n f : Fin 32) : (claimFollower n f s).charge = s.charge := rfl
@[simp] theorem claimFollower_outlets (n f : Fin 32) : (claimFollower n f s).outlets = s.outlets := rfl
@[simp] theorem claimFollower_interlock (n f : Fin 32) : (claimFollower n f s).interlock = s.interlock := rfl
@[simp] theorem claimFollower_water (n f : Fin 32) : (claimFollower n f s).water = s.water := rfl
@[simp] theorem claimFollower_climate (n f : Fin 32) : (claimFollower n f s).climate = s.climate := rfl
@[simp] theorem claimFollower_movers (n f : Fin 32) : (claimFollower n f s).movers = s.movers := rfl
@[simp] theorem claimFollower_lights (n f : Fin 32) : (claimFollower n f s).lights = s.lights := rfl
@[simp] theorem claimFollower_link (n f : Fin 32) : (claimFollower n f s).link = s.link := rfl
@[simp] theorem claimFollower_store (n f : Fin 32) : (claimFollower n f s).store = s.store := rfl
@[simp] theorem claimFollower_retained (n f : Fin 32) : (claimFollower n f s).retained = s.retained := rfl
@[simp] theorem claimFollower_start (n f : Fin 32) : (claimFollower n f s).start = s.start := rfl
@[simp] theorem claimFollower_overrun (n f : Fin 32) : (claimFollower n f s).overrun = s.overrun := rfl
@[simp] theorem claimFollower_restarts (n f : Fin 32) : (claimFollower n f s).restarts = s.restarts := rfl

/-! takeSlot -/
@[simp] theorem takeSlot_pending (n : Fin 32) : (takeSlot n s).pending = s.pending := rfl
@[simp] theorem takeSlot_ram (n : Fin 32) : (takeSlot n s).ram = s.ram := rfl
@[simp] theorem takeSlot_port (n : Fin 32) : (takeSlot n s).port = s.port := rfl
@[simp] theorem takeSlot_pins (n : Fin 32) : (takeSlot n s).pins = s.pins := rfl
@[simp] theorem takeSlot_time (n : Fin 32) : (takeSlot n s).time = s.time := rfl
@[simp] theorem takeSlot_charge (n : Fin 32) : (takeSlot n s).charge = s.charge := rfl
@[simp] theorem takeSlot_outlets (n : Fin 32) : (takeSlot n s).outlets = s.outlets := rfl
@[simp] theorem takeSlot_interlock (n : Fin 32) : (takeSlot n s).interlock = s.interlock := rfl
@[simp] theorem takeSlot_water (n : Fin 32) : (takeSlot n s).water = s.water := rfl
@[simp] theorem takeSlot_climate (n : Fin 32) : (takeSlot n s).climate = s.climate := rfl
@[simp] theorem takeSlot_movers (n : Fin 32) : (takeSlot n s).movers = s.movers := rfl
@[simp] theorem takeSlot_lights (n : Fin 32) : (takeSlot n s).lights = s.lights := rfl
@[simp] theorem takeSlot_link (n : Fin 32) : (takeSlot n s).link = s.link := rfl
@[simp] theorem takeSlot_store (n : Fin 32) : (takeSlot n s).store = s.store := rfl
@[simp] theorem takeSlot_retained (n : Fin 32) : (takeSlot n s).retained = s.retained := rfl
@[simp] theorem takeSlot_start (n : Fin 32) : (takeSlot n s).start = s.start := rfl
@[simp] theorem takeSlot_overrun (n : Fin 32) : (takeSlot n s).overrun = s.overrun := rfl
@[simp] theorem takeSlot_restarts (n : Fin 32) : (takeSlot n s).restarts = s.restarts := rfl

/-! service -/
@[simp] theorem service_pending (n : Fin 32) (f : Finish) : (service n f s).pending = s.pending := rfl
@[simp] theorem service_pins (n : Fin 32) (f : Finish) : (service n f s).pins = s.pins := rfl
@[simp] theorem service_time (n : Fin 32) (f : Finish) : (service n f s).time = s.time := rfl
@[simp] theorem service_charge (n : Fin 32) (f : Finish) : (service n f s).charge = s.charge := rfl
@[simp] theorem service_outlets (n : Fin 32) (f : Finish) : (service n f s).outlets = s.outlets := rfl
@[simp] theorem service_interlock (n : Fin 32) (f : Finish) : (service n f s).interlock = s.interlock := rfl
@[simp] theorem service_water (n : Fin 32) (f : Finish) : (service n f s).water = s.water := rfl
@[simp] theorem service_climate (n : Fin 32) (f : Finish) : (service n f s).climate = s.climate := rfl
@[simp] theorem service_movers (n : Fin 32) (f : Finish) : (service n f s).movers = s.movers := rfl
@[simp] theorem service_lights (n : Fin 32) (f : Finish) : (service n f s).lights = s.lights := rfl
@[simp] theorem service_link (n : Fin 32) (f : Finish) : (service n f s).link = s.link := rfl
@[simp] theorem service_store (n : Fin 32) (f : Finish) : (service n f s).store = s.store := rfl
@[simp] theorem service_retained (n : Fin 32) (f : Finish) : (service n f s).retained = s.retained := rfl
@[simp] theorem service_start (n : Fin 32) (f : Finish) : (service n f s).start = s.start := rfl
@[simp] theorem service_overrun (n : Fin 32) (f : Finish) : (service n f s).overrun = s.overrun := rfl
@[simp] theorem service_restarts (n : Fin 32) (f : Finish) : (service n f s).restarts = s.restarts := rfl

/-! takeLong -/
@[simp] theorem takeLong_pending (n : Fin 32) (b : Block) : (takeLong n b s).pending = s.pending := rfl
@[simp] theorem takeLong_port (n : Fin 32) (b : Block) : (takeLong n b s).port = s.port := rfl
@[simp] theorem takeLong_pins (n : Fin 32) (b : Block) : (takeLong n b s).pins = s.pins := rfl
@[simp] theorem takeLong_time (n : Fin 32) (b : Block) : (takeLong n b s).time = s.time := rfl
@[simp] theorem takeLong_outlets (n : Fin 32) (b : Block) : (takeLong n b s).outlets = s.outlets := rfl
@[simp] theorem takeLong_interlock (n : Fin 32) (b : Block) : (takeLong n b s).interlock = s.interlock := rfl
@[simp] theorem takeLong_water (n : Fin 32) (b : Block) : (takeLong n b s).water = s.water := rfl
@[simp] theorem takeLong_climate (n : Fin 32) (b : Block) : (takeLong n b s).climate = s.climate := rfl
@[simp] theorem takeLong_movers (n : Fin 32) (b : Block) : (takeLong n b s).movers = s.movers := rfl
@[simp] theorem takeLong_lights (n : Fin 32) (b : Block) : (takeLong n b s).lights = s.lights := rfl
@[simp] theorem takeLong_link (n : Fin 32) (b : Block) : (takeLong n b s).link = s.link := rfl
@[simp] theorem takeLong_store (n : Fin 32) (b : Block) : (takeLong n b s).store = s.store := rfl
@[simp] theorem takeLong_retained (n : Fin 32) (b : Block) : (takeLong n b s).retained = s.retained := rfl
@[simp] theorem takeLong_start (n : Fin 32) (b : Block) : (takeLong n b s).start = s.start := rfl
@[simp] theorem takeLong_overrun (n : Fin 32) (b : Block) : (takeLong n b s).overrun = s.overrun := rfl
@[simp] theorem takeLong_restarts (n : Fin 32) (b : Block) : (takeLong n b s).restarts = s.restarts := rfl

/-! setOutlet -/
@[simp] theorem setOutlet_pending (o : Fin 16) (x : Outlet) : (setOutlet o x s).pending = s.pending := rfl
@[simp] theorem setOutlet_ram (o : Fin 16) (x : Outlet) : (setOutlet o x s).ram = s.ram := rfl
@[simp] theorem setOutlet_port (o : Fin 16) (x : Outlet) : (setOutlet o x s).port = s.port := rfl
@[simp] theorem setOutlet_disp (o : Fin 16) (x : Outlet) : (setOutlet o x s).disp = s.disp := rfl
@[simp] theorem setOutlet_pins (o : Fin 16) (x : Outlet) : (setOutlet o x s).pins = s.pins := rfl
@[simp] theorem setOutlet_time (o : Fin 16) (x : Outlet) : (setOutlet o x s).time = s.time := rfl
@[simp] theorem setOutlet_charge (o : Fin 16) (x : Outlet) : (setOutlet o x s).charge = s.charge := rfl
@[simp] theorem setOutlet_interlock (o : Fin 16) (x : Outlet) : (setOutlet o x s).interlock = s.interlock := rfl
@[simp] theorem setOutlet_water (o : Fin 16) (x : Outlet) : (setOutlet o x s).water = s.water := rfl
@[simp] theorem setOutlet_climate (o : Fin 16) (x : Outlet) : (setOutlet o x s).climate = s.climate := rfl
@[simp] theorem setOutlet_movers (o : Fin 16) (x : Outlet) : (setOutlet o x s).movers = s.movers := rfl
@[simp] theorem setOutlet_lights (o : Fin 16) (x : Outlet) : (setOutlet o x s).lights = s.lights := rfl
@[simp] theorem setOutlet_link (o : Fin 16) (x : Outlet) : (setOutlet o x s).link = s.link := rfl
@[simp] theorem setOutlet_store (o : Fin 16) (x : Outlet) : (setOutlet o x s).store = s.store := rfl
@[simp] theorem setOutlet_retained (o : Fin 16) (x : Outlet) : (setOutlet o x s).retained = s.retained := rfl
@[simp] theorem setOutlet_start (o : Fin 16) (x : Outlet) : (setOutlet o x s).start = s.start := rfl
@[simp] theorem setOutlet_overrun (o : Fin 16) (x : Outlet) : (setOutlet o x s).overrun = s.overrun := rfl
@[simp] theorem setOutlet_restarts (o : Fin 16) (x : Outlet) : (setOutlet o x s).restarts = s.restarts := rfl

/-! grantOutlet -/
@[simp] theorem grantOutlet_pending (o : Fin 16) : (grantOutlet o s).pending = s.pending := rfl
@[simp] theorem grantOutlet_ram (o : Fin 16) : (grantOutlet o s).ram = s.ram := rfl
@[simp] theorem grantOutlet_port (o : Fin 16) : (grantOutlet o s).port = s.port := rfl
@[simp] theorem grantOutlet_disp (o : Fin 16) : (grantOutlet o s).disp = s.disp := rfl
@[simp] theorem grantOutlet_pins (o : Fin 16) : (grantOutlet o s).pins = s.pins := rfl
@[simp] theorem grantOutlet_time (o : Fin 16) : (grantOutlet o s).time = s.time := rfl
@[simp] theorem grantOutlet_charge (o : Fin 16) : (grantOutlet o s).charge = s.charge := rfl
@[simp] theorem grantOutlet_interlock (o : Fin 16) : (grantOutlet o s).interlock = s.interlock := rfl
@[simp] theorem grantOutlet_water (o : Fin 16) : (grantOutlet o s).water = s.water := rfl
@[simp] theorem grantOutlet_climate (o : Fin 16) : (grantOutlet o s).climate = s.climate := rfl
@[simp] theorem grantOutlet_movers (o : Fin 16) : (grantOutlet o s).movers = s.movers := rfl
@[simp] theorem grantOutlet_lights (o : Fin 16) : (grantOutlet o s).lights = s.lights := rfl
@[simp] theorem grantOutlet_link (o : Fin 16) : (grantOutlet o s).link = s.link := rfl
@[simp] theorem grantOutlet_store (o : Fin 16) : (grantOutlet o s).store = s.store := rfl
@[simp] theorem grantOutlet_retained (o : Fin 16) : (grantOutlet o s).retained = s.retained := rfl
@[simp] theorem grantOutlet_start (o : Fin 16) : (grantOutlet o s).start = s.start := rfl
@[simp] theorem grantOutlet_overrun (o : Fin 16) : (grantOutlet o s).overrun = s.overrun := rfl
@[simp] theorem grantOutlet_restarts (o : Fin 16) : (grantOutlet o s).restarts = s.restarts := rfl

/-! darkOutlet -/
@[simp] theorem darkOutlet_pending (o : Fin 16) (x : OutletState) : (darkOutlet o x s).pending = s.pending := rfl
@[simp] theorem darkOutlet_ram (o : Fin 16) (x : OutletState) : (darkOutlet o x s).ram = s.ram := rfl
@[simp] theorem darkOutlet_port (o : Fin 16) (x : OutletState) : (darkOutlet o x s).port = s.port := rfl
@[simp] theorem darkOutlet_disp (o : Fin 16) (x : OutletState) : (darkOutlet o x s).disp = s.disp := rfl
@[simp] theorem darkOutlet_pins (o : Fin 16) (x : OutletState) : (darkOutlet o x s).pins = s.pins := rfl
@[simp] theorem darkOutlet_time (o : Fin 16) (x : OutletState) : (darkOutlet o x s).time = s.time := rfl
@[simp] theorem darkOutlet_charge (o : Fin 16) (x : OutletState) : (darkOutlet o x s).charge = s.charge := rfl
@[simp] theorem darkOutlet_interlock (o : Fin 16) (x : OutletState) : (darkOutlet o x s).interlock = s.interlock := rfl
@[simp] theorem darkOutlet_water (o : Fin 16) (x : OutletState) : (darkOutlet o x s).water = s.water := rfl
@[simp] theorem darkOutlet_climate (o : Fin 16) (x : OutletState) : (darkOutlet o x s).climate = s.climate := rfl
@[simp] theorem darkOutlet_movers (o : Fin 16) (x : OutletState) : (darkOutlet o x s).movers = s.movers := rfl
@[simp] theorem darkOutlet_lights (o : Fin 16) (x : OutletState) : (darkOutlet o x s).lights = s.lights := rfl
@[simp] theorem darkOutlet_link (o : Fin 16) (x : OutletState) : (darkOutlet o x s).link = s.link := rfl
@[simp] theorem darkOutlet_store (o : Fin 16) (x : OutletState) : (darkOutlet o x s).store = s.store := rfl
@[simp] theorem darkOutlet_retained (o : Fin 16) (x : OutletState) : (darkOutlet o x s).retained = s.retained := rfl
@[simp] theorem darkOutlet_start (o : Fin 16) (x : OutletState) : (darkOutlet o x s).start = s.start := rfl
@[simp] theorem darkOutlet_overrun (o : Fin 16) (x : OutletState) : (darkOutlet o x s).overrun = s.overrun := rfl
@[simp] theorem darkOutlet_restarts (o : Fin 16) (x : OutletState) : (darkOutlet o x s).restarts = s.restarts := rfl

/-! newRequest -/
@[simp] theorem newRequest_pending (o : Fin 16) : (newRequest o s).pending = s.pending := rfl
@[simp] theorem newRequest_ram (o : Fin 16) : (newRequest o s).ram = s.ram := rfl
@[simp] theorem newRequest_port (o : Fin 16) : (newRequest o s).port = s.port := rfl
@[simp] theorem newRequest_disp (o : Fin 16) : (newRequest o s).disp = s.disp := rfl
@[simp] theorem newRequest_pins (o : Fin 16) : (newRequest o s).pins = s.pins := rfl
@[simp] theorem newRequest_time (o : Fin 16) : (newRequest o s).time = s.time := rfl
@[simp] theorem newRequest_charge (o : Fin 16) : (newRequest o s).charge = s.charge := rfl
@[simp] theorem newRequest_interlock (o : Fin 16) : (newRequest o s).interlock = s.interlock := rfl
@[simp] theorem newRequest_water (o : Fin 16) : (newRequest o s).water = s.water := rfl
@[simp] theorem newRequest_climate (o : Fin 16) : (newRequest o s).climate = s.climate := rfl
@[simp] theorem newRequest_movers (o : Fin 16) : (newRequest o s).movers = s.movers := rfl
@[simp] theorem newRequest_lights (o : Fin 16) : (newRequest o s).lights = s.lights := rfl
@[simp] theorem newRequest_link (o : Fin 16) : (newRequest o s).link = s.link := rfl
@[simp] theorem newRequest_store (o : Fin 16) : (newRequest o s).store = s.store := rfl
@[simp] theorem newRequest_retained (o : Fin 16) : (newRequest o s).retained = s.retained := rfl
@[simp] theorem newRequest_start (o : Fin 16) : (newRequest o s).start = s.start := rfl
@[simp] theorem newRequest_overrun (o : Fin 16) : (newRequest o s).overrun = s.overrun := rfl
@[simp] theorem newRequest_restarts (o : Fin 16) : (newRequest o s).restarts = s.restarts := rfl

/-! setDemand -/
@[simp] theorem setDemand_pending (o : Fin 16) (d : Option Demand) : (setDemand o d s).pending = s.pending := rfl
@[simp] theorem setDemand_ram (o : Fin 16) (d : Option Demand) : (setDemand o d s).ram = s.ram := rfl
@[simp] theorem setDemand_port (o : Fin 16) (d : Option Demand) : (setDemand o d s).port = s.port := rfl
@[simp] theorem setDemand_disp (o : Fin 16) (d : Option Demand) : (setDemand o d s).disp = s.disp := rfl
@[simp] theorem setDemand_pins (o : Fin 16) (d : Option Demand) : (setDemand o d s).pins = s.pins := rfl
@[simp] theorem setDemand_time (o : Fin 16) (d : Option Demand) : (setDemand o d s).time = s.time := rfl
@[simp] theorem setDemand_charge (o : Fin 16) (d : Option Demand) : (setDemand o d s).charge = s.charge := rfl
@[simp] theorem setDemand_interlock (o : Fin 16) (d : Option Demand) : (setDemand o d s).interlock = s.interlock := rfl
@[simp] theorem setDemand_water (o : Fin 16) (d : Option Demand) : (setDemand o d s).water = s.water := rfl
@[simp] theorem setDemand_climate (o : Fin 16) (d : Option Demand) : (setDemand o d s).climate = s.climate := rfl
@[simp] theorem setDemand_movers (o : Fin 16) (d : Option Demand) : (setDemand o d s).movers = s.movers := rfl
@[simp] theorem setDemand_lights (o : Fin 16) (d : Option Demand) : (setDemand o d s).lights = s.lights := rfl
@[simp] theorem setDemand_link (o : Fin 16) (d : Option Demand) : (setDemand o d s).link = s.link := rfl
@[simp] theorem setDemand_store (o : Fin 16) (d : Option Demand) : (setDemand o d s).store = s.store := rfl
@[simp] theorem setDemand_retained (o : Fin 16) (d : Option Demand) : (setDemand o d s).retained = s.retained := rfl
@[simp] theorem setDemand_start (o : Fin 16) (d : Option Demand) : (setDemand o d s).start = s.start := rfl
@[simp] theorem setDemand_overrun (o : Fin 16) (d : Option Demand) : (setDemand o d s).overrun = s.overrun := rfl
@[simp] theorem setDemand_restarts (o : Fin 16) (d : Option Demand) : (setDemand o d s).restarts = s.restarts := rfl

/-! setHeld -/
@[simp] theorem setHeld_pending (o : Fin 16) (b : Bool) : (setHeld o b s).pending = s.pending := rfl
@[simp] theorem setHeld_ram (o : Fin 16) (b : Bool) : (setHeld o b s).ram = s.ram := rfl
@[simp] theorem setHeld_port (o : Fin 16) (b : Bool) : (setHeld o b s).port = s.port := rfl
@[simp] theorem setHeld_disp (o : Fin 16) (b : Bool) : (setHeld o b s).disp = s.disp := rfl
@[simp] theorem setHeld_pins (o : Fin 16) (b : Bool) : (setHeld o b s).pins = s.pins := rfl
@[simp] theorem setHeld_time (o : Fin 16) (b : Bool) : (setHeld o b s).time = s.time := rfl
@[simp] theorem setHeld_charge (o : Fin 16) (b : Bool) : (setHeld o b s).charge = s.charge := rfl
@[simp] theorem setHeld_interlock (o : Fin 16) (b : Bool) : (setHeld o b s).interlock = s.interlock := rfl
@[simp] theorem setHeld_water (o : Fin 16) (b : Bool) : (setHeld o b s).water = s.water := rfl
@[simp] theorem setHeld_climate (o : Fin 16) (b : Bool) : (setHeld o b s).climate = s.climate := rfl
@[simp] theorem setHeld_movers (o : Fin 16) (b : Bool) : (setHeld o b s).movers = s.movers := rfl
@[simp] theorem setHeld_lights (o : Fin 16) (b : Bool) : (setHeld o b s).lights = s.lights := rfl
@[simp] theorem setHeld_link (o : Fin 16) (b : Bool) : (setHeld o b s).link = s.link := rfl
@[simp] theorem setHeld_store (o : Fin 16) (b : Bool) : (setHeld o b s).store = s.store := rfl
@[simp] theorem setHeld_retained (o : Fin 16) (b : Bool) : (setHeld o b s).retained = s.retained := rfl
@[simp] theorem setHeld_start (o : Fin 16) (b : Bool) : (setHeld o b s).start = s.start := rfl
@[simp] theorem setHeld_overrun (o : Fin 16) (b : Bool) : (setHeld o b s).overrun = s.overrun := rfl
@[simp] theorem setHeld_restarts (o : Fin 16) (b : Bool) : (setHeld o b s).restarts = s.restarts := rfl

/-! setDuty -/
@[simp] theorem setDuty_pending (n : Nat) : (setDuty n s).pending = s.pending := rfl
@[simp] theorem setDuty_ram (n : Nat) : (setDuty n s).ram = s.ram := rfl
@[simp] theorem setDuty_port (n : Nat) : (setDuty n s).port = s.port := rfl
@[simp] theorem setDuty_disp (n : Nat) : (setDuty n s).disp = s.disp := rfl
@[simp] theorem setDuty_pins (n : Nat) : (setDuty n s).pins = s.pins := rfl
@[simp] theorem setDuty_time (n : Nat) : (setDuty n s).time = s.time := rfl
@[simp] theorem setDuty_charge (n : Nat) : (setDuty n s).charge = s.charge := rfl
@[simp] theorem setDuty_interlock (n : Nat) : (setDuty n s).interlock = s.interlock := rfl
@[simp] theorem setDuty_water (n : Nat) : (setDuty n s).water = s.water := rfl
@[simp] theorem setDuty_climate (n : Nat) : (setDuty n s).climate = s.climate := rfl
@[simp] theorem setDuty_movers (n : Nat) : (setDuty n s).movers = s.movers := rfl
@[simp] theorem setDuty_lights (n : Nat) : (setDuty n s).lights = s.lights := rfl
@[simp] theorem setDuty_link (n : Nat) : (setDuty n s).link = s.link := rfl
@[simp] theorem setDuty_store (n : Nat) : (setDuty n s).store = s.store := rfl
@[simp] theorem setDuty_retained (n : Nat) : (setDuty n s).retained = s.retained := rfl
@[simp] theorem setDuty_start (n : Nat) : (setDuty n s).start = s.start := rfl
@[simp] theorem setDuty_overrun (n : Nat) : (setDuty n s).overrun = s.overrun := rfl
@[simp] theorem setDuty_restarts (n : Nat) : (setDuty n s).restarts = s.restarts := rfl

/-! setSignal -/
@[simp] theorem setSignal_pending (g : Signal) (v : Nat) : (setSignal g v s).pending = s.pending := rfl
@[simp] theorem setSignal_ram (g : Signal) (v : Nat) : (setSignal g v s).ram = s.ram := rfl
@[simp] theorem setSignal_port (g : Signal) (v : Nat) : (setSignal g v s).port = s.port := rfl
@[simp] theorem setSignal_disp (g : Signal) (v : Nat) : (setSignal g v s).disp = s.disp := rfl
@[simp] theorem setSignal_pins (g : Signal) (v : Nat) : (setSignal g v s).pins = s.pins := rfl
@[simp] theorem setSignal_time (g : Signal) (v : Nat) : (setSignal g v s).time = s.time := rfl
@[simp] theorem setSignal_charge (g : Signal) (v : Nat) : (setSignal g v s).charge = s.charge := rfl
@[simp] theorem setSignal_outlets (g : Signal) (v : Nat) : (setSignal g v s).outlets = s.outlets := rfl
@[simp] theorem setSignal_water (g : Signal) (v : Nat) : (setSignal g v s).water = s.water := rfl
@[simp] theorem setSignal_climate (g : Signal) (v : Nat) : (setSignal g v s).climate = s.climate := rfl
@[simp] theorem setSignal_movers (g : Signal) (v : Nat) : (setSignal g v s).movers = s.movers := rfl
@[simp] theorem setSignal_lights (g : Signal) (v : Nat) : (setSignal g v s).lights = s.lights := rfl
@[simp] theorem setSignal_link (g : Signal) (v : Nat) : (setSignal g v s).link = s.link := rfl
@[simp] theorem setSignal_store (g : Signal) (v : Nat) : (setSignal g v s).store = s.store := rfl
@[simp] theorem setSignal_retained (g : Signal) (v : Nat) : (setSignal g v s).retained = s.retained := rfl
@[simp] theorem setSignal_start (g : Signal) (v : Nat) : (setSignal g v s).start = s.start := rfl
@[simp] theorem setSignal_overrun (g : Signal) (v : Nat) : (setSignal g v s).overrun = s.overrun := rfl
@[simp] theorem setSignal_restarts (g : Signal) (v : Nat) : (setSignal g v s).restarts = s.restarts := rfl

/-! setBlockCount -/
@[simp] theorem setBlockCount_pending (m : Mover) (k : Nat) : (setBlockCount m k s).pending = s.pending := by cases m <;> rfl
@[simp] theorem setBlockCount_ram (m : Mover) (k : Nat) : (setBlockCount m k s).ram = s.ram := by cases m <;> rfl
@[simp] theorem setBlockCount_port (m : Mover) (k : Nat) : (setBlockCount m k s).port = s.port := by cases m <;> rfl
@[simp] theorem setBlockCount_disp (m : Mover) (k : Nat) : (setBlockCount m k s).disp = s.disp := by cases m <;> rfl
@[simp] theorem setBlockCount_pins (m : Mover) (k : Nat) : (setBlockCount m k s).pins = s.pins := by cases m <;> rfl
@[simp] theorem setBlockCount_time (m : Mover) (k : Nat) : (setBlockCount m k s).time = s.time := by cases m <;> rfl
@[simp] theorem setBlockCount_charge (m : Mover) (k : Nat) : (setBlockCount m k s).charge = s.charge := by cases m <;> rfl
@[simp] theorem setBlockCount_outlets (m : Mover) (k : Nat) : (setBlockCount m k s).outlets = s.outlets := by cases m <;> rfl
@[simp] theorem setBlockCount_water (m : Mover) (k : Nat) : (setBlockCount m k s).water = s.water := by cases m <;> rfl
@[simp] theorem setBlockCount_climate (m : Mover) (k : Nat) : (setBlockCount m k s).climate = s.climate := by cases m <;> rfl
@[simp] theorem setBlockCount_movers (m : Mover) (k : Nat) : (setBlockCount m k s).movers = s.movers := by cases m <;> rfl
@[simp] theorem setBlockCount_lights (m : Mover) (k : Nat) : (setBlockCount m k s).lights = s.lights := by cases m <;> rfl
@[simp] theorem setBlockCount_link (m : Mover) (k : Nat) : (setBlockCount m k s).link = s.link := by cases m <;> rfl
@[simp] theorem setBlockCount_store (m : Mover) (k : Nat) : (setBlockCount m k s).store = s.store := by cases m <;> rfl
@[simp] theorem setBlockCount_retained (m : Mover) (k : Nat) : (setBlockCount m k s).retained = s.retained := by cases m <;> rfl
@[simp] theorem setBlockCount_start (m : Mover) (k : Nat) : (setBlockCount m k s).start = s.start := by cases m <;> rfl
@[simp] theorem setBlockCount_overrun (m : Mover) (k : Nat) : (setBlockCount m k s).overrun = s.overrun := by cases m <;> rfl
@[simp] theorem setBlockCount_restarts (m : Mover) (k : Nat) : (setBlockCount m k s).restarts = s.restarts := by cases m <;> rfl

/-! setPump -/
@[simp] theorem setPump_pending (f : Pump → Pump) : (setPump f s).pending = s.pending := rfl
@[simp] theorem setPump_ram (f : Pump → Pump) : (setPump f s).ram = s.ram := rfl
@[simp] theorem setPump_port (f : Pump → Pump) : (setPump f s).port = s.port := rfl
@[simp] theorem setPump_disp (f : Pump → Pump) : (setPump f s).disp = s.disp := rfl
@[simp] theorem setPump_pins (f : Pump → Pump) : (setPump f s).pins = s.pins := rfl
@[simp] theorem setPump_time (f : Pump → Pump) : (setPump f s).time = s.time := rfl
@[simp] theorem setPump_charge (f : Pump → Pump) : (setPump f s).charge = s.charge := rfl
@[simp] theorem setPump_outlets (f : Pump → Pump) : (setPump f s).outlets = s.outlets := rfl
@[simp] theorem setPump_interlock (f : Pump → Pump) : (setPump f s).interlock = s.interlock := rfl
@[simp] theorem setPump_climate (f : Pump → Pump) : (setPump f s).climate = s.climate := rfl
@[simp] theorem setPump_movers (f : Pump → Pump) : (setPump f s).movers = s.movers := rfl
@[simp] theorem setPump_lights (f : Pump → Pump) : (setPump f s).lights = s.lights := rfl
@[simp] theorem setPump_link (f : Pump → Pump) : (setPump f s).link = s.link := rfl
@[simp] theorem setPump_store (f : Pump → Pump) : (setPump f s).store = s.store := rfl
@[simp] theorem setPump_retained (f : Pump → Pump) : (setPump f s).retained = s.retained := rfl
@[simp] theorem setPump_start (f : Pump → Pump) : (setPump f s).start = s.start := rfl
@[simp] theorem setPump_overrun (f : Pump → Pump) : (setPump f s).overrun = s.overrun := rfl
@[simp] theorem setPump_restarts (f : Pump → Pump) : (setPump f s).restarts = s.restarts := rfl

/-! releaseElevation -/
@[simp] theorem releaseElevation_pending : (releaseElevation s).pending = s.pending := rfl
@[simp] theorem releaseElevation_ram : (releaseElevation s).ram = s.ram := rfl
@[simp] theorem releaseElevation_port : (releaseElevation s).port = s.port := rfl
@[simp] theorem releaseElevation_disp : (releaseElevation s).disp = s.disp := rfl
@[simp] theorem releaseElevation_pins : (releaseElevation s).pins = s.pins := rfl
@[simp] theorem releaseElevation_time : (releaseElevation s).time = s.time := rfl
@[simp] theorem releaseElevation_charge : (releaseElevation s).charge = s.charge := rfl
@[simp] theorem releaseElevation_outlets : (releaseElevation s).outlets = s.outlets := rfl
@[simp] theorem releaseElevation_interlock : (releaseElevation s).interlock = s.interlock := rfl
@[simp] theorem releaseElevation_water : (releaseElevation s).water = s.water := rfl
@[simp] theorem releaseElevation_movers : (releaseElevation s).movers = s.movers := rfl
@[simp] theorem releaseElevation_lights : (releaseElevation s).lights = s.lights := rfl
@[simp] theorem releaseElevation_link : (releaseElevation s).link = s.link := rfl
@[simp] theorem releaseElevation_store : (releaseElevation s).store = s.store := rfl
@[simp] theorem releaseElevation_retained : (releaseElevation s).retained = s.retained := rfl
@[simp] theorem releaseElevation_start : (releaseElevation s).start = s.start := rfl
@[simp] theorem releaseElevation_overrun : (releaseElevation s).overrun = s.overrun := rfl
@[simp] theorem releaseElevation_restarts : (releaseElevation s).restarts = s.restarts := rfl

/-! stallTick -/
@[simp] theorem stallTick_pending (o : Fin 16) : (stallTick o s).pending = s.pending := by unfold stallTick; split <;> rfl
@[simp] theorem stallTick_ram (o : Fin 16) : (stallTick o s).ram = s.ram := by unfold stallTick; split <;> rfl
@[simp] theorem stallTick_port (o : Fin 16) : (stallTick o s).port = s.port := by unfold stallTick; split <;> rfl
@[simp] theorem stallTick_disp (o : Fin 16) : (stallTick o s).disp = s.disp := by unfold stallTick; split <;> rfl
@[simp] theorem stallTick_pins (o : Fin 16) : (stallTick o s).pins = s.pins := by unfold stallTick; split <;> rfl
@[simp] theorem stallTick_time (o : Fin 16) : (stallTick o s).time = s.time := by unfold stallTick; split <;> rfl
@[simp] theorem stallTick_charge (o : Fin 16) : (stallTick o s).charge = s.charge := by unfold stallTick; split <;> rfl
@[simp] theorem stallTick_outlets (o : Fin 16) : (stallTick o s).outlets = s.outlets := by unfold stallTick; split <;> rfl
@[simp] theorem stallTick_interlock (o : Fin 16) : (stallTick o s).interlock = s.interlock := by unfold stallTick; split <;> rfl
@[simp] theorem stallTick_water (o : Fin 16) : (stallTick o s).water = s.water := by unfold stallTick; split <;> rfl
@[simp] theorem stallTick_climate (o : Fin 16) : (stallTick o s).climate = s.climate := by unfold stallTick; split <;> rfl
@[simp] theorem stallTick_lights (o : Fin 16) : (stallTick o s).lights = s.lights := by unfold stallTick; split <;> rfl
@[simp] theorem stallTick_link (o : Fin 16) : (stallTick o s).link = s.link := by unfold stallTick; split <;> rfl
@[simp] theorem stallTick_store (o : Fin 16) : (stallTick o s).store = s.store := by unfold stallTick; split <;> rfl
@[simp] theorem stallTick_retained (o : Fin 16) : (stallTick o s).retained = s.retained := by unfold stallTick; split <;> rfl
@[simp] theorem stallTick_start (o : Fin 16) : (stallTick o s).start = s.start := by unfold stallTick; split <;> rfl
@[simp] theorem stallTick_overrun (o : Fin 16) : (stallTick o s).overrun = s.overrun := by unfold stallTick; split <;> rfl
@[simp] theorem stallTick_restarts (o : Fin 16) : (stallTick o s).restarts = s.restarts := by unfold stallTick; split <;> rfl

/-! send -/
@[simp] theorem send_pending (i : Fin 12) (c : LinkCmd) : (send i c s).pending = s.pending := rfl
@[simp] theorem send_ram (i : Fin 12) (c : LinkCmd) : (send i c s).ram = s.ram := rfl
@[simp] theorem send_port (i : Fin 12) (c : LinkCmd) : (send i c s).port = s.port := rfl
@[simp] theorem send_disp (i : Fin 12) (c : LinkCmd) : (send i c s).disp = s.disp := rfl
@[simp] theorem send_pins (i : Fin 12) (c : LinkCmd) : (send i c s).pins = s.pins := rfl
@[simp] theorem send_time (i : Fin 12) (c : LinkCmd) : (send i c s).time = s.time := rfl
@[simp] theorem send_charge (i : Fin 12) (c : LinkCmd) : (send i c s).charge = s.charge := rfl
@[simp] theorem send_outlets (i : Fin 12) (c : LinkCmd) : (send i c s).outlets = s.outlets := rfl
@[simp] theorem send_interlock (i : Fin 12) (c : LinkCmd) : (send i c s).interlock = s.interlock := rfl
@[simp] theorem send_water (i : Fin 12) (c : LinkCmd) : (send i c s).water = s.water := rfl
@[simp] theorem send_climate (i : Fin 12) (c : LinkCmd) : (send i c s).climate = s.climate := rfl
@[simp] theorem send_movers (i : Fin 12) (c : LinkCmd) : (send i c s).movers = s.movers := rfl
@[simp] theorem send_lights (i : Fin 12) (c : LinkCmd) : (send i c s).lights = s.lights := rfl
@[simp] theorem send_store (i : Fin 12) (c : LinkCmd) : (send i c s).store = s.store := rfl
@[simp] theorem send_retained (i : Fin 12) (c : LinkCmd) : (send i c s).retained = s.retained := rfl
@[simp] theorem send_start (i : Fin 12) (c : LinkCmd) : (send i c s).start = s.start := rfl
@[simp] theorem send_overrun (i : Fin 12) (c : LinkCmd) : (send i c s).overrun = s.overrun := rfl
@[simp] theorem send_restarts (i : Fin 12) (c : LinkCmd) : (send i c s).restarts = s.restarts := rfl

/-! beginErase -/
@[simp] theorem beginErase_pending : (beginErase s).pending = s.pending := rfl
@[simp] theorem beginErase_ram : (beginErase s).ram = s.ram := rfl
@[simp] theorem beginErase_port : (beginErase s).port = s.port := rfl
@[simp] theorem beginErase_disp : (beginErase s).disp = s.disp := rfl
@[simp] theorem beginErase_pins : (beginErase s).pins = s.pins := rfl
@[simp] theorem beginErase_time : (beginErase s).time = s.time := rfl
@[simp] theorem beginErase_charge : (beginErase s).charge = s.charge := rfl
@[simp] theorem beginErase_outlets : (beginErase s).outlets = s.outlets := rfl
@[simp] theorem beginErase_interlock : (beginErase s).interlock = s.interlock := rfl
@[simp] theorem beginErase_water : (beginErase s).water = s.water := rfl
@[simp] theorem beginErase_climate : (beginErase s).climate = s.climate := rfl
@[simp] theorem beginErase_movers : (beginErase s).movers = s.movers := rfl
@[simp] theorem beginErase_lights : (beginErase s).lights = s.lights := rfl
@[simp] theorem beginErase_link : (beginErase s).link = s.link := rfl
@[simp] theorem beginErase_retained : (beginErase s).retained = s.retained := rfl
@[simp] theorem beginErase_start : (beginErase s).start = s.start := rfl
@[simp] theorem beginErase_overrun : (beginErase s).overrun = s.overrun := rfl
@[simp] theorem beginErase_restarts : (beginErase s).restarts = s.restarts := rfl

/-! beginProgram -/
@[simp] theorem beginProgram_pending : (beginProgram s).pending = s.pending := rfl
@[simp] theorem beginProgram_ram : (beginProgram s).ram = s.ram := rfl
@[simp] theorem beginProgram_port : (beginProgram s).port = s.port := rfl
@[simp] theorem beginProgram_disp : (beginProgram s).disp = s.disp := rfl
@[simp] theorem beginProgram_pins : (beginProgram s).pins = s.pins := rfl
@[simp] theorem beginProgram_time : (beginProgram s).time = s.time := rfl
@[simp] theorem beginProgram_charge : (beginProgram s).charge = s.charge := rfl
@[simp] theorem beginProgram_outlets : (beginProgram s).outlets = s.outlets := rfl
@[simp] theorem beginProgram_interlock : (beginProgram s).interlock = s.interlock := rfl
@[simp] theorem beginProgram_water : (beginProgram s).water = s.water := rfl
@[simp] theorem beginProgram_climate : (beginProgram s).climate = s.climate := rfl
@[simp] theorem beginProgram_movers : (beginProgram s).movers = s.movers := rfl
@[simp] theorem beginProgram_lights : (beginProgram s).lights = s.lights := rfl
@[simp] theorem beginProgram_link : (beginProgram s).link = s.link := rfl
@[simp] theorem beginProgram_retained : (beginProgram s).retained = s.retained := rfl
@[simp] theorem beginProgram_start : (beginProgram s).start = s.start := rfl
@[simp] theorem beginProgram_overrun : (beginProgram s).overrun = s.overrun := rfl
@[simp] theorem beginProgram_restarts : (beginProgram s).restarts = s.restarts := rfl

/-! freshSeconds -/
@[simp] theorem freshSeconds_pending : (freshSeconds s).pending = s.pending := rfl
@[simp] theorem freshSeconds_ram : (freshSeconds s).ram = s.ram := rfl
@[simp] theorem freshSeconds_port : (freshSeconds s).port = s.port := rfl
@[simp] theorem freshSeconds_disp : (freshSeconds s).disp = s.disp := rfl
@[simp] theorem freshSeconds_pins : (freshSeconds s).pins = s.pins := rfl
@[simp] theorem freshSeconds_time : (freshSeconds s).time = s.time := rfl
@[simp] theorem freshSeconds_charge : (freshSeconds s).charge = s.charge := rfl
@[simp] theorem freshSeconds_interlock : (freshSeconds s).interlock = s.interlock := rfl
@[simp] theorem freshSeconds_water : (freshSeconds s).water = s.water := rfl
@[simp] theorem freshSeconds_climate : (freshSeconds s).climate = s.climate := rfl
@[simp] theorem freshSeconds_movers : (freshSeconds s).movers = s.movers := rfl
@[simp] theorem freshSeconds_lights : (freshSeconds s).lights = s.lights := rfl
@[simp] theorem freshSeconds_link : (freshSeconds s).link = s.link := rfl
@[simp] theorem freshSeconds_store : (freshSeconds s).store = s.store := rfl
@[simp] theorem freshSeconds_retained : (freshSeconds s).retained = s.retained := rfl
@[simp] theorem freshSeconds_start : (freshSeconds s).start = s.start := rfl
@[simp] theorem freshSeconds_overrun : (freshSeconds s).overrun = s.overrun := rfl
@[simp] theorem freshSeconds_restarts : (freshSeconds s).restarts = s.restarts := rfl

/-! setFrost -/
@[simp] theorem setFrost_pending (f : Frost → Frost) : (setFrost f s).pending = s.pending := rfl
@[simp] theorem setFrost_ram (f : Frost → Frost) : (setFrost f s).ram = s.ram := rfl
@[simp] theorem setFrost_port (f : Frost → Frost) : (setFrost f s).port = s.port := rfl
@[simp] theorem setFrost_disp (f : Frost → Frost) : (setFrost f s).disp = s.disp := rfl
@[simp] theorem setFrost_pins (f : Frost → Frost) : (setFrost f s).pins = s.pins := rfl
@[simp] theorem setFrost_time (f : Frost → Frost) : (setFrost f s).time = s.time := rfl
@[simp] theorem setFrost_charge (f : Frost → Frost) : (setFrost f s).charge = s.charge := rfl
@[simp] theorem setFrost_outlets (f : Frost → Frost) : (setFrost f s).outlets = s.outlets := rfl
@[simp] theorem setFrost_interlock (f : Frost → Frost) : (setFrost f s).interlock = s.interlock := rfl
@[simp] theorem setFrost_climate (f : Frost → Frost) : (setFrost f s).climate = s.climate := rfl
@[simp] theorem setFrost_movers (f : Frost → Frost) : (setFrost f s).movers = s.movers := rfl
@[simp] theorem setFrost_lights (f : Frost → Frost) : (setFrost f s).lights = s.lights := rfl
@[simp] theorem setFrost_link (f : Frost → Frost) : (setFrost f s).link = s.link := rfl
@[simp] theorem setFrost_store (f : Frost → Frost) : (setFrost f s).store = s.store := rfl
@[simp] theorem setFrost_retained (f : Frost → Frost) : (setFrost f s).retained = s.retained := rfl
@[simp] theorem setFrost_start (f : Frost → Frost) : (setFrost f s).start = s.start := rfl
@[simp] theorem setFrost_overrun (f : Frost → Frost) : (setFrost f s).overrun = s.overrun := rfl
@[simp] theorem setFrost_restarts (f : Frost → Frost) : (setFrost f s).restarts = s.restarts := rfl

/-! setFill -/
@[simp] theorem setFill_pending (f : Fill) : (setFill f s).pending = s.pending := rfl
@[simp] theorem setFill_ram (f : Fill) : (setFill f s).ram = s.ram := rfl
@[simp] theorem setFill_port (f : Fill) : (setFill f s).port = s.port := rfl
@[simp] theorem setFill_disp (f : Fill) : (setFill f s).disp = s.disp := rfl
@[simp] theorem setFill_pins (f : Fill) : (setFill f s).pins = s.pins := rfl
@[simp] theorem setFill_time (f : Fill) : (setFill f s).time = s.time := rfl
@[simp] theorem setFill_charge (f : Fill) : (setFill f s).charge = s.charge := rfl
@[simp] theorem setFill_outlets (f : Fill) : (setFill f s).outlets = s.outlets := rfl
@[simp] theorem setFill_interlock (f : Fill) : (setFill f s).interlock = s.interlock := rfl
@[simp] theorem setFill_climate (f : Fill) : (setFill f s).climate = s.climate := rfl
@[simp] theorem setFill_movers (f : Fill) : (setFill f s).movers = s.movers := rfl
@[simp] theorem setFill_lights (f : Fill) : (setFill f s).lights = s.lights := rfl
@[simp] theorem setFill_link (f : Fill) : (setFill f s).link = s.link := rfl
@[simp] theorem setFill_store (f : Fill) : (setFill f s).store = s.store := rfl
@[simp] theorem setFill_retained (f : Fill) : (setFill f s).retained = s.retained := rfl
@[simp] theorem setFill_start (f : Fill) : (setFill f s).start = s.start := rfl
@[simp] theorem setFill_overrun (f : Fill) : (setFill f s).overrun = s.overrun := rfl
@[simp] theorem setFill_restarts (f : Fill) : (setFill f s).restarts = s.restarts := rfl

/-! setLatch -/
@[simp] theorem setLatch_pending (b : Bool) : (setLatch b s).pending = s.pending := rfl
@[simp] theorem setLatch_ram (b : Bool) : (setLatch b s).ram = s.ram := rfl
@[simp] theorem setLatch_port (b : Bool) : (setLatch b s).port = s.port := rfl
@[simp] theorem setLatch_disp (b : Bool) : (setLatch b s).disp = s.disp := rfl
@[simp] theorem setLatch_pins (b : Bool) : (setLatch b s).pins = s.pins := rfl
@[simp] theorem setLatch_time (b : Bool) : (setLatch b s).time = s.time := rfl
@[simp] theorem setLatch_charge (b : Bool) : (setLatch b s).charge = s.charge := rfl
@[simp] theorem setLatch_outlets (b : Bool) : (setLatch b s).outlets = s.outlets := rfl
@[simp] theorem setLatch_interlock (b : Bool) : (setLatch b s).interlock = s.interlock := rfl
@[simp] theorem setLatch_climate (b : Bool) : (setLatch b s).climate = s.climate := rfl
@[simp] theorem setLatch_movers (b : Bool) : (setLatch b s).movers = s.movers := rfl
@[simp] theorem setLatch_lights (b : Bool) : (setLatch b s).lights = s.lights := rfl
@[simp] theorem setLatch_link (b : Bool) : (setLatch b s).link = s.link := rfl
@[simp] theorem setLatch_store (b : Bool) : (setLatch b s).store = s.store := rfl
@[simp] theorem setLatch_start (b : Bool) : (setLatch b s).start = s.start := rfl
@[simp] theorem setLatch_overrun (b : Bool) : (setLatch b s).overrun = s.overrun := rfl
@[simp] theorem setLatch_restarts (b : Bool) : (setLatch b s).restarts = s.restarts := rfl

/-! setZone -/
@[simp] theorem setZone_pending (z : Fin 3) (x : Zone) : (setZone z x s).pending = s.pending := rfl
@[simp] theorem setZone_ram (z : Fin 3) (x : Zone) : (setZone z x s).ram = s.ram := rfl
@[simp] theorem setZone_port (z : Fin 3) (x : Zone) : (setZone z x s).port = s.port := rfl
@[simp] theorem setZone_disp (z : Fin 3) (x : Zone) : (setZone z x s).disp = s.disp := rfl
@[simp] theorem setZone_pins (z : Fin 3) (x : Zone) : (setZone z x s).pins = s.pins := rfl
@[simp] theorem setZone_time (z : Fin 3) (x : Zone) : (setZone z x s).time = s.time := rfl
@[simp] theorem setZone_charge (z : Fin 3) (x : Zone) : (setZone z x s).charge = s.charge := rfl
@[simp] theorem setZone_outlets (z : Fin 3) (x : Zone) : (setZone z x s).outlets = s.outlets := rfl
@[simp] theorem setZone_interlock (z : Fin 3) (x : Zone) : (setZone z x s).interlock = s.interlock := rfl
@[simp] theorem setZone_water (z : Fin 3) (x : Zone) : (setZone z x s).water = s.water := rfl
@[simp] theorem setZone_movers (z : Fin 3) (x : Zone) : (setZone z x s).movers = s.movers := rfl
@[simp] theorem setZone_lights (z : Fin 3) (x : Zone) : (setZone z x s).lights = s.lights := rfl
@[simp] theorem setZone_link (z : Fin 3) (x : Zone) : (setZone z x s).link = s.link := rfl
@[simp] theorem setZone_store (z : Fin 3) (x : Zone) : (setZone z x s).store = s.store := rfl
@[simp] theorem setZone_retained (z : Fin 3) (x : Zone) : (setZone z x s).retained = s.retained := rfl
@[simp] theorem setZone_start (z : Fin 3) (x : Zone) : (setZone z x s).start = s.start := rfl
@[simp] theorem setZone_overrun (z : Fin 3) (x : Zone) : (setZone z x s).overrun = s.overrun := rfl
@[simp] theorem setZone_restarts (z : Fin 3) (x : Zone) : (setZone z x s).restarts = s.restarts := rfl

/-! setSeq -/
@[simp] theorem setSeq_pending (f : Sequencer → Sequencer) : (setSeq f s).pending = s.pending := rfl
@[simp] theorem setSeq_ram (f : Sequencer → Sequencer) : (setSeq f s).ram = s.ram := rfl
@[simp] theorem setSeq_port (f : Sequencer → Sequencer) : (setSeq f s).port = s.port := rfl
@[simp] theorem setSeq_disp (f : Sequencer → Sequencer) : (setSeq f s).disp = s.disp := rfl
@[simp] theorem setSeq_pins (f : Sequencer → Sequencer) : (setSeq f s).pins = s.pins := rfl
@[simp] theorem setSeq_time (f : Sequencer → Sequencer) : (setSeq f s).time = s.time := rfl
@[simp] theorem setSeq_charge (f : Sequencer → Sequencer) : (setSeq f s).charge = s.charge := rfl
@[simp] theorem setSeq_outlets (f : Sequencer → Sequencer) : (setSeq f s).outlets = s.outlets := rfl
@[simp] theorem setSeq_interlock (f : Sequencer → Sequencer) : (setSeq f s).interlock = s.interlock := rfl
@[simp] theorem setSeq_water (f : Sequencer → Sequencer) : (setSeq f s).water = s.water := rfl
@[simp] theorem setSeq_movers (f : Sequencer → Sequencer) : (setSeq f s).movers = s.movers := rfl
@[simp] theorem setSeq_lights (f : Sequencer → Sequencer) : (setSeq f s).lights = s.lights := rfl
@[simp] theorem setSeq_link (f : Sequencer → Sequencer) : (setSeq f s).link = s.link := rfl
@[simp] theorem setSeq_store (f : Sequencer → Sequencer) : (setSeq f s).store = s.store := rfl
@[simp] theorem setSeq_retained (f : Sequencer → Sequencer) : (setSeq f s).retained = s.retained := rfl
@[simp] theorem setSeq_start (f : Sequencer → Sequencer) : (setSeq f s).start = s.start := rfl
@[simp] theorem setSeq_overrun (f : Sequencer → Sequencer) : (setSeq f s).overrun = s.overrun := rfl
@[simp] theorem setSeq_restarts (f : Sequencer → Sequencer) : (setSeq f s).restarts = s.restarts := rfl

/-! setMover -/
@[simp] theorem setMover_pending (m : Mover) (x : MoverRec) : (setMover m x s).pending = s.pending := by cases m <;> rfl
@[simp] theorem setMover_ram (m : Mover) (x : MoverRec) : (setMover m x s).ram = s.ram := by cases m <;> rfl
@[simp] theorem setMover_port (m : Mover) (x : MoverRec) : (setMover m x s).port = s.port := by cases m <;> rfl
@[simp] theorem setMover_disp (m : Mover) (x : MoverRec) : (setMover m x s).disp = s.disp := by cases m <;> rfl
@[simp] theorem setMover_pins (m : Mover) (x : MoverRec) : (setMover m x s).pins = s.pins := by cases m <;> rfl
@[simp] theorem setMover_time (m : Mover) (x : MoverRec) : (setMover m x s).time = s.time := by cases m <;> rfl
@[simp] theorem setMover_charge (m : Mover) (x : MoverRec) : (setMover m x s).charge = s.charge := by cases m <;> rfl
@[simp] theorem setMover_outlets (m : Mover) (x : MoverRec) : (setMover m x s).outlets = s.outlets := by cases m <;> rfl
@[simp] theorem setMover_interlock (m : Mover) (x : MoverRec) : (setMover m x s).interlock = s.interlock := by cases m <;> rfl
@[simp] theorem setMover_water (m : Mover) (x : MoverRec) : (setMover m x s).water = s.water := by cases m <;> rfl
@[simp] theorem setMover_climate (m : Mover) (x : MoverRec) : (setMover m x s).climate = s.climate := by cases m <;> rfl
@[simp] theorem setMover_lights (m : Mover) (x : MoverRec) : (setMover m x s).lights = s.lights := by cases m <;> rfl
@[simp] theorem setMover_link (m : Mover) (x : MoverRec) : (setMover m x s).link = s.link := by cases m <;> rfl
@[simp] theorem setMover_store (m : Mover) (x : MoverRec) : (setMover m x s).store = s.store := by cases m <;> rfl
@[simp] theorem setMover_start (m : Mover) (x : MoverRec) : (setMover m x s).start = s.start := by cases m <;> rfl
@[simp] theorem setMover_overrun (m : Mover) (x : MoverRec) : (setMover m x s).overrun = s.overrun := by cases m <;> rfl
@[simp] theorem setMover_restarts (m : Mover) (x : MoverRec) : (setMover m x s).restarts = s.restarts := by cases m <;> rfl

/-! setBridgeOwner -/
@[simp] theorem setBridgeOwner_pending (o : Option Mover) : (setBridgeOwner o s).pending = s.pending := rfl
@[simp] theorem setBridgeOwner_ram (o : Option Mover) : (setBridgeOwner o s).ram = s.ram := rfl
@[simp] theorem setBridgeOwner_port (o : Option Mover) : (setBridgeOwner o s).port = s.port := rfl
@[simp] theorem setBridgeOwner_disp (o : Option Mover) : (setBridgeOwner o s).disp = s.disp := rfl
@[simp] theorem setBridgeOwner_pins (o : Option Mover) : (setBridgeOwner o s).pins = s.pins := rfl
@[simp] theorem setBridgeOwner_time (o : Option Mover) : (setBridgeOwner o s).time = s.time := rfl
@[simp] theorem setBridgeOwner_charge (o : Option Mover) : (setBridgeOwner o s).charge = s.charge := rfl
@[simp] theorem setBridgeOwner_outlets (o : Option Mover) : (setBridgeOwner o s).outlets = s.outlets := rfl
@[simp] theorem setBridgeOwner_interlock (o : Option Mover) : (setBridgeOwner o s).interlock = s.interlock := rfl
@[simp] theorem setBridgeOwner_water (o : Option Mover) : (setBridgeOwner o s).water = s.water := rfl
@[simp] theorem setBridgeOwner_climate (o : Option Mover) : (setBridgeOwner o s).climate = s.climate := rfl
@[simp] theorem setBridgeOwner_lights (o : Option Mover) : (setBridgeOwner o s).lights = s.lights := rfl
@[simp] theorem setBridgeOwner_link (o : Option Mover) : (setBridgeOwner o s).link = s.link := rfl
@[simp] theorem setBridgeOwner_store (o : Option Mover) : (setBridgeOwner o s).store = s.store := rfl
@[simp] theorem setBridgeOwner_retained (o : Option Mover) : (setBridgeOwner o s).retained = s.retained := rfl
@[simp] theorem setBridgeOwner_start (o : Option Mover) : (setBridgeOwner o s).start = s.start := rfl
@[simp] theorem setBridgeOwner_overrun (o : Option Mover) : (setBridgeOwner o s).overrun = s.overrun := rfl
@[simp] theorem setBridgeOwner_restarts (o : Option Mover) : (setBridgeOwner o s).restarts = s.restarts := rfl

/-! setPending -/
@[simp] theorem setPending_pending (m : Mover) (b : Bool) : (setPending m b s).pending = s.pending := by cases m <;> rfl
@[simp] theorem setPending_ram (m : Mover) (b : Bool) : (setPending m b s).ram = s.ram := by cases m <;> rfl
@[simp] theorem setPending_port (m : Mover) (b : Bool) : (setPending m b s).port = s.port := by cases m <;> rfl
@[simp] theorem setPending_disp (m : Mover) (b : Bool) : (setPending m b s).disp = s.disp := by cases m <;> rfl
@[simp] theorem setPending_pins (m : Mover) (b : Bool) : (setPending m b s).pins = s.pins := by cases m <;> rfl
@[simp] theorem setPending_time (m : Mover) (b : Bool) : (setPending m b s).time = s.time := by cases m <;> rfl
@[simp] theorem setPending_charge (m : Mover) (b : Bool) : (setPending m b s).charge = s.charge := by cases m <;> rfl
@[simp] theorem setPending_outlets (m : Mover) (b : Bool) : (setPending m b s).outlets = s.outlets := by cases m <;> rfl
@[simp] theorem setPending_interlock (m : Mover) (b : Bool) : (setPending m b s).interlock = s.interlock := by cases m <;> rfl
@[simp] theorem setPending_water (m : Mover) (b : Bool) : (setPending m b s).water = s.water := by cases m <;> rfl
@[simp] theorem setPending_climate (m : Mover) (b : Bool) : (setPending m b s).climate = s.climate := by cases m <;> rfl
@[simp] theorem setPending_lights (m : Mover) (b : Bool) : (setPending m b s).lights = s.lights := by cases m <;> rfl
@[simp] theorem setPending_link (m : Mover) (b : Bool) : (setPending m b s).link = s.link := by cases m <;> rfl
@[simp] theorem setPending_store (m : Mover) (b : Bool) : (setPending m b s).store = s.store := by cases m <;> rfl
@[simp] theorem setPending_retained (m : Mover) (b : Bool) : (setPending m b s).retained = s.retained := by cases m <;> rfl
@[simp] theorem setPending_start (m : Mover) (b : Bool) : (setPending m b s).start = s.start := by cases m <;> rfl
@[simp] theorem setPending_overrun (m : Mover) (b : Bool) : (setPending m b s).overrun = s.overrun := by cases m <;> rfl
@[simp] theorem setPending_restarts (m : Mover) (b : Bool) : (setPending m b s).restarts = s.restarts := by cases m <;> rfl

/-! setChannel -/
@[simp] theorem setChannel_pending (c : Fin 6) (x : Channel) : (setChannel c x s).pending = s.pending := rfl
@[simp] theorem setChannel_ram (c : Fin 6) (x : Channel) : (setChannel c x s).ram = s.ram := rfl
@[simp] theorem setChannel_port (c : Fin 6) (x : Channel) : (setChannel c x s).port = s.port := rfl
@[simp] theorem setChannel_disp (c : Fin 6) (x : Channel) : (setChannel c x s).disp = s.disp := rfl
@[simp] theorem setChannel_pins (c : Fin 6) (x : Channel) : (setChannel c x s).pins = s.pins := rfl
@[simp] theorem setChannel_time (c : Fin 6) (x : Channel) : (setChannel c x s).time = s.time := rfl
@[simp] theorem setChannel_charge (c : Fin 6) (x : Channel) : (setChannel c x s).charge = s.charge := rfl
@[simp] theorem setChannel_outlets (c : Fin 6) (x : Channel) : (setChannel c x s).outlets = s.outlets := rfl
@[simp] theorem setChannel_interlock (c : Fin 6) (x : Channel) : (setChannel c x s).interlock = s.interlock := rfl
@[simp] theorem setChannel_water (c : Fin 6) (x : Channel) : (setChannel c x s).water = s.water := rfl
@[simp] theorem setChannel_climate (c : Fin 6) (x : Channel) : (setChannel c x s).climate = s.climate := rfl
@[simp] theorem setChannel_movers (c : Fin 6) (x : Channel) : (setChannel c x s).movers = s.movers := rfl
@[simp] theorem setChannel_link (c : Fin 6) (x : Channel) : (setChannel c x s).link = s.link := rfl
@[simp] theorem setChannel_store (c : Fin 6) (x : Channel) : (setChannel c x s).store = s.store := rfl
@[simp] theorem setChannel_retained (c : Fin 6) (x : Channel) : (setChannel c x s).retained = s.retained := rfl
@[simp] theorem setChannel_start (c : Fin 6) (x : Channel) : (setChannel c x s).start = s.start := rfl
@[simp] theorem setChannel_overrun (c : Fin 6) (x : Channel) : (setChannel c x s).overrun = s.overrun := rfl
@[simp] theorem setChannel_restarts (c : Fin 6) (x : Channel) : (setChannel c x s).restarts = s.restarts := rfl

/-! setNode -/
@[simp] theorem setNode_pending (i : Fin 12) (x : Node) : (setNode i x s).pending = s.pending := rfl
@[simp] theorem setNode_ram (i : Fin 12) (x : Node) : (setNode i x s).ram = s.ram := rfl
@[simp] theorem setNode_port (i : Fin 12) (x : Node) : (setNode i x s).port = s.port := rfl
@[simp] theorem setNode_disp (i : Fin 12) (x : Node) : (setNode i x s).disp = s.disp := rfl
@[simp] theorem setNode_pins (i : Fin 12) (x : Node) : (setNode i x s).pins = s.pins := rfl
@[simp] theorem setNode_time (i : Fin 12) (x : Node) : (setNode i x s).time = s.time := rfl
@[simp] theorem setNode_charge (i : Fin 12) (x : Node) : (setNode i x s).charge = s.charge := rfl
@[simp] theorem setNode_outlets (i : Fin 12) (x : Node) : (setNode i x s).outlets = s.outlets := rfl
@[simp] theorem setNode_interlock (i : Fin 12) (x : Node) : (setNode i x s).interlock = s.interlock := rfl
@[simp] theorem setNode_water (i : Fin 12) (x : Node) : (setNode i x s).water = s.water := rfl
@[simp] theorem setNode_climate (i : Fin 12) (x : Node) : (setNode i x s).climate = s.climate := rfl
@[simp] theorem setNode_movers (i : Fin 12) (x : Node) : (setNode i x s).movers = s.movers := rfl
@[simp] theorem setNode_lights (i : Fin 12) (x : Node) : (setNode i x s).lights = s.lights := rfl
@[simp] theorem setNode_store (i : Fin 12) (x : Node) : (setNode i x s).store = s.store := rfl
@[simp] theorem setNode_retained (i : Fin 12) (x : Node) : (setNode i x s).retained = s.retained := rfl
@[simp] theorem setNode_start (i : Fin 12) (x : Node) : (setNode i x s).start = s.start := rfl
@[simp] theorem setNode_overrun (i : Fin 12) (x : Node) : (setNode i x s).overrun = s.overrun := rfl
@[simp] theorem setNode_restarts (i : Fin 12) (x : Node) : (setNode i x s).restarts = s.restarts := rfl

/-! setLink -/
@[simp] theorem setLink_pending (f : Link → Link) : (setLink f s).pending = s.pending := rfl
@[simp] theorem setLink_ram (f : Link → Link) : (setLink f s).ram = s.ram := rfl
@[simp] theorem setLink_port (f : Link → Link) : (setLink f s).port = s.port := rfl
@[simp] theorem setLink_disp (f : Link → Link) : (setLink f s).disp = s.disp := rfl
@[simp] theorem setLink_pins (f : Link → Link) : (setLink f s).pins = s.pins := rfl
@[simp] theorem setLink_time (f : Link → Link) : (setLink f s).time = s.time := rfl
@[simp] theorem setLink_charge (f : Link → Link) : (setLink f s).charge = s.charge := rfl
@[simp] theorem setLink_outlets (f : Link → Link) : (setLink f s).outlets = s.outlets := rfl
@[simp] theorem setLink_interlock (f : Link → Link) : (setLink f s).interlock = s.interlock := rfl
@[simp] theorem setLink_water (f : Link → Link) : (setLink f s).water = s.water := rfl
@[simp] theorem setLink_climate (f : Link → Link) : (setLink f s).climate = s.climate := rfl
@[simp] theorem setLink_movers (f : Link → Link) : (setLink f s).movers = s.movers := rfl
@[simp] theorem setLink_lights (f : Link → Link) : (setLink f s).lights = s.lights := rfl
@[simp] theorem setLink_store (f : Link → Link) : (setLink f s).store = s.store := rfl
@[simp] theorem setLink_retained (f : Link → Link) : (setLink f s).retained = s.retained := rfl
@[simp] theorem setLink_start (f : Link → Link) : (setLink f s).start = s.start := rfl
@[simp] theorem setLink_overrun (f : Link → Link) : (setLink f s).overrun = s.overrun := rfl
@[simp] theorem setLink_restarts (f : Link → Link) : (setLink f s).restarts = s.restarts := rfl

/-! setIdle -/
@[simp] theorem setIdle_pending (n : Nat) : (setIdle n s).pending = s.pending := rfl
@[simp] theorem setIdle_ram (n : Nat) : (setIdle n s).ram = s.ram := rfl
@[simp] theorem setIdle_port (n : Nat) : (setIdle n s).port = s.port := rfl
@[simp] theorem setIdle_disp (n : Nat) : (setIdle n s).disp = s.disp := rfl
@[simp] theorem setIdle_pins (n : Nat) : (setIdle n s).pins = s.pins := rfl
@[simp] theorem setIdle_time (n : Nat) : (setIdle n s).time = s.time := rfl
@[simp] theorem setIdle_outlets (n : Nat) : (setIdle n s).outlets = s.outlets := rfl
@[simp] theorem setIdle_interlock (n : Nat) : (setIdle n s).interlock = s.interlock := rfl
@[simp] theorem setIdle_water (n : Nat) : (setIdle n s).water = s.water := rfl
@[simp] theorem setIdle_climate (n : Nat) : (setIdle n s).climate = s.climate := rfl
@[simp] theorem setIdle_movers (n : Nat) : (setIdle n s).movers = s.movers := rfl
@[simp] theorem setIdle_lights (n : Nat) : (setIdle n s).lights = s.lights := rfl
@[simp] theorem setIdle_link (n : Nat) : (setIdle n s).link = s.link := rfl
@[simp] theorem setIdle_store (n : Nat) : (setIdle n s).store = s.store := rfl
@[simp] theorem setIdle_retained (n : Nat) : (setIdle n s).retained = s.retained := rfl
@[simp] theorem setIdle_start (n : Nat) : (setIdle n s).start = s.start := rfl
@[simp] theorem setIdle_overrun (n : Nat) : (setIdle n s).overrun = s.overrun := rfl
@[simp] theorem setIdle_restarts (n : Nat) : (setIdle n s).restarts = s.restarts := rfl

/-! setTally -/
@[simp] theorem setTally_pending (f : Tally → Tally) : (setTally f s).pending = s.pending := rfl
@[simp] theorem setTally_ram (f : Tally → Tally) : (setTally f s).ram = s.ram := rfl
@[simp] theorem setTally_port (f : Tally → Tally) : (setTally f s).port = s.port := rfl
@[simp] theorem setTally_disp (f : Tally → Tally) : (setTally f s).disp = s.disp := rfl
@[simp] theorem setTally_pins (f : Tally → Tally) : (setTally f s).pins = s.pins := rfl
@[simp] theorem setTally_time (f : Tally → Tally) : (setTally f s).time = s.time := rfl
@[simp] theorem setTally_outlets (f : Tally → Tally) : (setTally f s).outlets = s.outlets := rfl
@[simp] theorem setTally_interlock (f : Tally → Tally) : (setTally f s).interlock = s.interlock := rfl
@[simp] theorem setTally_water (f : Tally → Tally) : (setTally f s).water = s.water := rfl
@[simp] theorem setTally_climate (f : Tally → Tally) : (setTally f s).climate = s.climate := rfl
@[simp] theorem setTally_movers (f : Tally → Tally) : (setTally f s).movers = s.movers := rfl
@[simp] theorem setTally_lights (f : Tally → Tally) : (setTally f s).lights = s.lights := rfl
@[simp] theorem setTally_link (f : Tally → Tally) : (setTally f s).link = s.link := rfl
@[simp] theorem setTally_store (f : Tally → Tally) : (setTally f s).store = s.store := rfl
@[simp] theorem setTally_retained (f : Tally → Tally) : (setTally f s).retained = s.retained := rfl
@[simp] theorem setTally_start (f : Tally → Tally) : (setTally f s).start = s.start := rfl
@[simp] theorem setTally_overrun (f : Tally → Tally) : (setTally f s).overrun = s.overrun := rfl
@[simp] theorem setTally_restarts (f : Tally → Tally) : (setTally f s).restarts = s.restarts := rfl

/-! setPower -/
@[simp] theorem setPower_pending (p : PowerState) : (setPower p s).pending = s.pending := rfl
@[simp] theorem setPower_ram (p : PowerState) : (setPower p s).ram = s.ram := rfl
@[simp] theorem setPower_port (p : PowerState) : (setPower p s).port = s.port := rfl
@[simp] theorem setPower_disp (p : PowerState) : (setPower p s).disp = s.disp := rfl
@[simp] theorem setPower_pins (p : PowerState) : (setPower p s).pins = s.pins := rfl
@[simp] theorem setPower_time (p : PowerState) : (setPower p s).time = s.time := rfl
@[simp] theorem setPower_outlets (p : PowerState) : (setPower p s).outlets = s.outlets := rfl
@[simp] theorem setPower_interlock (p : PowerState) : (setPower p s).interlock = s.interlock := rfl
@[simp] theorem setPower_water (p : PowerState) : (setPower p s).water = s.water := rfl
@[simp] theorem setPower_climate (p : PowerState) : (setPower p s).climate = s.climate := rfl
@[simp] theorem setPower_movers (p : PowerState) : (setPower p s).movers = s.movers := rfl
@[simp] theorem setPower_lights (p : PowerState) : (setPower p s).lights = s.lights := rfl
@[simp] theorem setPower_link (p : PowerState) : (setPower p s).link = s.link := rfl
@[simp] theorem setPower_store (p : PowerState) : (setPower p s).store = s.store := rfl
@[simp] theorem setPower_retained (p : PowerState) : (setPower p s).retained = s.retained := rfl
@[simp] theorem setPower_start (p : PowerState) : (setPower p s).start = s.start := rfl
@[simp] theorem setPower_overrun (p : PowerState) : (setPower p s).overrun = s.overrun := rfl
@[simp] theorem setPower_restarts (p : PowerState) : (setPower p s).restarts = s.restarts := rfl

/-! setFlash -/
@[simp] theorem setFlash_pending (f : Flash) : (setFlash f s).pending = s.pending := rfl
@[simp] theorem setFlash_ram (f : Flash) : (setFlash f s).ram = s.ram := rfl
@[simp] theorem setFlash_port (f : Flash) : (setFlash f s).port = s.port := rfl
@[simp] theorem setFlash_disp (f : Flash) : (setFlash f s).disp = s.disp := rfl
@[simp] theorem setFlash_pins (f : Flash) : (setFlash f s).pins = s.pins := rfl
@[simp] theorem setFlash_time (f : Flash) : (setFlash f s).time = s.time := rfl
@[simp] theorem setFlash_charge (f : Flash) : (setFlash f s).charge = s.charge := rfl
@[simp] theorem setFlash_outlets (f : Flash) : (setFlash f s).outlets = s.outlets := rfl
@[simp] theorem setFlash_interlock (f : Flash) : (setFlash f s).interlock = s.interlock := rfl
@[simp] theorem setFlash_water (f : Flash) : (setFlash f s).water = s.water := rfl
@[simp] theorem setFlash_climate (f : Flash) : (setFlash f s).climate = s.climate := rfl
@[simp] theorem setFlash_movers (f : Flash) : (setFlash f s).movers = s.movers := rfl
@[simp] theorem setFlash_lights (f : Flash) : (setFlash f s).lights = s.lights := rfl
@[simp] theorem setFlash_link (f : Flash) : (setFlash f s).link = s.link := rfl
@[simp] theorem setFlash_retained (f : Flash) : (setFlash f s).retained = s.retained := rfl
@[simp] theorem setFlash_start (f : Flash) : (setFlash f s).start = s.start := rfl
@[simp] theorem setFlash_overrun (f : Flash) : (setFlash f s).overrun = s.overrun := rfl
@[simp] theorem setFlash_restarts (f : Flash) : (setFlash f s).restarts = s.restarts := rfl

/-! setPhase -/
@[simp] theorem setPhase_pending (x : StorePhase) : (setPhase x s).pending = s.pending := rfl
@[simp] theorem setPhase_ram (x : StorePhase) : (setPhase x s).ram = s.ram := rfl
@[simp] theorem setPhase_port (x : StorePhase) : (setPhase x s).port = s.port := rfl
@[simp] theorem setPhase_disp (x : StorePhase) : (setPhase x s).disp = s.disp := rfl
@[simp] theorem setPhase_pins (x : StorePhase) : (setPhase x s).pins = s.pins := rfl
@[simp] theorem setPhase_time (x : StorePhase) : (setPhase x s).time = s.time := rfl
@[simp] theorem setPhase_charge (x : StorePhase) : (setPhase x s).charge = s.charge := rfl
@[simp] theorem setPhase_outlets (x : StorePhase) : (setPhase x s).outlets = s.outlets := rfl
@[simp] theorem setPhase_interlock (x : StorePhase) : (setPhase x s).interlock = s.interlock := rfl
@[simp] theorem setPhase_water (x : StorePhase) : (setPhase x s).water = s.water := rfl
@[simp] theorem setPhase_climate (x : StorePhase) : (setPhase x s).climate = s.climate := rfl
@[simp] theorem setPhase_movers (x : StorePhase) : (setPhase x s).movers = s.movers := rfl
@[simp] theorem setPhase_lights (x : StorePhase) : (setPhase x s).lights = s.lights := rfl
@[simp] theorem setPhase_link (x : StorePhase) : (setPhase x s).link = s.link := rfl
@[simp] theorem setPhase_retained (x : StorePhase) : (setPhase x s).retained = s.retained := rfl
@[simp] theorem setPhase_start (x : StorePhase) : (setPhase x s).start = s.start := rfl
@[simp] theorem setPhase_overrun (x : StorePhase) : (setPhase x s).overrun = s.overrun := rfl
@[simp] theorem setPhase_restarts (x : StorePhase) : (setPhase x s).restarts = s.restarts := rfl

end Sys2Proof.Machine
end

