-- ==== Sys2Proof/Laws/Cascade.lean ====
section
/-!
SUPPORT. Cascades: the induction over a run, and what no act of a cascade changes (`steady`).
-/
namespace Sys2Proof.Machine

/-! ### Induction over a run -/

/-- A property of the state that every act keeps, and the overrun mark does not touch, holds after the run. -/
theorem settle_keeps {P : State → Prop} (act : ∀ a r, P r.st → P (perform a r).st)
    (mark : ∀ s b, P s → P { s with overrun := b }) : ∀ k r, P r.st → P (settle k r)
  | 0, r, h => by
    unfold settle
    split
    · exact h
    · exact mark _ _ h
  | k + 1, r, h => by
    unfold settle
    split
    · exact h
    · exact settle_keeps act mark k _ (act _ _ h)

/-- The same for a run confined to acts of one kind `G`, closed under what they set off. -/
theorem settle_keeps_on {G : Act → Prop} {P : State → Prop}
    (act : ∀ a r, G a → (∀ b ∈ r.work, G b) → P r.st → P (perform a r).st ∧ ∀ b ∈ (perform a r).work, G b)
    (mark : ∀ s b, P s → P { s with overrun := b }) : ∀ k r, (∀ b ∈ r.work, G b) → P r.st → P (settle k r)
  | 0, r, _, h => by
    unfold settle
    split
    · exact h
    · exact mark _ _ h
  | k + 1, r, hw, h => by
    unfold settle
    split
    · exact h
    · next a l e =>
      have hw' : ∀ b ∈ l, G b := fun b hb => hw b (by simp [e, hb])
      obtain ⟨h1, h2⟩ := act a { r with work := l } (hw a (by simp [e])) hw' h
      exact settle_keeps_on act mark k _ h2 h1

/-- The first `n` acts of a run. -/
def firstActs : Nat → Run → Run
  | 0, r => r
  | n + 1, r =>
    match r.work with
    | [] => r
    | a :: l => firstActs n (perform a { r with work := l })

theorem settle_done (k : Nat) (r : Run) (h : r.work = []) : settle k r = r.st := by
  cases k <;> simp [settle, h]

/-- A run that is done after `n` acts ends there, whatever the bound above `n`. -/
theorem settle_first : ∀ (n k : Nat) (r : Run), (firstActs n r).work = [] → settle (n + k) r = (firstActs n r).st
  | 0, k, r, h => by simpa [firstActs] using settle_done k r (by simpa [firstActs] using h)
  | n + 1, k, r, h => by
    cases hw : r.work with
    | nil => rw [settle_done _ _ hw]; simp [firstActs, hw]
    | cons a l =>
      simp only [firstActs, hw] at h ⊢
      rw [← settle_first n k _ h, show n + 1 + k = (n + k) + 1 by omega]
      simp [settle, hw]

theorem run_first (n : Nat) (l : List Act) (s : State) (hn : n ≤ cascadeBound)
    (h : (firstActs n { st := s, work := l }).work = []) : run l s = (firstActs n { st := s, work := l }).st := by
  have := settle_first n (cascadeBound - n) _ h
  rwa [Nat.add_sub_cancel' hn] at this

theorem run_nil (s : State) : run [] s = s := settle_done _ _ rfl

/-! ### What no act changes -/

/-- The part of the state that a cascade leaves alone. -/
structure Steady where
  pending : List Instr
  pins : Pins
  time : Nat
  store : Store
  start : StartKind
  scenes : Mem
  staging : Mem
  window : Mem
  attnEn : Bool
  autoClr : Bool
  mask : BitVec 10
  valid : Bool
  further : Bool
  faultKind : BitVec 3
  faultAddr : BitVec 13
  bus : Word
  intake : List (Fin 32)
  power : PowerState
  tally : Tally
  socLevel : Nat
  floor : Bool
  floorEntry : Nat
  floorExit : Nat
  hostFloor : Nat
  shore : Bool
  alternator : Bool
  volts : Nat
  amps : Int
  evaluated : Bool
  terms : List TermRec
  fresh : Option Nat
  grey : Option Nat
  auto : Bool
  grace : Nat
  mode : ClimateMode
  zones : Vector (Int × Bool × Option Int) 3
  awning : Nat × Bool
  step : Nat × Bool
  windPulses : Nat
  windSpeed : Nat
  windSet : Nat
  windClear : Nat
  windHigh : Bool
  nodes : Vector Node 12
  charge : Nat × Int × Bool

def State.steady (s : State) : Steady where
  pending := s.pending
  pins := s.pins
  time := s.time
  store := s.store
  start := s.start
  scenes := s.ram.scenes
  staging := s.ram.staging
  window := s.ram.window
  attnEn := s.port.attnEn
  autoClr := s.port.autoClr
  mask := s.port.mask
  valid := s.port.valid
  further := s.port.further
  faultKind := s.port.kind
  faultAddr := s.port.addr
  bus := s.port.bus
  intake := s.disp.intake
  power := s.charge.power
  tally := s.charge.tally
  socLevel := s.charge.socLevel
  floor := s.charge.floor
  floorEntry := s.charge.floorEntry
  floorExit := s.charge.floorExit
  hostFloor := s.charge.hostFloor
  shore := s.charge.shore
  alternator := s.charge.alternator
  volts := s.charge.volts
  amps := s.charge.amps
  evaluated := s.interlock.evaluated
  terms := s.interlock.terms.map (·.record)
  fresh := s.water.fresh
  grey := s.water.grey
  auto := s.water.pump.auto
  grace := s.water.frost.grace
  mode := s.climate.mode
  zones := s.climate.zones.map fun z => (z.hostTarget, z.hostOn, z.measured)
  awning := (s.movers.awning.position, s.movers.awning.known)
  step := (s.movers.step.position, s.movers.step.known)
  windPulses := s.movers.windPulses
  windSpeed := s.movers.windSpeed
  windSet := s.movers.windSet
  windClear := s.movers.windClear
  windHigh := s.movers.windHigh
  nodes := s.link.nodes
  charge := (s.retained.charge, s.retained.acc, s.retained.synced)

/-! #### Notices, slots, digest -/

section
variable (s : State)

theorem raise_steady (g : Group) (b : BitVec 32) : (raise g b s).steady = s.steady := rfl
theorem syncPart_steady (p : Part) : (syncPart p s).steady = s.steady := rfl
theorem showCells_steady (l : List (Nat × Word)) : (showCells l s).steady = s.steady := rfl
theorem showAction_steady (m l : List Part) : (showAction m l s).steady = s.steady := rfl
theorem showChange_steady (l : List Part) (old : State) : (showChange l old s).steady = s.steady := rfl
theorem service_steady (n : Fin 32) (f : Finish) : (service n f s).steady = s.steady := rfl

theorem chainBreak_steady (k : Nat) (n : Fin 32) (s : State) : (chainBreak k n s).steady = s.steady := by
  induction k generalizing n s with
  | zero => rfl
  | succ k ih =>
    unfold chainBreak
    simp only
    split
    · rfl
    · split
      · split
        · rw [ih]; rfl
        · rfl
      · rfl

theorem chainEffect_steady (n : Fin 32) (o : Outcome) : (chainEffect n o s).steady = s.steady := by
  unfold chainEffect
  split
  · rfl
  · split
    · rfl
    · exact chainBreak_steady _ _ _

theorem finish_steady (n : Fin 32) (f : Finish) : (finish n f s).steady = s.steady := by
  unfold finish; rw [chainEffect_steady]; rfl

theorem afterReports_steady : (afterReports s).steady = s.steady := by
  unfold afterReports idleCheck
  rw [syncPart_steady]
  split <;> rfl
end

/-! #### The outlet controller and the interlock engine -/

namespace Run
variable (r : Run)

theorem push_st (l : List Act) : (r.push l).st = r.st := rfl
theorem onState_st (f : State → State) : (r.onState f).st = f r.st := rfl
theorem react_st (f : State → React) : (r.react f).st = (f r.st).1 := rfl

theorem dark_steady (o : Fin 16) (x : OutletState) : (r.dark o x).st.steady = r.st.steady := rfl
theorem grant_steady (o : Fin 16) : (r.grant o).st.steady = r.st.steady := rfl

theorem judge_steady (o : Fin 16) : (r.judge o).st.steady = r.st.steady := by
  unfold judge; (repeat' split) <;> rfl

theorem passEnd_steady (g : Goal) : (r.passEnd g).st.steady = r.st.steady := by
  unfold passEnd; split
  · rfl
  · simp only; (repeat' split) <;> rfl

theorem pass_steady (g : Goal) : (r.pass g).st.steady = r.st.steady := by
  unfold pass
  split
  · exact passEnd_steady r g
  · split
    · exact passEnd_steady r g
    · split <;> rfl

theorem overLimit_steady (b : Bool) : (r.overLimit b).st.steady = r.st.steady := by
  unfold overLimit; split <;> rfl

theorem cut_steady (o : Fin 16) (c : Cut) : (r.cut o c).st.steady = r.st.steady := by
  unfold cut; (repeat' split) <;> rfl

theorem foldDark_steady (x : OutletState) (l : List (Fin 16)) :
    ∀ r : Run, (l.foldl (fun r o => r.dark o x) r).st.steady = r.st.steady := by
  induction l with
  | nil => intro r; rfl
  | cons o l ih => intro r; exact ih _

theorem cutRest_steady : r.cutRest.st.steady = r.st.steady := foldDark_steady _ _ _
theorem unshed_steady : r.unshed.st.steady = r.st.steady := foldDark_steady _ _ _

theorem shedLevel_steady (n : Nat) : (r.shedLevel n).st.steady = r.st.steady := by
  unfold shedLevel
  simp only
  split
  · rfl
  · split
    · exact (unshed_steady _).trans rfl
    · rfl

theorem limit_steady (n : Nat) : (r.limit n).st.steady = r.st.steady := by
  unfold limit; simp only; (repeat' split) <;> rfl

theorem rejudge_steady (o : Fin 16) (c : Class) : (r.rejudge o c).st.steady = r.st.steady := by
  unfold rejudge; (repeat' split) <;> rfl

theorem consider_steady (o : Fin 16) : (r.consider o).st.steady = r.st.steady := by
  unfold consider; (repeat' split) <;> rfl

theorem clearTrip_steady (o : Fin 16) : (r.clearTrip o).st.steady = r.st.steady := by
  unfold clearTrip; split <;> rfl

theorem rises_steady (l : List (Fin 16 × Nat)) : ∀ r : Run, (r.rises l).st.steady = r.st.steady := by
  induction l with
  | nil => intro r; rfl
  | cons p l ih =>
    intro r
    have := ih (if (outlet r.st p.1).inhibit = 0 ∧ ((outlet r.st p.1).state = .on ∨ (outlet r.st p.1).state = .waiting ∨
        (outlet r.st p.1).state = .shed)
      then (r.onState (setOutlet p.1 { outlet r.st p.1 with inhibit := (outlet r.st p.1).inhibit + p.2 })).dark p.1 .inhibited
      else r.onState (setOutlet p.1 { outlet r.st p.1 with inhibit := (outlet r.st p.1).inhibit + p.2 }))
    refine Eq.trans this ?_
    split <;> rfl

theorem fall_steady (o : Fin 16) (k : Nat) : (r.fall o k).st.steady = r.st.steady := by
  unfold fall; simp only; split <;> rfl

theorem takeReq_steady (q : Req) : (takeReq q r).st.steady = r.st.steady := by
  unfold takeReq
  split
  · unfold takeDemand; simp only; split <;> rfl
  · unfold takeWithdraw; split <;> rfl
  · unfold takeCharge; simp only; (repeat' split) <;> rfl
  · rfl

theorem take_steady (q : Req) : (r.take q).st.steady = r.st.steady := by
  unfold take; split
  · rfl
  · exact takeReq_steady r q

theorem req_steady (q : Req) : (r.req q).st.steady = r.st.steady := by
  unfold req; split <;> rfl

theorem drain_steady : r.drain.st.steady = r.st.steady := by
  unfold drain; split <;> rfl

theorem arbiterIf_steady : r.arbiterIf.st.steady = r.st.steady := by
  unfold arbiterIf; split <;> rfl

theorem flush_steady : r.flush.st.steady = r.st.steady := by
  unfold flush; (repeat' split) <;> rfl

theorem drainIfDone_steady : r.drainIfDone.st.steady = r.st.steady := by
  unfold drainIfDone; split <;> rfl

theorem actEnd_steady : r.actEnd.st.steady = r.st.steady := (drainIfDone_steady _).trans rfl

theorem evalEnd_steady : r.evalEnd.st.steady = r.st.steady := (drainIfDone_steady _).trans rfl

theorem seqReport_steady : r.seqReport.st.steady = r.st.steady := by
  unfold seqReport; simp only; split <;> rfl

end Run

theorem evaluate_steady (f : BuiltIn → Bool) (g : TermRec → Bool) (s : State) :
    (evaluate f g s).1.steady = s.steady := by
  simp [evaluate, State.steady, termEval]

theorem Run.signal_steady (g : Signal) (v : Nat) (r : Run) : (r.signal g v).st.steady = r.st.steady := by
  unfold Run.signal
  split
  · rfl
  · split
    · exact (evaluate_steady _ _ _).trans rfl
    · rfl

theorem setBlockCount_steady (m : Mover) (k : Nat) (s : State) : (setBlockCount m k s).steady = s.steady := by
  cases m <;> rfl

theorem blockRise_steady (m : Mover) (k : Nat) (s : State) : (blockRise m k s).1.steady = s.steady :=
  setBlockCount_steady _ _ _

theorem blockFall_steady (m : Mover) (k : Nat) (s : State) : (blockFall m k s).steady = s.steady :=
  setBlockCount_steady _ _ _

theorem evalNotices_steady (l : List Nat) (b : Bool) (s : State) : (evalNotices l b s).steady = s.steady := by
  unfold evalNotices; simp only; rw [showAction_steady]; (repeat' split) <;> rfl

/-! #### Charge monitor and node link -/

section
variable (s : State)

theorem showing_steady (l : List Part) (f : State → React) : (showing l f s).1.steady = (f s).1.steady := rfl
theorem closing_steady (m l : List Part) (f : State → React) : (closing m l f s).1.steady = (f s).1.steady := rfl

theorem solarEval_steady : (solarEval s).1.steady = s.steady := by unfold solarEval; split <;> rfl
theorem shedEval_steady : (shedEval s).1.steady = s.steady := by unfold shedEval; simp only; split <;> rfl
theorem limitEval_steady : (limitEval s).1.steady = s.steady := by unfold limitEval; simp only; split <;> rfl

theorem linkChoose_steady (now : Nat) : (linkChoose now s).steady = s.steady := by
  unfold linkChoose
  simp only
  split
  · rfl
  · unfold sendHeater; simp only; split <;> rfl
  · split
    · rfl
    · split <;> rfl

theorem chooseIfIdle_steady : (chooseIfIdle s).steady = s.steady := by
  unfold chooseIfIdle; split
  · exact linkChoose_steady _ _
  · rfl

theorem postHeater_steady (e : HeaterEntry) : (postHeater e s).1.steady = s.steady := by
  unfold postHeater; split
  · rfl
  · exact (chooseIfIdle_steady _).trans rfl

theorem postFloat_steady : (postFloat s).1.steady = s.steady := by
  unfold postFloat; split
  · rfl
  · exact (chooseIfIdle_steady _).trans rfl

/-! #### Water -/

theorem floatDone_steady (x : CmdResult) : (floatDone x s).1.steady = s.steady := rfl

theorem pumpStart_steady : (pumpStart s).1.steady = s.steady := by unfold pumpStart; split <;> rfl
theorem pumpDry_steady (c : DryCause) : (pumpDry c s).1.steady = s.steady := rfl
theorem pumpLeaveDry_steady : (pumpLeaveDry s).1.steady = s.steady := rfl
theorem freshPump_steady : (freshPump s).1.steady = s.steady := by unfold freshPump; (repeat' split) <;> rfl
theorem pumpReport_steady (x : OutletState) : (pumpReport x s).1.steady = s.steady := by
  unfold pumpReport; (repeat' split) <;> rfl
theorem fillEnd_steady (e : FillEnd) : (fillEnd e s).1.steady = s.steady := by unfold fillEnd; split <;> rfl
theorem fillFinish_steady (e : FillEnd) : (fillFinish e s).1.steady = s.steady := by unfold fillFinish; split <;> rfl
theorem freshFill_steady : (freshFill s).1.steady = s.steady := by
  unfold freshFill; split
  · exact fillEnd_steady s _
  · rfl
theorem fillReport_steady (x : OutletState) : (fillReport x s).1.steady = s.steady := by
  unfold fillReport; split
  · rfl
  · simp only; split <;> rfl
theorem frostEval_steady (b : Bool) : (frostEval b s).1.steady = s.steady := by unfold frostEval; simp only; split <;> rfl
theorem stageChange_steady (t : Stage) (b : BitVec 32) : (stageChange t b s).1.steady = s.steady := by
  unfold stageChange; simp only; split <;> rfl
theorem stageFill_steady (t : Stage) : (stageFill t s).1.steady = s.steady := by
  unfold stageFill; split
  · exact fillEnd_steady s _
  · rfl
theorem stageLeave_steady (a b : Stage) : (stageLeave a b s).1.steady = s.steady := rfl
theorem stageBegin_steady (a b : Stage) : (stageBegin a b s).1.steady = s.steady := rfl
theorem drainLatch_steady : (drainLatch s).1.steady = s.steady := rfl
theorem padReport_steady (x : OutletState) : (padReport x s).steady = s.steady := rfl
theorem setDelivered_steady (b : Bool) : (setDelivered b s).steady = s.steady := rfl

/-! #### Climate -/

/-- A change of the climate record that keeps the mode and the zones' host values and readings. -/
theorem climateChange_steady (f : Climate → Climate) (hm : (f s.climate).mode = s.climate.mode)
    (hz : (f s.climate).zones.map (fun z => (z.hostTarget, z.hostOn, z.measured)) =
      s.climate.zones.map fun z => (z.hostTarget, z.hostOn, z.measured)) :
    (climateChange f s).1.steady = s.steady := by
  simp only [climateChange, State.steady, hm, hz]

theorem zonesKept (v : Vector Zone 3) (i : Fin 3) (x : Zone)
    (h : x.hostTarget = v[i].hostTarget ∧ x.hostOn = v[i].hostOn ∧ x.measured = v[i].measured) :
    (v.set i x).map (fun z => (z.hostTarget, z.hostOn, z.measured)) =
      v.map fun z => (z.hostTarget, z.hostOn, z.measured) := by
  apply Vector.ext
  intro j hj
  by_cases e : i.val = j
  · subst e
    have h' := h
    simp only [Fin.getElem_fin] at h'
    simp [h'.1, h'.2.1, h'.2.2]
  · simp [Vector.getElem_set_ne, e]

theorem zoneEval_fields (z : Zone) : (zoneEval z).hostTarget = z.hostTarget ∧ (zoneEval z).hostOn = z.hostOn ∧
    (zoneEval z).measured = z.measured := by
  unfold zoneEval; split
  · exact ⟨rfl, rfl, by simp_all⟩
  · simp_all

theorem zoneFollow_steady (z : Fin 3) : (zoneFollow z s).1.steady = s.steady :=
  climateChange_steady s _ rfl (zonesKept _ _ _ (zoneEval_fields _))

theorem lockerZone_fields (b : Bool) (z : Zone) : (lockerZone b z).hostTarget = z.hostTarget ∧
    (lockerZone b z).hostOn = z.hostOn ∧ (lockerZone b z).measured = z.measured := by
  unfold lockerZone; split <;> exact (zoneEval_fields _)

theorem frostDemand_steady (b : Bool) : (frostDemand b s).1.steady = s.steady := by
  unfold frostDemand; split
  · rfl
  · simp only
    apply climateChange_steady
    · rfl
    · exact zonesKept s.climate.zones 2 _ (lockerZone_fields _ _)

theorem heatDemand_steady : (heatDemand s).1.steady = s.steady := rfl
theorem enter_steady (x : SeqState) (b : BitVec 32) : (enter x b s).1.steady = s.steady := rfl
theorem seqFlags_steady : (seqFlags s).steady = s.steady := rfl
theorem heaterTest_steady : (heaterTest s).1.steady = s.steady := by unfold heaterTest; split <;> rfl
theorem igniting_steady : (igniting s).1.steady = s.steady := rfl
theorem startFail_steady (b : BitVec 32) : (startFail b s).1.steady = s.steady := by unfold startFail; split <;> rfl
theorem stopping_steady (b : Bool) : (stopping b s).1.steady = s.steady := rfl
theorem running_steady : (running s).1.steady = s.steady := rfl
theorem runJudge_steady : (runJudge s).1.steady = s.steady := by unfold runJudge; (repeat' split) <;> rfl
theorem runShed_steady : (runShed s).1.steady = s.steady := by unfold runShed; split <;> rfl
theorem seqDemand_steady : (seqDemand s).1.steady = s.steady := by unfold seqDemand; (repeat' split) <;> rfl
theorem seqLevel_steady : (seqLevel s).1.steady = s.steady := by unfold seqLevel; split <;> rfl
theorem seqFrost_steady (b : Bool) : (seqFrost b s).1.steady = s.steady := by unfold seqFrost; (repeat' split) <;> rfl
theorem seqShed_steady : (seqShed s).1.steady = s.steady := by unfold seqShed; split <;> rfl
theorem cooldownEnd_steady : (cooldownEnd s).1.steady = s.steady := by unfold cooldownEnd; (repeat' split) <;> rfl
theorem offFaulty_steady : (offFaulty s).1.steady = s.steady := by unfold offFaulty; (repeat' split) <;> rfl
theorem runningReading_steady (u : UnitReading) : (runningReading u s).1.steady = s.steady := by
  unfold runningReading; (repeat' split) <;> rfl
theorem lostReading_steady (u : UnitReading) (b : Bool) : (lostReading u b s).1.steady = s.steady := by
  unfold lostReading; (repeat' split) <;> rfl
theorem unitReading_steady (u : Option UnitReading) (b : Bool) : (unitReading u b s).1.steady = s.steady := by
  unfold unitReading
  simp only
  (repeat' split) <;> first | rfl | exact (runningReading_steady _ _).trans rfl | exact (lostReading_steady _ _ _).trans rfl
theorem unitLost_steady : (unitLost s).1.steady = s.steady := by unfold unitLost; split <;> rfl
theorem heaterResult_steady (c : HeaterCmd) (x : CmdResult) (b : Bool) : (heaterResult c x b s).1.steady = s.steady := by
  unfold heaterResult; (repeat' split) <;> rfl
theorem releaseElevation_steady : (releaseElevation s).steady = s.steady := rfl
theorem supplyReport_steady (x : OutletState) : (supplyReport x s).1.steady = s.steady := by
  unfold supplyReport; simp only
  split
  · split <;> rfl
  · unfold supplyTripped; split <;> rfl
  · rfl
theorem supplyAsk_steady : (supplyAsk s).1.steady = s.steady := by unfold supplyAsk; (repeat' split) <;> rfl

/-! #### Movers -/

/-- A mover's record with the position and the known flag it had. -/
theorem setMover_steady (m : Mover) (x : MoverRec) (h : x.position = (mover s m).position ∧ x.known = (mover s m).known) :
    (setMover m x s).steady = s.steady := by
  cases m <;> simp only [mover] at h <;> simp [State.steady, setMover, h.1, h.2]

theorem setPending_steady (m : Mover) (b : Bool) : (setPending m b s).steady = s.steady := by cases m <;> rfl
theorem setDuty_steady (n : Nat) : (setDuty n s).steady = s.steady := rfl
theorem setBridgeOwner_steady (o : Option Mover) : (setBridgeOwner o s).steady = s.steady := rfl
theorem setIdle_steady (n : Nat) : (setIdle n s).steady = s.steady := rfl

theorem stowSignal_steady (m : Mover) : (stowSignal m s).1.steady = s.steady := by
  unfold stowSignal; simp only; split
  · exact setPending_steady _ _ _
  · rfl

theorem claim_steady (m : Mover) : (claim m s).1.steady = s.steady := by unfold claim; split <;> rfl

theorem leaveStalled_steady (m : Mover) : (leaveStalled m s).steady = s.steady := by
  unfold leaveStalled; simp only; split
  · exact setMover_steady _ _ _ ⟨rfl, rfl⟩
  · rfl

theorem autoStart_steady (m : Mover) (t : MoveTag) (d : Dir) : (autoStart m t d s).1.steady = s.steady := by
  unfold autoStart
  simp only
  rw [setMover_steady]
  · exact leaveStalled_steady _ _
  · exact ⟨rfl, rfl⟩

theorem requestRetract_steady (m : Mover) : (requestRetract m s).1.steady = s.steady := by
  unfold requestRetract; split
  · rfl
  · split
    · exact autoStart_steady _ _ _ _
    · exact setPending_steady _ _ _

theorem serveRelease_steady : (serveRelease s).1.steady = s.steady := by
  unfold serveRelease
  (repeat' split) <;> first | rfl | exact (autoStart_steady _ _ _ _).trans (setPending_steady _ _ _)

theorem extension_steady : (extension s).1.steady = s.steady := by
  unfold extension; simp only
  (repeat' split) <;> first | rfl | exact autoStart_steady _ _ _ _

theorem stopDrive_steady (m : Mover) (b : Bool) : (stopDrive m b s).steady = s.steady := by
  unfold stopDrive; simp only
  split
  · split
    · exact setMover_steady _ _ _ ⟨rfl, rfl⟩
    · exact setMover_steady _ _ _ ⟨rfl, rfl⟩
  · rfl

theorem moveEnd_steady (m : Mover) (f : Outcome) (w : Word) : (moveEnd m f w s).1.steady = s.steady := by
  unfold moveEnd
  split
  · rfl
  · split
    · rfl
    · exact stopDrive_steady _ _ _

theorem moveFree_steady (m : Mover) : (moveFree m s).steady = s.steady := by unfold moveFree; split <;> rfl

theorem moveResult_steady (m : Mover) (f : Outcome) (w : Word) : (moveResult m f w s).1.steady = s.steady := by
  unfold moveResult; simp only
  split
  · rfl
  · split <;> exact setMover_steady _ _ _ ⟨rfl, rfl⟩

theorem driveStart_steady (m : Mover) (v : Move) : (driveStart m v s).1.steady = s.steady := by
  unfold driveStart; simp only
  split
  · rfl
  · exact setMover_steady _ _ _ ⟨rfl, rfl⟩

theorem bridgeReport_steady (x : OutletState) : (bridgeReport x s).1.steady = s.steady := by
  unfold bridgeReport
  split
  · rfl
  · split
    · rfl
    · split
      · rfl
      · split
        · rfl
        · split
          · rfl
          · exact driveStart_steady _ _ _
        · simp only
          split
          · rfl
          · exact setMover_steady _ _ _ ⟨rfl, rfl⟩

theorem bridgeAsk_steady : (bridgeAsk s).1.steady = s.steady := by
  unfold bridgeAsk; split
  · exact stopDrive_steady _ _ _
  · rfl

theorem blockBegins_steady (m : Mover) : (blockBegins m s).1.steady = s.steady := by
  unfold blockBegins; (repeat' split) <;> rfl

/-! #### Lighting -/

theorem ramp_steady (c : Fin 6) : (ramp c s).1.steady = s.steady := by unfold ramp; simp only; split <;> rfl

theorem lightReport_steady (c : Fin 6) (a b : OutletState) : (lightReport c a b s).1.steady = s.steady := by
  unfold lightReport lightCut; simp only
  (repeat' split) <;> rfl

theorem lookup_steady (n : Fin 32) : (lookup n s).1.steady = s.steady := by
  unfold lookup; simp only
  (repeat' split) <;> rfl

theorem clearOwner_steady (n : LightOwner) (cs : List (Fin 6)) : ∀ s, (clearOwner n cs s).steady = s.steady := by
  induction cs with
  | nil => intro s; rfl
  | cons c cs ih => intro s; refine (ih _).trans ?_; split <;> rfl

theorem clearOwners_steady (l : List LightOwner) : ∀ s, (clearOwners l s).steady = s.steady := by
  induction l with
  | nil => intro s; rfl
  | cons n l ih => intro s; exact (ih _).trans (clearOwner_steady _ _ _)

theorem recallStep_steady (l : List Word) (n : LightOwner) (b : Bool) (cs : List (Fin 6)) (lost : List (LightOwner × Fin 6)) :
    (recallStep l n b cs lost s).1.steady = s.steady := by
  unfold recallStep; split
  · rfl
  · exact clearOwners_steady _ _

theorem supersede_steady (a b : LightOwner) (c : Fin 6) : (supersede a b c s).1.steady = s.steady := by
  unfold supersede; split <;> rfl

theorem arrive_steady (x : Recall) : (arrive x s).1.steady = s.steady := by
  have h : (clearOwner x.owner channels (dropRecalls [x.owner] s)).steady = s.steady := (clearOwner_steady _ _ _).trans rfl
  unfold arrive
  generalize clearOwner x.owner channels (dropRecalls [x.owner] s) = t at h ⊢
  split <;> exact h

theorem recallTest_steady (n : LightOwner) : (recallTest n s).1.steady = s.steady := by
  unfold recallTest
  split
  · split
    · exact arrive_steady _ _
    · rfl
  · rfl

theorem doorScene_steady : (doorScene s).1.steady = s.steady := by
  unfold doorScene
  split
  · rfl
  · split
    · rfl
    · next n _ =>
      have := lookup_steady s n
      split
      · next e => rw [e] at this; exact Eq.trans rfl this
      · next e => rw [e] at this; exact this

/-! #### The acts -/

theorem ownerReport_steady (o : Fin 16) (a b : OutletState) : (ownerReport o a b s).1.steady = s.steady := by
  unfold ownerReport
  split
  · rfl
  · split
    · exact (showing_steady _ _ _).trans (pumpReport_steady _ _)
    · split
      · exact supplyReport_steady _ _
      · split
        · exact bridgeReport_steady _ _
        · split
          · exact (showing_steady _ _ _).trans (fillReport_steady _ _)
          · split
            · rfl
            · split
              · exact lightReport_steady _ _ _ _
              · rfl

theorem ownerAsk_steady (o : Fin 16) : (ownerAsk o s).1.steady = s.steady := by
  unfold ownerAsk
  split
  · exact supplyAsk_steady _
  · split
    · exact bridgeAsk_steady _
    · rfl
end

/-- No act of a cascade changes the steady part. -/
theorem perform_steady (a : Act) (r : Run) : (perform a r).st.steady = r.st.steady := by
  cases a <;> simp only [perform]
  case req q => exact Run.req_steady _ _
  case take q => exact Run.take_steady _ _
  case drain => exact Run.drain_steady _
  case action l => rfl
  case arbiterIf => exact Run.arbiterIf_steady _
  case flush => exact Run.flush_steady _
  case flushEnd => exact afterReports_steady _
  case actEnd => exact Run.actEnd_steady _
  case judge o => exact Run.judge_steady _ _
  case preempt o => rfl
  case pass g => exact Run.pass_steady _ _
  case ask o c => split; exact ownerAsk_steady _ _; rfl
  case cut o c => exact Run.cut_steady _ _ _
  case cutRest => exact Run.cutRest_steady _
  case rejudge o c => exact Run.rejudge_steady _ _ _
  case arbiter => rfl
  case consider o => exact Run.consider_steady _ _
  case clearTrip o => exact Run.clearTrip_steady _ _
  case trip o => rfl
  case tripDone n o => exact finish_steady _ _ _
  case rises l => exact Run.rises_steady _ _
  case fall o k => exact Run.fall_steady _ _ _
  case shedLevel n => exact Run.shedLevel_steady _ _
  case limit n => exact Run.limit_steady _ _
  case overLimit b => exact Run.overLimit_steady _ _
  case report o a b => exact ownerReport_steady _ _ _ _
  case signal g v => exact Run.signal_steady _ _ _
  case blockRise m k => exact blockRise_steady _ _ _
  case blockFall m k => exact blockFall_steady _ _ _
  case notices l b => exact evalNotices_steady _ _ _
  case evalEnd => exact Run.evalEnd_steady _
  case raise g b => rfl
  case finish n f => exact finish_steady _ _ _
  case shown m l => rfl
  case solar => exact (showing_steady _ _ _).trans (solarEval_steady _)
  case floatResult x => rfl
  case shedEval => exact shedEval_steady _
  case limitEval => exact limitEval_steady _
  case post e => exact postHeater_steady _ _
  case postFloat => exact postFloat_steady _
  case result c x b => exact heaterResult_steady _ _ _ _
  case freshPump => exact freshPump_steady _
  case freshFill => exact freshFill_steady _
  case pumpStart => exact pumpStart_steady _
  case pumpDry c => exact (showing_steady _ _ _).trans (pumpDry_steady _ _)
  case fillEnd e => exact fillEnd_steady _ _
  case fillFinish e => exact (showing_steady _ _ _).trans (fillFinish_steady _ _)
  case frostTemp b => exact (showing_steady _ _ _).trans (frostEval_steady _ b)
  case stage t b => exact stageChange_steady _ _ _
  case stageFill t => exact stageFill_steady _ _
  case stageLeave a b => rfl
  case stageBegin a b => rfl
  case drainLatch => rfl
  case delivered b => rfl
  case zoneFollow z => exact zoneFollow_steady _ _
  case heatDemand => exact heatDemand_steady _
  case frostDemand b => exact frostDemand_steady _ _
  case seqFrost b => exact seqFrost_steady _ _
  case seqShed => exact seqShed_steady _
  case seqDemand => exact seqDemand_steady _
  case seqLevel => exact seqLevel_steady _
  case heaterTest => exact heaterTest_steady _
  case enter x b => rfl
  case seqReport => exact Run.seqReport_steady _
  case seqFlags => rfl
  case igniting => rfl
  case running => rfl
  case stopping b => rfl
  case startFail b => exact startFail_steady _ _
  case runJudge => exact runJudge_steady _
  case runShed => exact runShed_steady _
  case cooldownEnd => exact cooldownEnd_steady _
  case unitReading u b => exact unitReading_steady _ _ _
  case unitLost => exact unitLost_steady _
  case offFaulty => exact offFaulty_steady _
  case blockBegins m => exact blockBegins_steady _ _
  case stowSignal m => exact stowSignal_steady _ _
  case claim m => exact claim_steady _ _
  case moveEnd m f w => exact moveEnd_steady _ _ _ _
  case moveFree m => exact moveFree_steady _ _
  case moveResult m f w => exact moveResult_steady _ _ _ _
  case serveRelease => exact serveRelease_steady _
  case retract m => exact requestRetract_steady _ _
  case extension => exact extension_steady _
  case doorScene => exact doorScene_steady _
  case recallOn l n b cs lost => exact recallStep_steady _ _ _ _ _ _
  case applied n k b => rfl
  case supersede a b c => exact supersede_steady _ _ _ _
  case recallTest n => exact recallTest_steady _ _
  case ramp c => exact ramp_steady _ _

theorem settle_steady (k : Nat) (r : Run) : (settle k r).steady = r.st.steady :=
  settle_keeps (P := fun t => t.steady = r.st.steady) (fun a r h => (perform_steady a r).trans h) (fun _ _ h => h) k r rfl

/-- A cascade leaves the steady part alone. -/
theorem run_steady (l : List Act) (s : State) : (run l s).steady = s.steady := settle_steady _ _

theorem runEval_steady (l : List Act) (s : State) : (runEval l s).steady = s.steady := settle_steady _ _

theorem runReact_steady (f : State → React) (s : State) : (runReact f s).steady = (f s).1.steady := run_steady _ _

theorem runEach_steady (l : List Act) : ∀ s, (runEach l s).steady = s.steady := by
  induction l with
  | nil => intro s; rfl
  | cons a l ih => intro s; exact (ih _).trans (run_steady _ _)

theorem syncAll_steady (l : List Part) : ∀ s, (syncAll l s).steady = s.steady := by
  induction l with
  | nil => intro s; rfl
  | cons p l ih => intro s; exact (ih _).trans rfl

theorem close_steady (s : State) : (close s).steady = s.steady := syncAll_steady _ _

theorem showStart_steady (old : State) (l : List Part) : ∀ s, (showStart old l s).steady = s.steady := by
  induction l with
  | nil => intro s; rfl
  | cons p l ih => intro s; exact (ih _).trans rfl

theorem closeFrom_steady (old s : State) : (closeFrom old s).steady = s.steady := by
  unfold closeFrom; split
  · split
    · rfl
    · exact showStart_steady _ _ _
  · exact close_steady _

/-! ### The end of a command -/

theorem syncAll_digest (l : List Part) : ∀ s, ∃ d, syncAll l s = { s with ram := { s.ram with digest := d } } := by
  induction l with
  | nil => intro s; exact ⟨_, rfl⟩
  | cons p l ih => intro s; obtain ⟨d, h⟩ := ih (syncPart p s); exact ⟨d, h⟩

theorem showStart_digest (old : State) (l : List Part) :
    ∀ s, ∃ d, showStart old l s = { s with ram := { s.ram with digest := d } } := by
  induction l with
  | nil => intro s; exact ⟨_, rfl⟩
  | cons p l ih => intro s; obtain ⟨d, h⟩ := ih (showCells (startCells old s p) s); exact ⟨d, h⟩

/-- All a command's end can do: it writes the digest. -/
theorem closeFrom_digest (old s : State) : ∃ d, closeFrom old s = { s with ram := { s.ram with digest := d } } := by
  unfold closeFrom; split
  · split
    · exact ⟨_, rfl⟩
    · exact showStart_digest _ _ _
  · exact syncAll_digest _ _

end Sys2Proof.Machine
end

