-- ==== Sys2Proof/Laws/Memory.lean ====
section
/-!
SUPPORT. The memory operations: what they read back, and that each keeps the canonical form.
-/
namespace Sys2Proof.Machine.Mem

variable {d : Word} {m : Mem}

theorem wf_nil : Wf d [] := ⟨List.Pairwise.nil, by simp⟩

theorem wf_cons {c : Nat × Word} : Wf d (c :: m) ↔ (∀ e ∈ m, c.1 < e.1) ∧ c.2 ≠ d ∧ Wf d m := by
  simp only [Wf, List.pairwise_cons, List.forall_mem_cons]
  tauto

theorem Wf.tail {c : Nat × Word} (h : Wf d (c :: m)) : Wf d m := (wf_cons.1 h).2.2

/-- Below every listed address the default is read. -/
theorem read_below {a : Nat} (h : ∀ e ∈ m, a < e.1) : read d m a = d := by
  cases m with
  | nil => rfl
  | cons c m =>
    have hc : a < c.1 := h c (by simp)
    simp [read, Nat.ne_of_lt hc, hc]

/-- An address that `write` leaves in the list is the written one or was listed. -/
theorem mem_write {a : Nat} {v : Word} {e : Nat × Word} (h : e ∈ write d m a v) : e = (a, v) ∨ e ∈ m := by
  induction m with
  | nil => simp only [write] at h; split at h <;> simp_all
  | cons c m ih =>
    simp only [write] at h
    split at h
    · split at h <;> simp_all; tauto
    · split at h
      · split at h <;> simp_all
      · rcases List.mem_cons.1 h with rfl | h
        · simp
        · rcases ih h with h | h <;> simp [h]

/-- A write keeps the canonical form. -/
theorem write_wf {a : Nat} {v : Word} (h : Wf d m) : Wf d (write d m a v) := by
  induction m with
  | nil =>
    simp only [write]
    split
    · exact wf_nil
    · exact wf_cons.2 ⟨by simp, by assumption, wf_nil⟩
  | cons c m ih =>
    obtain ⟨h1, h2, h3⟩ := wf_cons.1 h
    simp only [write]
    split
    · next e =>
      subst e
      split
      · exact h3
      · exact wf_cons.2 ⟨h1, by assumption, h3⟩
    · split
      · next hlt =>
        split
        · exact h
        · refine wf_cons.2 ⟨?_, by assumption, h⟩
          intro e he
          rcases List.mem_cons.1 he with rfl | he
          · exact hlt
          · exact Nat.lt_trans hlt (h1 e he)
      · refine wf_cons.2 ⟨?_, h2, ih h3⟩
        intro e he
        rcases mem_write he with rfl | he
        · simp only; omega
        · exact h1 e he

theorem writeList_wf {vs : List Word} : ∀ {m : Mem} {a : Nat}, Wf d m → Wf d (writeList d m a vs) := by
  induction vs with
  | nil => intro m a h; exact h
  | cons v vs ih => intro m a h; exact ih (write_wf h)

theorem writeCells_wf {l : List (Nat × Word)} : ∀ {m : Mem}, Wf d m → Wf d (writeCells d m l) := by
  induction l with
  | nil => intro m h; exact h
  | cons c l ih => intro m h; exact ih (write_wf h)

theorem filter_wf {p : Nat × Word → Bool} (h : Wf d m) : Wf d (m.filter p) :=
  ⟨h.1.sublist List.filter_sublist, fun c hc => h.2 c (List.mem_filter.1 hc).1⟩

theorem window_wf {lo hi : Nat} (h : Wf d m) : Wf d (window m lo hi) := filter_wf h

/-- Moving addresses down keeps the form where none of them lies below the step. -/
theorem rebase_wf {k : Nat} (h : Wf d m) (hk : ∀ c ∈ m, k ≤ c.1) : Wf d (rebase m k) := by
  refine ⟨?_, ?_⟩
  · rw [rebase, List.pairwise_map]
    refine h.1.imp_of_mem fun {a b} ha hb hab => ?_
    have := hk a ha; have := hk b hb; simp only; omega
  · intro c hc
    obtain ⟨e, he, rfl⟩ := List.mem_map.1 hc
    exact h.2 e he

theorem read_write_same {a : Nat} {v : Word} (h : Wf d m) : read d (write d m a v) a = v := by
  induction m with
  | nil => simp only [write]; split <;> simp_all [read]
  | cons c m ih =>
    obtain ⟨h1, h2, h3⟩ := wf_cons.1 h
    simp only [write]
    split
    · next e =>
      subst e
      split
      · next hv => rw [hv]; exact read_below h1
      · simp [read]
    · next hne =>
      split
      · next hlt =>
        split
        · next hv => simp [read, hne, hlt, hv]
        · simp [read]
      · next hge => simp [read, hne, hge, ih h3]

theorem read_write_other {a b : Nat} {v : Word} (h : Wf d m) (hb : b ≠ a) : read d (write d m a v) b = read d m b := by
  induction m with
  | nil => simp only [write]; split <;> simp_all [read]
  | cons c m ih =>
    obtain ⟨h1, h2, h3⟩ := wf_cons.1 h
    simp only [write]
    split
    · next e =>
      subst e
      split
      · simp only [read, hb, if_false]
        split
        · next hlt => exact read_below fun e he => Nat.lt_trans hlt (h1 e he)
        · rfl
      · simp [read, hb]
    · split
      · next hne hlt =>
        split
        · rfl
        · simp only [read, hb, if_false]
          split
          · next hba =>
            have h1' : b ≠ c.1 := by omega
            have h2' : b < c.1 := by omega
            simp [h1', h2']
          · rfl
      · simp only [read]
        split
        · rfl
        · split
          · rfl
          · exact ih h3

/-- Equal reads are equal memories. -/
theorem ext_of_read {m n : Mem} (hm : Wf d m) (hn : Wf d n) (h : ∀ a, read d m a = read d n a) : m = n := by
  induction m generalizing n with
  | nil =>
    cases n with
    | nil => rfl
    | cons c n => exact absurd (by simpa [read] using (h c.1).symm) (wf_cons.1 hn).2.1
  | cons c m ih =>
    obtain ⟨h1, h2, h3⟩ := wf_cons.1 hm
    cases n with
    | nil => exact absurd (by simpa [read] using h c.1) h2
    | cons e n =>
      obtain ⟨g1, g2, g3⟩ := wf_cons.1 hn
      have hce : c.1 = e.1 := by
        rcases Nat.lt_trichotomy c.1 e.1 with hlt | heq | hgt
        · have := h c.1; simp [read, Nat.ne_of_lt hlt, hlt] at this; exact absurd this h2
        · exact heq
        · have := h e.1; simp [read, Nat.ne_of_lt hgt, hgt] at this; exact absurd this.symm g2
      have hv : c.2 = e.2 := by have := h c.1; simpa [read, hce] using this
      have : m = n := by
        apply ih h3 g3
        intro a
        by_cases ha : a ≤ c.1
        · rw [read_below (fun x hx => lt_of_le_of_lt ha (h1 x hx)),
            read_below (fun x hx => lt_of_le_of_lt (hce ▸ ha) (g1 x hx))]
        · have := h a
          have e1 : a ≠ c.1 := by omega
          have e2 : ¬ a < c.1 := by omega
          simpa [read, e1, e2, ← hce] using this
      rw [this, Prod.ext hce hv]

end Sys2Proof.Machine.Mem
end

