-- ==== Sys2Proof/Laws/Water.lean ====
section
/-!
SUPPORT. The frost guard: what one temperature has judged, it leaves as it is (R114).
-/
namespace Sys2Proof.Machine

/-- R114: this temperature neither raises the stage nor lowers it. -/
def StageStands (i : Image) (t : Int) (x : Stage) : Prop :=
  (x ≠ .dump → threshold i x.up < t) ∧ (x = .pad ∨ x = .heat → t < threshold i x + 10)

theorem nextStage_of_stands {i : Image} {t : Int} {x : Stage} (h : StageStands i t x) : nextStage i t x = x := by
  obtain ⟨hu, hd⟩ := h
  have noRise : ¬ (x ≠ .dump ∧ t ≤ threshold i x.up) := fun h => absurd (hu h.1) (by omega)
  have noFall : ¬ ((x = .pad ∨ x = .heat) ∧ threshold i x + 10 ≤ t) := fun h => absurd (hd h.1) (by omega)
  simp only [nextStage, riseStage, fallStage, if_neg noRise, if_neg noFall]
  split <;> simp_all

theorem nextStage_stands (i : Image) (t : Int) (x : Stage) : StageStands i t (nextStage i t x) := by
  by_cases p : t ≤ threshold i .pad <;> by_cases h : t ≤ threshold i .heat <;> by_cases d : t ≤ threshold i .dump <;>
    by_cases p' : threshold i .pad + 10 ≤ t <;> by_cases h' : threshold i .heat + 10 ≤ t <;>
    first
    | omega
    | (cases x <;> simp [nextStage, riseStage, fallStage, Stage.up, Stage.down, StageStands, p, h, d, p', h'] <;> omega)

/-- R114: a stage judged twice by one temperature is the stage judged once, whatever the thresholds. -/
theorem nextStage_idem (i : Image) (t : Int) (x : Stage) : nextStage i t (nextStage i t x) = nextStage i t x :=
  nextStage_of_stands (nextStage_stands i t x)

end Sys2Proof.Machine
end

