-- ==== Sys2Proof/WellFormed.lean ====
section
/-!
DEFINITION. Which commands are well formed: the operand ranges that the row's own words give. A command that is not well formed
is still total in the machine (a host write is judged by its real address); well-formedness says that the command is an
instance of the row it is written under.
-/
namespace Sys2Proof

/-- A moment within the current second, in ms. -/
def subOk (sub : Nat) : Bool := decide (sub < 1000)

/-- The ten samples of one second (R45). -/
def samplesOk (l : List Sample) : Bool := l.length == 10

/-- The offsets VERIFY may report, ascending within the image (R184). -/
def cellsOk : List FlashCell → Bool
  | [] => true
  | c :: l => decide (c.offset ≤ 0x200) && (match l with | [] => true | d :: _ => decide (c.offset < d.offset)) && cellsOk l

/-- Each command's operands lie in the ranges its row gives. -/
def Instr.wellFormed : Instr → Bool
  | .slotWordWrite _ word _ => word != 0
  | .slotStateFault _ _ => true
  | .stagingWrite addr _ =>
    let a := addr.toNat
    (decide (Config.stagingBase ≤ a) && decide (a < Config.unassignedBase)) ||
      (decide (Config.windowBase ≤ a) && decide (a < Config.registerBase))
  | .digestWrite addr _ => decide (Config.digestBase ≤ addr.toNat) && decide (addr.toNat < Config.sceneBase)
  | .unmappedWrite addr _ =>
    let a := addr.toNat
    (decide (Config.unassignedBase ≤ a) && decide (a < Config.windowBase)) || decide (Config.registerEnd ≤ a)
  | .registerWrite addr _ => addr == 0x1000 || addr == 0x1004 || addr == 0x1005
  | .restart v => v.getLsbD 15
  | .attnEn v => !v.getLsbD 15
  | .ordAutoclr v => !v.getLsbD 15
  | .verifyEnd l => cellsOk l
  | .linkStartQuiet sub => subOk sub
  | .secondClose l => samplesOk l
  | .fullSync l => samplesOk l
  | .emptySync l => samplesOk l
  | .voltageFloorEntry l => samplesOk l
  | .voltageFloorExit l => samplesOk l
  | .restEntry l => samplesOk l
  | .readingStale _ l => samplesOk l
  | .windHighSet l => samplesOk l
  | .windHighClear l => samplesOk l
  | .valvePullInEnd o => o == 1 || o == 7
  | .turnaroundEnd sub => subOk sub
  | .pollDue _ sub => subOk sub
  | .ackWindowExpiry sub => subOk sub
  | .replyQuietEnd sub => subOk sub
  | .replyWordFault index _ _ _ => decide (index ≤ 6)
  | .goodReply _ data sub => decide (data.length ≤ 6) && subOk sub
  | .hostRead _ | .slotPost _ | .slotCancelPosted _ | .slotCancelTaken _ | .slotCancelLate _ | .slotGiveBack _
  | .sceneWrite _ _ _ | .noticeClear _ | .noticeMask _ => true
  | .badKind | .chargeSet | .shedFloor | .restNow | .auxSet | .tripClear | .termsLoad | .pumpMode | .pumpReset | .fill
  | .drainDump | .drainClose | .climateMode | .zoneSet | .heaterClear | .move | .moverStop | .sceneRecall | .lightSet
  | .settingsFetch | .settingsStore => true
  | .validateEnd | .eraseEnd _ | .eraseTimeout | .programEnd _ | .programTimeout | .serviceInput _ | .powerOn
  | .resetAssert _ | .resetRelease | .startComplete => true
  | .filteredInputEdge _ _ | .vehicleInput _ _ | .immediateTrip _ _ | .sustainedTrip _ _ | .requestSent
  | .replyGapExpiry => true
  | .pressureLow _ | .pumpRunLimit | .fillFlowPulse | .fillWaitTimeout | .fillFlowTimeout | .frostBlindGrace
  | .padTimeout | .heatTimeout => true
  | .retryHoldEnd | .grantWaitTimeout | .ignitionLimit | .runOnEnd | .cooldownMinimum | .cooldownMaximum
  | .supplyHoldEnd => true
  | .hallPulse _ | .endStop _ _ | .grantWindowExpiry _ | .stallWindowExpiry _ | .moveTimeout _ | .windPulse | .rampTick
  | .currentSample _ _ => true

end Sys2Proof
end

