-- ==== Sys2Proof/Tests/Slice0.lean ====
section
/-!
SUPPORT. Tests: the well-formedness smoke, and for each command and each clause of a statement a small state that meets its
hypotheses, with what the command answers there.
-/
namespace Sys2Proof.Tests
open Machine

set_option synthInstance.maxSize 2000
-- The evaluations below run one after another: side by side they would ask for more memory than the check allows.
set_option Elab.async false

/-! ### States -/

/-- ACTIVE with shore power, nothing under way, the built-in defaults. -/
def base : State :=
  { State.reset with
    charge := { State.reset.charge with power := .active, shore := true, shedLevel := 0, limit := 76000 }
    outlets := { State.reset.outlets with shedLevel := 0, limit := 76000 }
    interlock := { State.reset.interlock with evaluated := true, signals := State.reset.interlock.signals.set 6 0 } }

/-- A slot's words: state, KIND with FOLLOWER, FOLLOW_ON, parameters. -/
def slotCells (n : Nat) (st kind next : Word) (p : List Word) : Mem :=
  (([(16 * n, st), (16 * n + 1, kind), (16 * n + 2, next)] : Mem) ++
    (List.range p.length).map fun i => (16 * n + 3 + i, p.getD i 0)).filter fun c => c.2 != 0

/-- Slot 0 posted with this order, at the head of the intake list. -/
def ordered (kind : Word) (p : List Word) (s : State) : State :=
  { s with ram := { s.ram with slots := slotCells 0 1 kind 0xFFFF p }, disp := { s.disp with intake := [0] } }

/-- Slot 3 in this state, owned by this block. -/
def owned (st : Word) (b : Block) (s : State) : State :=
  { s with ram := { s.ram with slots := slotCells 3 st 0x22 0xFFFF [] }, disp := { s.disp with owners := [(3, b)] } }

/-- Outlet o ON with a standing demand. -/
def lit (o : Fin 16) (mA : Nat) (s : State) : State :=
  setOutlet o { outlet s o with state := .on, charge := mA, demand := some { charge := mA } } s

def held3 (s : State) : State := { s with pins := { s.pins with reset := true } }

def asleep (s : State) : State := { s with charge := { s.charge with power := .rest } }

def waking (s : State) : State := { s with charge := { s.charge with power := .starting } }

/-- The command answers a next state of which `p` holds. -/
def gives (c : Instr) (s : State) (p : State → Prop) [∀ t, Decidable (p t)] : Bool :=
  match exec c s with
  | .next t => decide (p t)
  | _ => false

def samples (mV : Nat) (mA : Int) : List Sample := List.replicate 10 { mV := mV, mA := mA }


/-! ### Well-formedness: an ill-formed command for each check -/

theorem test_illFormed_word_to_illFormed_ordAutoclr :
    -- illFormed_word
    (Instr.wellFormed (.slotWordWrite 0 0 7) = false) ∧
    -- illFormed_staging
    (Instr.wellFormed (.stagingWrite 0x700 7) = false) ∧
    -- illFormed_digest
    (Instr.wellFormed (.digestWrite 0x400 7) = false) ∧
    -- illFormed_unmapped
    (Instr.wellFormed (.unmappedWrite 0x800 7) = false) ∧
    -- illFormed_register
    (Instr.wellFormed (.registerWrite 0x1001 7) = false) ∧
    -- illFormed_restart
    (Instr.wellFormed (.restart 0x7FFF) = false) ∧
    -- illFormed_attnEn
    (Instr.wellFormed (.attnEn 0x8001) = false) ∧
    -- illFormed_ordAutoclr
    (Instr.wellFormed (.ordAutoclr 0x8002) = false) :=
  ⟨by decide +kernel, by decide +kernel, by decide +kernel, by decide +kernel, by decide +kernel, by decide +kernel, by decide +kernel, by decide +kernel⟩
theorem test_illFormed_verify_to_wellFormed :
    -- illFormed_verify
    (Instr.wellFormed (.verifyEnd [⟨5, 1⟩, ⟨4, 1⟩]) = false) ∧
    -- illFormed_verifyRange
    (Instr.wellFormed (.verifyEnd [⟨0x201, 1⟩]) = false) ∧
    -- illFormed_sub
    (Instr.wellFormed (.turnaroundEnd 1000) = false) ∧
    -- illFormed_samples
    (Instr.wellFormed (.secondClose []) = false) ∧
    -- illFormed_valve
    (Instr.wellFormed (.valvePullInEnd 2) = false) ∧
    -- illFormed_index
    (Instr.wellFormed (.replyWordFault 7 0 true true) = false) ∧
    -- illFormed_reply
    (Instr.wellFormed (.goodReply 0 (List.replicate 7 0) 0) = false) ∧
    -- wellFormed
    ((Instr.slotWordWrite 0 1 7).wellFormed && (Instr.secondClose (samples 12800 0)).wellFormed &&
     (Instr.restart 0x8000).wellFormed && (Instr.goodReply 0x21 [500] 30).wellFormed = true) :=
  ⟨by decide +kernel, by decide +kernel, by decide +kernel, by decide +kernel, by decide +kernel, by decide +kernel, by decide +kernel, by decide +kernel⟩
theorem test_noWordSpellsACommand : decodeTableWord 16 0 = none := rfl

/-! ### The machine as a whole -/

theorem test_step_front : ∃ t, Machine.step { base with pending := [.windPulse] } = .next t ∧ t.movers.windPulses = 1 ∧
    t.pending = [] := ⟨_, rfl, by decide +kernel⟩
theorem test_step_idle : Machine.step base = .next base := rfl
theorem test_invariants_meet : State.reset.MemsWf ∧ State.reset.TallyInv ∧ State.reset.OutletInv ∧ State.reset.HeatInv ∧
    State.reset.ClearInv ∧ (mover State.reset .awning).known = false ∧ Machine.step State.reset = .next State.reset :=
  ⟨by decide +kernel, by decide +kernel, by decide +kernel, by decide +kernel, by decide +kernel, by decide +kernel, rfl⟩
theorem test_base_meets_to_attn :
    -- base_meets
    (base.MemsWf ∧ base.TallyInv ∧ base.OutletInv ∧ base.HeatInv ∧ base.ClearInv) ∧
    -- chain_meets
    (let s : State := { base with
       ram := { base.ram with slots := slotCells 4 1 0x8001 0xFFFF [] }
       disp := { base.disp with held := [{ slot := 4, claimed := some 3, released := none }] } }
     s.MemsWf ∧ claimedBy s 3 = some 4 ∧ Finished (chainEffect 3 .timeout s) 4 { outcome := .chainBroken } ∧
       nextSlot (chainEffect 3 .ok s) = some 4) ∧
    -- drive
    (drive (lit 1 500 base) 1 = 400 ∧ drive (lit 8 8000 base) 8 = 1000 ∧ drive base 8 = 0 ∧
     drive (lit 10 1500 base) 10 = 0) ∧
    -- attn
    (attn { base with port := { base.port with attnEn := true, notice := 1 } } = true ∧ attn base = false) :=
  ⟨by decide +kernel, by decide +kernel, by decide +kernel, by decide +kernel⟩

/-! ### Host accesses -/

def storing (x : StorePhase) : State :=
  let s := owned 2 .store base
  { s with store := { s.store with phase := x, slot := some 3 }, pins := { s.pins with service := true } }
/-- A fill of slot 3 in hand, the inlet valve ON. -/
def filling (f : Fill) : State :=
  let s := lit 7 500 (owned 2 .water base)
  { s with water := { s.water with fill := some { f with slot := 3 } } }
/-- A host move of slot 3 in hand on the awning, out, partly extended. -/
def moving (v : Move) : State :=
  let s := owned 2 .movers base
  let s := setOutlet 5 { outlet s 5 with state := .on, charge := 18000, demand := some { charge := 18000, dir := some v.dir } } s
  let s := setMover .awning { state := if v.driving then .movingOut else .partialOut, position := 900, known := true,
                              lastDir := some .out, move := some v } s
  { s with movers := { s.movers with owner := some .awning }, outlets := { s.outlets with duty := 800 } }
def outMove : Move := { tag := .host 3, dir := .out, target := .stop, run := 800, creep := 300, creepCounts := 300,
                        driving := true, report := .on }
/-- Channel 0 halfway to 500 for slot 3. -/
def ramping : State :=
  let s := lit 10 1500 (owned 2 .lights base)
  setChannel 0 { output := 200, target := 500, rampStep := 30, owner := some (.host 3) }
    { s with lights := { s.lights with recalls := [{ owner := .host 3, retargeted := 1, hit := false }] } }
theorem test_access_rest_to_slotPost :
    -- access_rest
    ((asleep base).charge.power = .rest ∧ (access (asleep base)).charge.power = .active ∧
     Noticed (access (asleep base)) .energy 3 ∧ (node (access (asleep base)) 7).due = some 0) ∧
    -- hostRead_ident
    (gives (.hostRead 0x1000) base (fun t => t.port.bus = 0x4302) = true) ∧
    -- hostRead_regions
    (gives (.hostRead 0x1FFF) base (fun t => t.port.bus = 0) = true ∧
     gives (.hostRead 0x6FF) { base with ram := { base.ram with staging := [(0x6FF, 9)] } } (fun t => t.port.bus = 9) = true ∧
     gives (.hostRead 0x1003) base (fun t => t.port.bus = 1) = true ∧
     gives (.hostRead 0x1001) { base with port := { base.port with autoClr := true } } (fun t => t.port.bus = 2) = true) ∧
    -- wake_digest
    (digestWord (wake (asleep base)) 0x201 = 1) ∧
    -- underReset
    ((held3 base).pins.reset = true ∧
     gives (.stagingWrite 0x600 7) (held3 base) (fun t => t = held3 base) = true ∧
     gives (.hostRead 0x1000) (held3 base) (fun t => t.port.bus = 0) = true) ∧
    -- slotWordWrite
    (base.pins.reset = false ∧ slotState (access base) 31 = .empty ∧
     gives (.slotWordWrite 31 15 7) base (fun t => slotWord t 31 15 = 7) = true) ∧
    -- slotWordWrite_locked
    (slotState (access (owned 2 .water base)) 3 = .taken ∧
     gives (.slotWordWrite 3 4 7) (owned 2 .water base)
       (fun t => slotWord t 3 4 = 0 ∧ t.port.valid = true ∧ t.port.kind = 4 ∧ t.port.addr = 52) = true) ∧
    -- slotPost
    ((access base).MemsWf ∧ slotState (access base) 5 = .empty ∧
     gives (.slotPost 5) base (fun t => slotState t 5 = .posted ∧ t.disp.intake = [5]) = true) :=
  ⟨by decide +kernel, by decide +kernel, by decide +kernel, by decide +kernel, by decide +kernel, by decide +kernel, by decide +kernel, by decide +kernel⟩
theorem test_slotPost_follower_to_slotGiveBack :
    -- slotPost_follower
    (gives (.slotPost 5) { base with ram := { base.ram with slots := [(81, 0x8001)] } }
       (fun t => t.disp.intake = [] ∧ t.disp.held = [{ slot := 5, claimed := none, released := none }]) = true) ∧
    -- slotCancelPosted
    (slotState (access (ordered 1 [] base)) 0 = .posted ∧ (access (ordered 1 [] base)).MemsWf ∧
     gives (.slotCancelPosted 0) (ordered 1 [] base)
       (fun t => Finished t 0 { outcome := .cancelled } ∧ t.disp.intake = []) = true) ∧
    -- slotCancelTaken_store
    (let u := access (storing .validate)
     u.MemsWf ∧ blocksRun u = true ∧ slotState u 3 = .taken ∧ heldOf u 3 = none ∧ ownerBlock u 3 = some .store ∧
     gives (.slotCancelTaken 3) (storing .validate)
       (fun t => Finished t 3 { outcome := .cancelled } ∧ t.store.phase = .idle) = true ∧
     gives (.slotCancelTaken 3) (storing .erase) (fun t => slotState t 3 = .cancel ∧ t.store.phase = .erase) = true) ∧
    -- slotCancelTaken_water
    (let u := access (filling { slot := 3, target := 9, pulses := 45, valve := .on })
     slotState u 3 = .taken ∧ ownerBlock u 3 = some .water ∧ NoneWaitsBut u 7 ∧ heldOf u 3 = none ∧
     gives (.slotCancelTaken 3) (filling { slot := 3, target := 9, pulses := 45, valve := .on })
       (fun t => Finished t 3 { outcome := .cancelled, r0 := 1 } ∧ (outlet t 7).state = .off ∧ t.water.fill = none) = true) ∧
    -- slotCancelTaken_mover
    (let u := access (moving outMove)
     ownerBlock u 3 = some .movers ∧ moverOf u 3 = some .awning ∧ MoveInHand u .awning outMove .cancelled ∧
     gives (.slotCancelTaken 3) (moving outMove) (fun t => MoveEnded u t .awning outMove .cancelled) = true) ∧
    -- slotCancelTaken_lights
    (let u := access ramping
     ownerBlock u 3 = some .lights ∧ (outlet u (lightOutlet 0)).demand.isSome = true ∧
     gives (.slotCancelTaken 3) ramping
       (fun t => Finished t 3 { outcome := .cancelled, r0 := 1 } ∧ (channel t 0).target = 200 ∧ (channel t 0).owner = none ∧
         t.outlets = u.outlets) = true) ∧
    -- slotCancelLate
    (slotState (access (owned 5 .water base)) 3 = .failed ∧
     gives (.slotCancelLate 3) (owned 5 .water base) (fun t => slotState t 3 = .failed ∧ t.port.valid = false) = true) ∧
    -- slotGiveBack
    (gives (.slotGiveBack 3) { owned 4 .water base with port := { base.port with autoClr := true, notice := 2 } }
       (fun t => slotState t 3 = .empty ∧ t.port.notice = 0) = true) :=
  ⟨by decide +kernel, by decide +kernel, by decide +kernel, by decide +kernel, by decide +kernel, by decide +kernel, by decide +kernel, by decide +kernel⟩
theorem test_slotStateFault_to_attnEn :
    -- slotStateFault
    (slotState (access base) 0 = .empty ∧
     gives (.slotStateFault 0 3) base (fun t => t.sansDigest = (captured .slotState 0 (access base)).sansDigest) = true) ∧
    -- sceneWrite
    (gives (.sceneWrite 31 15 7)
       { base with lights := { base.lights with cache := base.lights.cache.set 2 { scene := 31, valid := true } } }
       (fun t => t.ram.scenes = [(0x5FF, 7)] ∧ (cacheEntry t 2).valid = false) = true) ∧
    -- stagingWrite
    (gives (.stagingWrite 0x6FF 7) base (fun t => t.ram.staging = [(0x6FF, 7)]) = true ∧
     gives (.stagingWrite 0xFFF 7) base (fun t => t.ram.window = [(0xFFF, 7)]) = true) ∧
    -- digestWrite
    (gives (.digestWrite 0x3FF 7) base (fun t => t.port.kind = 2 ∧ t.port.addr = 0x3FF ∧ Noticed t .port 0) = true) ∧
    -- unmappedWrite
    (gives (.unmappedWrite 0x7FF 7) base (fun t => t.port.kind = 1 ∧ t.port.valid = true) = true) ∧
    -- registerWrite
    (gives (.registerWrite 0x1005 7) { base with port := { base.port with valid := true, kind := 1 } }
       (fun t => t.port.kind = 1 ∧ t.port.further = true) = true) ∧
    -- restart
    (Word.nat 0x8000 = 0x8000#16 ∧ base.pins.reset = false ∧
     gives (.restart 0x8003) (owned 2 .water base)
       (fun t => t.charge.power = .starting ∧ t.port.mask = 1 ∧ t.port.attnEn = false ∧ slotWord t 3 0 = 5 ∧
         slotWord t 3 11 = 23 ∧ t.port.notice = 2) = true) ∧
    -- attnEn
    (gives (.attnEn 1) { base with port := { base.port with notice := 1 } } (fun t => attn t = true) = true) :=
  ⟨by decide +kernel, by decide +kernel, by decide +kernel, by decide +kernel, by decide +kernel, by decide +kernel, by decide +kernel, by decide +kernel⟩
theorem test_ordAutoclr_to_noticeMask :
    -- ordAutoclr
    (gives (.ordAutoclr 2) base (fun t => t.port.autoClr = true ∧ t.port.attnEn = false) = true) ∧
    -- noticeClear
    (gives (.noticeClear 0x200) { base with port := { base.port with notice := 0x201, valid := true, kind := 2, addr := 5 } }
       (fun t => t.port.notice = 1 ∧ t.port.valid = false ∧ t.port.addr = 0) = true) ∧
    -- noticeMask
    (gives (.noticeMask 0xFFFF) base (fun t => t.port.mask = 0x3FF) = true) :=
  ⟨by decide +kernel, by decide +kernel, by decide +kernel⟩

/-! ### Start and restart -/

theorem test_powerOn_to_linkStartQuiet :
    -- powerOn
    (gives .powerOn (owned 2 .water base)
     (fun t => t.ram = {} ∧ t.charge.power = .starting ∧ t.charge.tally.charge = 50000) = true) ∧
    -- resetAssert
    (gives (.resetAssert true) (lit 8 8000 base)
     (fun t => t.pins.reset = true ∧ (outlet t 8).state = .off ∧ t.ram.digest = [(0x200, 1)]) = true) ∧
    -- resetAssert_held
    (gives (.resetAssert false) (setHeld 1 true (lit 1 500 base)) (fun t => (outlet t 1).state = .on ∧ (outlet t 1).charge = 500) = true
     ∧ gives (.resetAssert false) (held3 base) (fun t => t = held3 base) = true) ∧
    -- resetRelease
    ((held3 (owned 2 .water base)).MemsWf ∧ (held3 base).pins.reset = true ∧
     gives .resetRelease (held3 (owned 2 .water base))
       (fun t => t.pins.reset = false ∧ slotWord t 3 0 = 5 ∧ slotWord t 3 11 = 23 ∧ t.store.result = .blank) = true) ∧
    -- startComplete
    (State.reset.charge.power = .starting ∧ State.reset.pins.reset = false ∧
     gives .startComplete State.reset (fun t => t.charge.power = .active ∧ t.port.notice = 1 ∧ Noticed t .start 0 ∧
       Noticed t .start 2) = true) ∧
    -- linkStartQuiet
    (base.link.phase = .startQuiet ∧
     gives (.linkStartQuiet 4) base (fun t => t.link.phase = .idle ∧ (node t 0).due = some 4) = true ∧
     gives (.linkStartQuiet 4) State.reset (fun t => t.link.phase = .idle ∧ (node t 0).due = none) = true) :=
  ⟨by decide +kernel, by decide +kernel, by decide +kernel, by decide +kernel, by decide +kernel, by decide +kernel⟩

/-! ### Orders -/

def tripped (o : Fin 16) (d : Option Demand) (s : State) : State :=
  setOutlet o { outlet s o with state := .tripped, demand := d } s
/-- One staged term: ENGINE_RUN is 0 inhibits AUX. -/
def staged (target : Word) (s : State) : State :=
  { s with ram := { s.ram with staging := [(0x600, 1), (0x601, 0x002), (0x609, 1), (0x60A, target)] } }
def pumpAt (p : Pump) (s : State) : State := { s with water := { s.water with pump := p } }
def tank (l : Nat) (s : State) : State := { s with water := { s.water with fresh := some l } }
def dumped (x : Option Int) (s : State) : State :=
  let s := setHeld 1 true (lit 1 500 s)
  { s with water := { s.water with frost := { temp := x, stage := .dump, latch := true } }
           retained := { s.retained with latch := true } }
/-- The sequencer in a state, with the outlet controller and the signal told of it. -/
def sequencing (q : Sequencer) (s : State) : State :=
  { s with
    climate := { s.climate with seq := q }
    outlets := { s.outlets with heater := q.state }
    interlock := { s.interlock with signals := s.interlock.signals.set 12 (if q.state.active then 1 else 0) } }
def parked (m : Mover) (x : MoverRec) (s : State) : State := setMover m x s
/-- The move of slot 3 in hand, and slot 0 posted beside it. -/
def stopping : State :=
  let s := moving outMove
  { s with ram := { s.ram with slots := slotCells 0 1 0x41 0xFFFF [0] ++ slotCells 3 2 0x40 0xFFFF [] }
           disp := { s.disp with intake := [0] } }
def lamps (s : State) : State := lit 11 1500 (lit 10 1500 s)
def sceneCells (n : Nat) (l : List Word) : Mem := ((List.range l.length).map fun i => (0x400 + 16 * n + i, l.getD i 0)).filter fun c => c.2 != 0
def servicing (b : Bool) (s : State) : State := { s with pins := { s.pins with service := b } }
theorem test_badKind_to_auxSet_off :
    -- badKind
    (let s := ordered 0xFF [] base
     s.MemsWf ∧ blocksRun s = true ∧ nextSlot s = some 0 ∧ kindOf s 0 = none ∧
     gives .badKind s (fun t => Finished t 0 { outcome := .badKind }) = true) ∧
    -- badParam
    (let s := ordered 0x31 [3, 0, 9] base
     kindOf s 0 = some .zoneSet ∧ badParam .zoneSet s 0 = some 0 ∧
     gives .zoneSet s (fun t => Finished t 0 { outcome := .badParam }) = true ∧
     badParam .lightSet (ordered 0x51 [5, 1000, 10001] base) 0 = some 2) ∧
    -- chainInvalid
    (let s := { ordered 0x10 [1] base with
       ram := { base.ram with slots := slotCells 0 1 0x10 31 [1] } }
     badParam .auxSet s 0 = none ∧ followCheck (takeSlot 0 s) 0 = .bad 2 ∧
     gives .auxSet s (fun t => Finished t 0 { outcome := .chainInvalid, r0 := 2 }) = true) ∧
    -- chargeSet
    (let s := ordered 0x01 [0x86A0, 1] base
     s.MemsWf ∧ Dispatches s 0 .chargeSet ∧
     gives .chargeSet s (fun t => t.charge.tally.charge = 100000 ∧ t.charge.tally.synced = true ∧
       Finished t 0 { outcome := .ok, r0 := 1000, r1 := 0 }) = true) ∧
    -- shedFloor
    (let s := ordered 0x02 [3] base
     s.MemsWf ∧ Dispatches s 0 .shedFloor ∧
     gives .shedFloor s (fun t => t.charge.hostFloor = 3 ∧ t.charge.shedLevel = 3 ∧ t.outlets.shedLevel = 3 ∧
       Finished t 0 { outcome := .ok, r0 := 3 }) = true ∧
     gives .shedFloor (setChannel 0 { output := 500, target := 0 } (lit 10 1500 s)) (fun t => (outlet t 10).state = .off ∧
       (outlet t 10).demand = none ∧ (channel t 0).output = 0) = true) ∧
    -- restNow
    (let s := ordered 0x03 [] base
     Dispatches s 0 .restNow ∧ idleBroken s = 0 ∧ idleBroken (lit 8 8000 s) = 3 ∧ Dispatches (asleep s) 0 .restNow ∧
     Dispatches (lit 8 8000 s) 0 .restNow ∧
     gives .restNow s (fun t => t.charge.power = .rest ∧ (node t 0).scaled = true ∧ Finished t 0 { outcome := .ok }) = true ∧
     gives .restNow (lit 8 8000 s) (fun t => Finished t 0 { outcome := .notPermitted, r0 := 3 }) = true ∧
     gives .restNow (asleep s) (fun t => Finished t 0 { outcome := .ok }) = true) ∧
    -- auxSet_on
    (let s := ordered 0x10 [1] base
     s.MemsWf ∧ Dispatches s 0 .auxSet ∧ slotWord s 0 3 = 1 ∧ WouldGrant s 8 ∧
     gives .auxSet s (fun t => Finished t 0 { outcome := .ok, r0 := 2 } ∧ (outlet t 8).state = .on ∧ OwnersKept s t ∧
       OtherOutletsKept s t 8) = true) ∧
    -- auxSet_off
    (let s := lit 8 8000 (ordered 0x10 [0] base)
     Dispatches s 0 .auxSet ∧ slotWord s 0 3 = 0 ∧ (outlet s 8).state = .on ∧ NoneWaitsBut s 8 ∧
     gives .auxSet s (fun t => Finished t 0 { outcome := .ok } ∧ (outlet t 8).state = .off ∧ OwnersKept s t ∧
       OtherOutletsKept s t 8) = true) :=
  ⟨by decide +kernel, by decide +kernel, by decide +kernel, by decide +kernel, by decide +kernel, by decide +kernel, by decide +kernel, by decide +kernel⟩
theorem test_tripClear_to_pumpReset_refused :
    -- tripClear
    (let s := tripped 15 none (ordered 0x11 [15] base)
     let u := tripped 8 (some { charge := 8000 }) (ordered 0x11 [8] base)
     Dispatches s 0 .tripClear ∧ (outlet s 15).state = .tripped ∧ (outlet s 15).demand = none ∧ Dispatches u 0 .tripClear ∧
     (outlet u 8).inhibit = 0 ∧ classShed (configuredClass u 8) u.outlets.shedLevel = false ∧ ratedOf u 8 = 8000 ∧
     grantedTotal u + ratedOf u 8 ≤ u.outlets.limit ∧
     gives .tripClear s (fun t => Finished t 0 { outcome := .ok } ∧ (outlet t 15).state = .off) = true ∧
     gives .tripClear u (fun t => Finished t 0 { outcome := .ok, r0 := 2, r1 := 8000 } ∧ (outlet t 8).state = .on) = true) ∧
    -- tripClear_rest
    (let s := asleep (setChannel 0 { target := 500 } (tripped 10 (some { charge := 1500 }) (ordered 0x11 [10] base)))
     Dispatches s 0 .tripClear ∧
     gives .tripClear s (fun t => Finished t 0 { outcome := .ok, r0 := 2, r1 := 1500 } ∧ (outlet t 10).state = .off ∧
       (channel t 0).target = 0 ∧ Noticed t .lights 2) = true) ∧
    -- tripClear_refused
    (let s := ordered 0x11 [0] base
     Dispatches s 0 .tripClear ∧ (outlet s 0).state ≠ .tripped ∧
     gives .tripClear s (fun t => Finished t 0 { outcome := .notPermitted }) = true) ∧
    -- termsLoad
    (let s := staged 8 (ordered 0x18 [1] base)
     Dispatches s 0 .termsLoad ∧ stagingCheck s 0 1 = none ∧ s.MemsWf ∧
     gives .termsLoad s (fun t => Finished t 0 { outcome := .ok, r0 := 1, r1 := 1 } ∧ t.interlock.terms.length = 1 ∧
       (outlet t 8).inhibit = 1) = true) ∧
    -- termsLoad_bad
    (let s := staged 16 (ordered 0x18 [1] base)
     Dispatches s 0 .termsLoad ∧ stagingCheck s 0 1 = some (0, 7, 10) ∧
     gives .termsLoad s (fun t => Finished t 0 { outcome := .badParam, r0 := 0, r1 := 7, r2 := 10 }) = true) ∧
    -- pumpMode
    (let s := lit 0 6000 (pumpAt { auto := true, state := .running } (ordered 0x20 [0] base))
     Dispatches s 0 .pumpMode ∧ slotWord s 0 3 = 0 ∧ s.water.pump.auto = true ∧ (outlet s 0).state = .on ∧ NoneWaitsBut s 0 ∧
     gives .pumpMode s (fun t => Finished t 0 { outcome := .ok } ∧ t.water.pump.state = .idle ∧ (outlet t 0).state = .off) = true) ∧
    -- pumpReset
    (let s := ordered 0x21 [] (pumpAt { auto := false, state := .dry, cause := .runLimit } base)
     let u := ordered 0x21 [] (pumpAt { auto := true, state := .dry, cause := .runLimit }
       { base with pins := { base.pins with pressureLow := { raw := true, level := true } } })
     Dispatches s 0 .pumpReset ∧ s.water.pump.state = .dry ∧ (outlet s 0).state ≠ .tripped ∧ Dispatches u 0 .pumpReset ∧
     pumpLow u = false ∧ WouldGrant u 0 ∧
     gives .pumpReset s (fun t => Finished t 0 { outcome := .ok } ∧ t.water.pump.state = .idle) = true ∧
     gives .pumpReset u (fun t => Finished t 0 { outcome := .ok, r0 := 1 } ∧ t.water.pump.state = .running) = true) ∧
    -- pumpReset_refused
    (let s := ordered 0x21 [] base
     let u := tripped 0 none (ordered 0x21 [] (pumpAt { auto := true, state := .dry, cause := .tripped } base))
     Dispatches s 0 .pumpReset ∧ s.water.pump.state ≠ .dry ∧ Dispatches u 0 .pumpReset ∧ (outlet u 0).state = .tripped ∧
     gives .pumpReset s (fun t => Finished t 0 { outcome := .notPermitted, r0 := 1 }) = true ∧
     gives .pumpReset u (fun t => Finished t 0 { outcome := .notPermitted, r0 := 2, r1 := 5 }) = true) :=
  ⟨by decide +kernel, by decide +kernel, by decide +kernel, by decide +kernel, by decide +kernel, by decide +kernel, by decide +kernel, by decide +kernel⟩
theorem test_fill_to_heaterClear :
    -- fill
    (let s := ordered 0x22 [1000, 0] base
     Dispatches s 0 .fill ∧ s.water.fill = none ∧ sigVal s .drainOpen ≠ 1 ∧ s.water.frost.stage = .watch ∧
     freshFull s = false ∧ WouldGrant s 7 ∧ Dispatches (tank 980 s) 0 .fill ∧ freshFull (tank 980 s) = true ∧
     gives .fill s (fun t => slotState t 0 = .taken ∧ (outlet t 7).state = .on ∧
       t.water.fill = some { slot := 0, target := 1000, valve := .on }) = true ∧
     gives .fill (tank 980 s) (fun t => Finished t 0 { outcome := .ok, r2 := 1 } ∧ t.water.fill = none) = true) ∧
    -- fill_refused
    (let s := ordered 0x22 [1, 0] base
     let b : State := { s with water := { s.water with fill := some { slot := 3, target := 9 } } }
     let d : State := { s with interlock := { s.interlock with signals := s.interlock.signals.set 9 1 } }
     let h : State := { s with water := { s.water with frost := { stage := .heat } } }
     Dispatches b 0 .fill ∧ sigVal d .drainOpen = 1 ∧ Dispatches d 0 .fill ∧ Dispatches h 0 .fill ∧
     gives .fill b (fun t => Finished t 0 { outcome := .busy, r0 := 3 }) = true ∧
     gives .fill d (fun t => Finished t 0 { outcome := .notPermitted, r0 := 1 }) = true ∧
     gives .fill h (fun t => Finished t 0 { outcome := .notPermitted, r0 := 2, r1 := 2 }) = true) ∧
    -- drainDump
    (let s := ordered 0x23 [] base
     Dispatches s 0 .drainDump ∧ s.MemsWf ∧
     gives .drainDump s (fun t => Finished t 0 { outcome := .ok, r0 := 2 } ∧ t.water.frost.stage = .dump ∧
       t.water.frost.latch = true ∧ (outlet t 1).held = true ∧ t.overrun = false ∧ (outlet t 0).inhibit = 1) = true) ∧
    -- drainClose
    (let s := dumped (some 31) (ordered 0x24 [] base)
     Dispatches s 0 .drainClose ∧ Image.padThreshold (cfg s) = 30 ∧
     gives .drainClose s (fun t => Finished t 0 { outcome := .ok } ∧ t.water.frost.stage = .watch ∧
       t.water.frost.latch = false ∧ (outlet t 1).state = .off ∧ Noticed t .water 6) = true) ∧
    -- drainClose_refused
    (let s := ordered 0x24 [] base
     Dispatches s 0 .drainClose ∧ Dispatches (dumped none s) 0 .drainClose ∧ Dispatches (dumped (some 30) s) 0 .drainClose ∧
     gives .drainClose s (fun t => Finished t 0 { outcome := .ok }) = true ∧
     gives .drainClose (dumped none s) (fun t => Finished t 0 { outcome := .notPermitted, r0 := 1 }) = true ∧
     gives .drainClose (dumped (some 30) s) (fun t => Finished t 0 { outcome := .notPermitted, r0 := 2, r1 := 30 }) = true) ∧
    -- climateMode
    (let s := ordered 0x30 [2] base
     Dispatches s 0 .climateMode ∧ gives .climateMode s (fun t => t.climate.mode = .auto ∧ Finished t 0 { outcome := .ok }) = true) ∧
    -- zoneSet
    (let s := ordered 0x31 [2, 300, 1] base
     let f : State := { s with climate := { s.climate with frost := true } }
     Dispatches s 0 .zoneSet ∧ Dispatches f 0 .zoneSet ∧
     gives .zoneSet s (fun t => (zone t 2).target = 300 ∧ (zone t 2).on = true ∧ Finished t 0 { outcome := .ok }) = true ∧
     gives .zoneSet f (fun t => (zone t 2).target = 80 ∧ (zone t 2).hostTarget = 300) = true) ∧
    -- heaterClear
    (let s := sequencing { state := .lockedOut, failed := 2, lockout := true } (ordered 0x32 [] base)
     Dispatches s 0 .heaterClear ∧ sigVal s .heaterActive = 0 ∧ s.outlets.heater = .lockedOut ∧
     (recordOf s .heater).isSome = true ∧ s.link.phase ≠ .idle ∧
     gives .heaterClear s (fun t => (seq t).state = .off ∧ (seq t).clearPending = true ∧
       t.link.heater = some (.single .clearFault) ∧ Finished t 0 { outcome := .ok }) = true ∧
     gives .heaterClear (ordered 0x32 [] base) (fun t => Finished t 0 { outcome := .notPermitted }) = true) :=
  ⟨by decide +kernel, by decide +kernel, by decide +kernel, by decide +kernel, by decide +kernel, by decide +kernel, by decide +kernel, by decide +kernel⟩
theorem test_move_to_sceneRecall_refused :
    -- move
    (let s := parked .awning { state := .partialOut, position := 100, known := true } (ordered 0x40 [0, 0, 0xFFFF, 0, 0, 0xFFFF] base)
     Dispatches s 0 .move ∧ moverArg s 0 = .awning ∧ dirArg s 0 = .out ∧ reached (mover s .awning) (hostMove 0 s) = false ∧
     sigVal s .awningStowed = 0 ∧ Quiet s .awningStowed 0 ∧ (outlet s 5).state = .off ∧
     classShed (configuredClass s 5) s.outlets.shedLevel = false ∧ grantedTotal s + bridgeCharge .awning ≤ s.outlets.limit ∧
     gives .move s (fun t => (mover t .awning).state = .movingOut ∧ t.movers.owner = some .awning ∧ t.outlets.duty = 800 ∧
       (outlet t 5).charge = 18000 ∧ slotState t 0 = .taken) = true) ∧
    -- move_fromStowed
    (let s := parked .awning { state := .stowed, known := true } (ordered 0x40 [0, 0, 0xFFFF, 0, 0, 0xFFFF] base)
     let s : State := { s with interlock := { s.interlock with signals := s.interlock.signals.set 13 1 } }
     sigVal s .awningStowed = 1 ∧ Quiet s .awningStowed 0 ∧
     gives .move s (fun t => (mover t .awning).state = .movingOut ∧ sigVal t .awningStowed = 0) = true) ∧
    -- move_refused
    (let s := ordered 0x40 [1, 0, 600, 0, 0, 0xFFFF] base
     let k := parked .step { state := .stowed, known := true } s
     let b : State := { k with interlock := { k.interlock with blockStep := 2 } }
     let h : State := { k with movers := { k.movers with owner := some .awning } }
     let m := parked .step { state := .movingIn, known := true, move := some outMove } s
     Dispatches s 0 .move ∧ Dispatches b 0 .move ∧ Dispatches h 0 .move ∧ Dispatches m 0 .move ∧
     gives .move s (fun t => Finished t 0 { outcome := .positionUnknown }) = true ∧
     gives .move b (fun t => Finished t 0 { outcome := .interlocked, r0 := 2 }) = true ∧
     gives .move h (fun t => Finished t 0 { outcome := .bridgeHeld }) = true ∧
     gives .move m (fun t => Finished t 0 { outcome := .busy, r0 := 3 }) = true) ∧
    -- moverStop
    (Dispatches stopping 0 .moverStop ∧ moverArg stopping 0 = .awning ∧
     MoveInHand stopping .awning outMove .stopped ∧ outMove.tag ≠ .host 0 ∧
     gives .moverStop stopping (fun t => MoveEnded stopping t .awning outMove .stopped ∧
       Finished t 0 { outcome := .ok, r0 := 1, r1 := 2, r2 := 900 }) = true) ∧
    -- moverStop_idle
    (let s := ordered 0x41 [1] base
     Dispatches s 0 .moverStop ∧ (mover s .step).move = none ∧
     gives .moverStop s (fun t => Finished t 0 { outcome := .ok, r2 := 0xFFFF }) = true) ∧
    -- sceneRecall
    (let s := lamps (ordered 0x50 [31] base)
     let s : State := { s with ram := { s.ram with scenes := sceneCells 31 [700, 300, 0xFFFF, 0xFFFF, 0xFFFF, 0xFFFF, 100] } }
     let l := Mem.readList 0 s.ram.scenes (0x400 + 16 * 31) 16
     Dispatches s 0 .sceneRecall ∧ cacheOf s 31 = none ∧ offending l = none ∧ Applicable s l ∧
     gives .sceneRecall s (fun t => Applied s t l 0 ∧ (channel t 0).rampStep = 70 ∧ cacheOf t 31 = some 0) = true) ∧
    -- sceneRecall_cached
    (let e : CacheEntry := { scene := 31, valid := true, copy := [700, 0xFFFF, 0xFFFF, 0xFFFF, 0xFFFF, 0xFFFF, 0] ++ List.replicate 9 0 }
     let s := lamps (ordered 0x50 [31] { base with lights := { base.lights with cache := base.lights.cache.set 7 e } })
     Dispatches s 0 .sceneRecall ∧ cacheOf s 31 = some 7 ∧ Applicable s (cacheEntry s 7).copy ∧
     gives .sceneRecall s (fun t => Applied s t e.copy 0) = true) ∧
    -- sceneRecall_refused
    (let s := ordered 0x50 [0] base
     let b : State := { s with ram := { s.ram with scenes := [(0x405, 1001)] } }
     Dispatches (asleep s) 0 .sceneRecall ∧ Dispatches b 0 .sceneRecall ∧ cacheOf b 0 = none ∧
     offending (Mem.readList 0 b.ram.scenes 0x400 16) = some 5 ∧
     gives .sceneRecall (asleep s) (fun t => Finished t 0 { outcome := .notPermitted, r0 := 1 }) = true ∧
     gives .sceneRecall b (fun t => Finished t 0 { outcome := .badParam, r0 := 5, r1 := 1 }) = true) :=
  ⟨by decide +kernel, by decide +kernel, by decide +kernel, by decide +kernel, by decide +kernel, by decide +kernel, by decide +kernel, by decide +kernel⟩
theorem test_lightSet_to_settingsStore :
    -- lightSet
    (let s := lamps (ordered 0x51 [1, 1000, 10000] base)
     let l := lightSetWords 1 1000 10000
     Dispatches s 0 .lightSet ∧ Applicable s l ∧ Dispatches (asleep s) 0 .lightSet ∧
     gives .lightSet s (fun t => Applied s t l 0 ∧ (channel t 1).rampStep = 1) = true ∧
     gives .lightSet (asleep s) (fun t => Finished t 0 { outcome := .notPermitted, r0 := 1 }) = true) ∧
    -- settingsFetch
    (let s := ordered 0x60 [] base
     let s : State := { s with ram := { s.ram with window := [(0x800, 9), (0xA00, 9), (0xA01, 9)] } }
     s.MemsWf ∧ Dispatches s 0 .settingsFetch ∧
     gives .settingsFetch s (fun t => Mem.read 0 t.ram.window 0x803 = 14200 ∧ Mem.read 0 t.ram.window 0xA01 = 9 ∧
       slotWord t 0 12 = 0 + 1 ∧ slotWord t 0 14 = Mem.read 0 t.ram.window 0xA00) = true) ∧
    -- settingsStore
    (let s := ordered 0x61 [] base
     let u : State := servicing true { s with ram := { s.ram with window := [(0x800, 1), (0xA00, 9), (0xA01, 8)] } }
     let b : State := { s with store := { s.store with slot := some 3 } }
     Dispatches s 0 .settingsStore ∧ Dispatches u 0 .settingsStore ∧ Dispatches b 0 .settingsStore ∧
     gives .settingsStore u (fun t => t.store.buffer = [(0, 1), (0x200, 9)] ∧ t.store.phase = .validate ∧
       slotState t 0 = .taken) = true ∧
     gives .settingsStore s (fun t => Finished t 0 { outcome := .locked }) = true ∧
     gives .settingsStore b (fun t => Finished t 0 { outcome := .busy, r0 := 3 }) = true) :=
  ⟨by decide +kernel, by decide +kernel, by decide +kernel⟩

/-! ### Settings store -/

def buffered (x : StorePhase) (i : Image) : State :=
  let s := storing x
  { s with store := { s.store with buffer := i } }
theorem test_validateEnd_to_verifyEnd :
    -- validateEnd
    (let s := buffered .validate Image.default
     let b := buffered .validate [(0, 1)]
     s.MemsWf ∧ blocksRun s = true ∧ s.store.slot = some 3 ∧ heldOf s 3 = none ∧ Image.validate s.store.buffer = none ∧
     Image.validate b.store.buffer = some (1, 0) ∧ (servicing false s).store.phase = .validate ∧
     gives .validateEnd s (fun t => t.store.phase = .erase ∧ flashWord t.store.flash 0 = 0xFFFF) = true ∧
     gives .validateEnd b (fun t => Finished t 3 { outcome := .invalidImage, r0 := 1 }) = true ∧
     gives .validateEnd (servicing false s) (fun t => Finished t 3 { outcome := .locked, r0 := 1 }) = true) ∧
    -- eraseEnd
    ((storing .erase).MemsWf ∧ blocksRun (storing .erase) = true ∧ heldOf (storing .erase) 3 = none ∧
     gives (.eraseEnd true) (storing .erase) (fun t => t.store.phase = .program) = true ∧
     gives (.eraseEnd false) (storing .erase) (fun t => Finished t 3 { outcome := .flashFault, r0 := 1 }) = true) ∧
    -- eraseTimeout
    (gives .eraseTimeout (storing .erase)
     (fun t => Finished t 3 { outcome := .flashFault, r0 := 1 } ∧ t.store.phase = .idle) = true) ∧
    -- programEnd
    ((buffered .program [(0, 1)]).MemsWf ∧
     gives (.programEnd true) (buffered .program [(0, 1)])
       (fun t => t.store.phase = .verify ∧ flashWord t.store.flash 0 = 1 ∧ flashWord t.store.flash 0x200 = 0) = true ∧
     gives (.programEnd false) (storing .program) (fun t => Finished t 3 { outcome := .flashFault, r0 := 2 }) = true) ∧
    -- programTimeout
    (gives .programTimeout (storing .program)
     (fun t => Finished t 3 { outcome := .flashFault, r0 := 2 }) = true) ∧
    -- verifyEnd
    (let s := buffered .verify [(0, 1), (0x200, 7)]
     differences s.store.buffer [⟨0x200, 7⟩] = [] ∧ differences s.store.buffer [⟨0x200, 7⟩, ⟨0x1FF, 5⟩] = [⟨0x1FF, 5⟩] ∧
     gives (.verifyEnd []) s (fun t => Finished t 3 { outcome := .ok, r0 := 7 } ∧ t.store.phase = .idle) = true ∧
     gives (.verifyEnd [⟨0x1FF, 5⟩]) s (fun t => Finished t 3 { outcome := .flashFault, r0 := 3, r1 := 0x1FF }) = true) :=
  ⟨by decide +kernel, by decide +kernel, by decide +kernel, by decide +kernel, by decide +kernel, by decide +kernel⟩

/-! ### Pins -/

def edged (i : FilteredInput) (b : Bool) (s : State) : State := setLine i { lineOf s i with raw := b } s
theorem test_serviceInput_to_vehicleInput_shore :
    -- serviceInput
    (gives (.serviceInput true) base (fun t => t.pins.service = true) = true) ∧
    -- filteredInputEdge
    (gives (.filteredInputEdge (.vehicle .door) true) base
     (fun t => t.pins.door = { raw := true, level := false }) = true) ∧
    -- windPulse
    (gives .windPulse base (fun t => t.movers.windPulses = 1) = true) ∧
    -- vehicleInput
    (let s := edged (.vehicle .ignition) true (asleep base)
     (lineOf s (.vehicle .ignition)).raw = true ∧ (lineOf s (.vehicle .ignition)).level ≠ true ∧
     gives (.vehicleInput .ignition true) s (fun t => t.charge.power = .active ∧ sigVal t .ignition = 1 ∧
       t.interlock.blockStep = 1 ∧ t.movers.step.move.isSome = true) = true) ∧
    -- vehicleInput_shore
    (let s := setLine (.vehicle .shorePresent) { raw := false, level := true } base
     (lineOf s (.vehicle .shorePresent)).level ≠ false ∧
     gives (.vehicleInput .shorePresent false) s (fun t => t.charge.shore = false ∧ t.charge.shedLevel = 1 ∧
       t.charge.limit = 60000 ∧ Noticed t .energy 6) = true ∧
     gives (.vehicleInput .engineRun true) (edged (.vehicle .engineRun) true (waking base))
       (fun t => t.charge.alternator = true ∧ t.charge.limit = 96000 ∧ Noticed t .energy 6 ∧ (outlet t 6).demand = none) = true) ∧
    -- vehicleInput_shore_starting: R51, R56 with R101
    (let b := waking base
     let s := setLine (.vehicle .shorePresent) { raw := false, level := true }
       { b with interlock := { b.interlock with evaluated := false } }
     gives (.vehicleInput .shorePresent false) s (fun t => t.charge.power = .starting ∧ t.charge.shore = false ∧
       t.charge.shedLevel = 1 ∧ t.outlets.shedLevel = 1 ∧ sigVal t .shedLevel = 1 ∧ t.outlets.limit = 60000 ∧
       Noticed t .energy 6 ∧ Noticed t .energy 0) = true) :=
  ⟨by decide +kernel, by decide +kernel, by decide +kernel, by decide +kernel, by decide +kernel, by decide +kernel⟩

/-! ### Second close -/

def counted (f : Tally → Tally) (s : State) : State := setTally f s
/-- Record 0 (FRESH, every 2 s) with a reading six seconds old. -/
def aged : State := setNode 0 { state := .present, reading := some [500], age := 6, stale := false, due := some 0 } base
def windy (f : Movers → Movers) (s : State) : State := { s with movers := f s.movers }
theorem test_secondClose_to_windHighClear :
    -- secondClose
    (let l := samples 12800 5000
     gives (.secondClose l) base (fun t => t.time = 1 ∧ t.charge.tally.charge = 50001 ∧ t.charge.tally.acc = 1400 ∧
       t.charge.volts = 12800 ∧ t.charge.amps = 5000 ∧ t.charge.idle = 1 ∧ t.charge.shedLevel = shedOf t) = true) ∧
    -- fullSync
    (let l := samples 14200 2000
     let s := counted (fun t => { t with fullCount := 599 }) base
     meetsFull l s = true ∧ meetsEmpty l s = false ∧ (recordOf s .solar).isSome = true ∧ s.link.phase ≠ .idle ∧
     meetsFull l base = false ∧
     gives (.fullSync l) s (fun t => t.charge.tally.charge = 100000 ∧ t.charge.tally.synced = true ∧ t.charge.tally.fullCount = 600 ∧
       t.link.solar = true ∧ Noticed t .energy 4) = true ∧
     gives (.fullSync l) base (fun t => t.time = 0) = true) ∧
    -- emptySync
    (let l := samples 11800 (-5000)
     let s := counted (fun t => { t with emptyCount := 59 }) base
     meetsEmpty l s = true ∧ meetsEmpty l base = false ∧
     gives (.emptySync l) s (fun t => t.charge.tally.charge = 0 ∧ t.charge.tally.emptyCount = 60 ∧ Noticed t .energy 5) = true) ∧
    -- voltageFloor
    (let s : State := { base with charge := { base.charge with floorEntry := 9 } }
     let u : State := { base with charge := { base.charge with floor := true, floorExit := 59, shedLevel := 3 } }
     meetsFloorEntry (samples 11600 0) s = true ∧ meetsFloorExit (samples 12400 0) u = true ∧
     meetsFloorEntry (samples 11601 0) s = false ∧ meetsFloorExit (samples 12399 0) u = false ∧
     gives (.voltageFloorEntry (samples 11600 0)) s (fun t => t.charge.floor = true ∧ t.charge.shedLevel = 3 ∧
       t.outlets.shedLevel = 3 ∧ Noticed t .energy 1) = true ∧
     gives (.voltageFloorExit (samples 12400 0)) u (fun t => t.charge.floor = false ∧ t.charge.shedLevel = 0) = true) ∧
    -- restEntry
    (let l := samples 12800 0
     let s := setIdle 1799 base
     meetsRest s = true ∧ meetsFull l s = false ∧ meetsEmpty l s = false ∧ meetsFloorEntry l s = false ∧
     meetsFloorExit l s = false ∧ windCrossed s = false ∧ s.charge.shedLevel = 0 ∧ s.charge.shore = true ∧
     gives (.restEntry l) s (fun t => t.charge.power = .rest ∧ t.charge.idle = 0 ∧ Noticed t .energy 2 ∧
       (node t 7).scaled = true) = true) ∧
    -- readingStale
    (meetsStale 0 aged = true ∧ (node aged 0).age < 65535 ∧
     aged.charge.idle + 1 < Image.restDelay (cfg aged) ∧ meetsStale 0 base = false ∧
     gives (.readingStale 0 (samples 12800 0)) (tank 500 aged)
       (fun t => (node t 0).stale = true ∧ (node t 0).age = 7 ∧ t.water.fresh = none) = true) ∧
    -- windHigh
    (let l := samples 12800 0
     let s := windy (fun v => { v with windPulses := 28, windSet := 4 }) base
     let u := windy (fun v => { v with windPulses := 27, windClear := 59, windHigh := true }) base
     meetsWindSet s = true ∧ meetsWindClear u = true ∧
     gives (.windHighSet l) s (fun t => t.movers.windHigh = true ∧ t.movers.windSpeed = 40 ∧ t.movers.windPulses = 0 ∧
       sigVal t .windHigh = 1 ∧ t.interlock.blockAwning = 1) = true) ∧
    -- windHighClear
    (let l := samples 12800 0
     let u := windy (fun v => { v with windPulses := 27, windClear := 59, windHigh := true }) base
     gives (.windHighClear l) u (fun t => t.movers.windHigh = false ∧ sigVal t .windHigh = 0) = true) :=
  ⟨by decide +kernel, by decide +kernel, by decide +kernel, by decide +kernel, by decide +kernel, by decide +kernel, by decide +kernel, by decide +kernel⟩

/-! ### Outlets -/

theorem test_currentSample_to_valvePullInEnd :
    -- currentSample
    (let s := lit 8 8000 base
     gives (.currentSample 8 12000) s (fun t => (outlet t 8).sum = 12000 ∧ (outlet t 8).overMs = 0 ∧ (outlet t 8).samples = 1) = true ∧
     gives (.currentSample 8 12001) s (fun t => (outlet t 8).overMs = 10 ∧ (outlet t 8).state = .on) = true ∧
     gives (.currentSample 8 12001) base (fun t => (outlet t 8).samples = 0) = true) ∧
    -- trips
    (let s := lit 10 1500 base
     let u := setOutlet 10 { outlet s 10 with overMs := 190 } s
     gives (.immediateTrip 10 4501) s (fun t => (outlet t 10).state = .tripped ∧ (outlet t 10).charge = 0 ∧ Noticed t .outlets 14) = true ∧
     gives (.sustainedTrip 10 2251) u (fun t => (outlet t 10).state = .tripped ∧ Noticed t .outlets 14) = true ∧
     gives (.currentSample 10 2251) u (fun t => (outlet t 10).state = .tripped ∧ drive t 10 = 0) = true) ∧
    -- valvePullInEnd
    (let s := setOutlet 1 { outlet base 1 with state := .on, charge := 500, pullIn := true } base
     drive s 1 = 1000 ∧ gives (.valvePullInEnd 1) s (fun t => drive t 1 = 400) = true) :=
  ⟨by decide +kernel, by decide +kernel, by decide +kernel⟩

/-! ### Node link -/

def linked (x : LinkPhase) (t : Option Txn) (s : State) : State := setLink (fun k => { k with phase := x, txn := t }) s
/-- A transaction with record 0 (FRESH). -/
def polling (x : LinkPhase) : State := linked x (some { record := 0, cmd := .poll }) base
theorem test_turnaroundEnd_to_goodReply :
    -- turnaroundEnd
    (let s := linked .turnaround none base
     let u := setLink (fun k => { k with heater := some (.single .stop) }) s
     blocksRun s = true ∧ s.link.heater = none ∧ s.link.solar = false ∧ (node s 7).due = none ∧ recordOf u .heater = some 6 ∧
     gives (.turnaroundEnd 5) s (fun t => t.link.phase = .idle) = true ∧
     gives (.turnaroundEnd 5) u (fun t => t.link.phase = .sending ∧ t.link.heater = none ∧
       t.link.txn = some { record := 6, cmd := .heater .stop }) = true) ∧
    -- pollDue
    (let s := setNode 3 { due := some 400 } (setNode 5 { due := some 300 } (linked .idle none base))
     (5 : Fin 12) ∈ roster s ∧ (node s 3).due = some 400 ∧
     gives (.pollDue 3 400) s (fun t => t.link.phase = .sending ∧ t.link.txn = some { record := 5, cmd := .poll }) = true) ∧
    -- requestSent
    (gives .requestSent (polling .sending) (fun t => t.link.phase = .listening) = true) ∧
    -- replyGapExpiry
    (gives .replyGapExpiry (polling .listening) (fun t => t.link.phase = .badReply .format) = true) ∧
    -- replyWordFault
    (let s := polling .listening
     roleOf s 0 = some .fresh ∧ wordFault .fresh 0 0x22 true true = some .format ∧ wordFault .fresh 1 0 true false = some .parity ∧
     gives (.replyWordFault 0 0x22 true true) s (fun t => t.link.phase = .badReply .format) = true ∧
     gives (.replyWordFault 1 7 true true) s (fun t => t.link.phase = .listening) = true) ∧
    -- ackWindowExpiry
    (let s := setNode 0 { state := .present, misses := 2 } (polling .listening)
     gives (.ackWindowExpiry 8) s (fun t => (node t 0).state = .missing ∧ (node t 0).misses = 3 ∧
       (node t 0).due = some 10008 ∧ Noticed t .link 0 ∧ t.link.phase = .turnaround) = true) ∧
    -- replyQuietEnd
    (gives (.replyQuietEnd 9) (polling (.badReply .parity)) (fun t => (node t 0).lastMiss = .parity ∧ (node t 0).misses = 1 ∧
       (node t 0).due = some 2009) = true) ∧
    -- goodReply
    (goodForm .fresh 0x21 [550] = true ∧ inRange .fresh [550] = true ∧ inRange .fresh [1001] = false ∧
     gives (.goodReply 0x21 [550] 9) (polling .listening) (fun t => (node t 0).state = .present ∧
       (node t 0).reading = some [550] ∧ t.water.fresh = some 550 ∧ (node t 0).due = some 2009) = true ∧
     gives (.goodReply 0x21 [1001] 9) (polling .listening) (fun t => (node t 0).faulty = true ∧ t.water.fresh = none) = true) :=
  ⟨by decide +kernel, by decide +kernel, by decide +kernel, by decide +kernel, by decide +kernel, by decide +kernel, by decide +kernel, by decide +kernel⟩

/-! ### Water -/

def pumping (n : Nat) : State := lit 0 6000 (pumpAt { auto := true, state := .running, timer := n } base)
def frosty (f : Frost) (s : State) : State := { s with water := { s.water with frost := f } }
theorem test_pressureLow_to_heatTimeout :
    -- pressureLow
    (let s := edged .pressureLow true base
     s.pins.pressureLow.level ≠ true ∧ s.water.pump.auto = true ∧ pumpLow s = false ∧ WouldGrant s 0 ∧
     pumpLow (tank 20 s) = true ∧ (outlet s 0).state = .off ∧
     gives (.pressureLow true) s (fun t => t.water.pump.state = .running ∧ (outlet t 0).charge = 6000) = true ∧
     gives (.pressureLow true) (tank 20 s) (fun t => t.water.pump.state = .dry ∧ t.water.pump.cause = .lowLevel ∧
       Noticed t .water 0) = true ∧
     gives (.pressureLow true) (waking s) (fun t => t.pins.pressureLow.level = true ∧ t.water.pump.state = .idle) = true) ∧
    -- pressureHigh
    (let s := setLine .pressureLow { raw := false, level := true } (pumping 5)
     s.pins.pressureLow.level ≠ false ∧ NoneWaitsBut s 0 ∧
     gives (.pressureLow false) s (fun t => t.water.pump.state = .idle ∧ (outlet t 0).state = .off) = true) ∧
    -- pumpRunLimit
    (gives .pumpRunLimit (pumping 45)
     (fun t => t.water.pump.state = .dry ∧ t.water.pump.cause = .runLimit ∧ (outlet t 0).state = .off ∧ Noticed t .water 0) = true ∧
     gives .pumpRunLimit (pumping 44) (fun t => t.water.pump.state = .running) = true) ∧
    -- fillFlowPulse
    (let f : Fill := { slot := 3, target := 1, pulses := 44, flow := 9, valve := .on }
     (filling f).MemsWf ∧ blocksRun (filling f) = true ∧ NoneWaitsBut (filling f) 7 ∧
     gives .fillFlowPulse (filling f) (fun t => Finished t 3 { outcome := .ok, r0 := 1 } ∧ (outlet t 7).state = .off) = true ∧
     gives .fillFlowPulse (filling { f with pulses := 43 }) (fun t => (t.water.fill.map (·.flow)) = some 0) = true ∧
     gives .fillFlowPulse base (fun t => t.water.fill = none) = true) ∧
    -- fillTimeouts
    (let s := filling { slot := 3, target := 9, flow := 60, valve := .on }
     let u := filling { slot := 3, target := 9, wait := 30, valve := .waiting }
     let u := setOutlet 7 { outlet u 7 with state := .waiting, charge := 0 } u
     heldOf s 3 = none ∧ NoneWaitsBut s 7 ∧ (outlet u 7).state = .waiting ∧
     gives .fillFlowTimeout s (fun t => Finished t 3 { outcome := .timeout } ∧ t.water.fill = none) = true ∧
     gives .fillWaitTimeout u (fun t => Finished t 3 { outcome := .noBudget } ∧ (outlet t 7).state = .off) = true) ∧
    -- frostBlindGrace
    (gives .frostBlindGrace (frosty { grace := 60 } base)
     (fun t => t.water.frost.blind = true ∧ Noticed t .water 3) = true) ∧
    -- padTimeout
    (gives .padTimeout (frosty { temp := some 25, stage := .pad, padTimer := 120 } base)
     (fun t => t.water.frost.stage = .heat ∧ t.climate.frost = true ∧ t.climate.demand = true) = true) ∧
    -- heatTimeout
    (gives .heatTimeout (frosty { temp := some 15, stage := .heat, heatTimer := 300 } base)
     (fun t => t.water.frost.stage = .dump ∧ t.water.frost.latch = true ∧ (outlet t 1).held = true ∧ t.overrun = false) = true) ∧
    -- frostReading_equal: R114's last sentence
    (let s := linked .listening (some { record := 2, cmd := .poll }) (setNode 2 { state := .present, reading := some [35], stale := false } base)
     let h := frosty { temp := some 35, stage := .heat } s
     let p := frosty { temp := some 35, stage := .pad } s
     blocksRun h = true ∧ (2 : Fin 12) ∈ roster h ∧ roleOf h 2 = some .frostProbe ∧ goodForm .frostProbe 0x23 [35] = true ∧
     inRange .frostProbe [35] = true ∧ Image.dumpThreshold (cfg h) = 5 ∧ Image.heatThreshold (cfg h) = 20 ∧
     Image.padThreshold (cfg h) = 30 ∧ frostOf h = some 35 ∧
     gives (.goodReply 0x23 [35] 9) h (fun t => t.water.frost.stage = .pad ∧ t.climate.frost = false ∧ Noticed t .water 1) = true ∧
     gives (.goodReply 0x23 [35] 9) p (fun t => t.water.frost.stage = .pad ∧ t.port.notice = 0) = true) :=
  ⟨by decide +kernel, by decide +kernel, by decide +kernel, by decide +kernel, by decide +kernel, by decide +kernel, by decide +kernel, by decide +kernel, by decide +kernel⟩

/-! ### Climate -/

/-- A heater unit present and IDLE, and a zone that wants heat in AUTO. -/
def cold (s : State) : State :=
  let s := setNode 6 { state := .present, reading := some [0, 0, 0], stale := false } s
  { s with climate := { s.climate with
      mode := .auto, demand := true, level := 3
      zones := s.climate.zones.set 0 { zone s 0 with measured := some 180, demand := true, deficit := 20 }
      seq := { s.climate.seq with last := some { phase := .idle, fault := 0, level := 0, faulty := false } } } }
def poor (s : State) : State := { s with outlets := { s.outlets with limit := 5000 } }
def heating (q : Sequencer) : State := sequencing q (lit 2 9500 base)
theorem test_retryHoldEnd_to_supplyHoldEnd :
    -- retryHoldEnd
    (let s := cold base
     startConditions s = true ∧ sigVal s .heaterActive = 0 ∧ (outlet s 2).state = .off ∧ configuredClass s 2 ≠ 0 ∧
     classShed (configuredClass s 2) s.outlets.shedLevel = false ∧ Quiet s .heaterActive 1 ∧
     grantedTotal s + Image.startCurrent (cfg s) ≤ s.outlets.limit ∧
     (poor s).outlets.limit < grantedTotal (poor s) + Image.startCurrent (cfg s) ∧
     gives .retryHoldEnd s (fun t => (seq t).state = .igniting ∧ (seq t).started = 3 ∧ (outlet t 2).held = true ∧
       t.link.heater = some (.pair 3) ∧ t.outlets.heater = .igniting) = true ∧
     gives .retryHoldEnd (poor s) (fun t => (seq t).state = .grantWait ∧ (outlet t 2).state = .waiting) = true) ∧
    -- grantWaitTimeout
    (let s := sequencing { state := .grantWait, phase := 300, supply := .waiting } base
     let s := setOutlet 2 { outlet s 2 with state := .waiting, demand := some { charge := 9500 } } s
     sigVal s .heaterActive = 0 ∧ gives .grantWaitTimeout s (fun t => (seq t).state = .off ∧ (seq t).retry = 60 ∧
       (outlet t 2).state = .off ∧ Noticed t .climate 0) = true) ∧
    -- ignitionLimit
    (let s := heating { state := .igniting, phase := 240, failed := 1 }
     Image.ignitionLimit (cfg s) = 240 ∧ sigVal s .heaterActive = 1 ∧ Image.runCurrent (cfg s) < (outlet s 2).charge ∧
     NoneWaitsBut s 2 ∧
     gives .ignitionLimit s (fun t => (seq t).state = .stopping ∧ (seq t).failed = 2 ∧ (seq t).lockout = true ∧
       (outlet t 2).charge = 2500 ∧ Noticed t .climate 1) = true) ∧
    -- runOnEnd
    (let s := heating { state := .running, runOn := 120, ran := true }
     s.outlets.heater = .running ∧ s.climate.demand = false ∧
     gives .runOnEnd s (fun t => (seq t).state = .stopping ∧ (outlet t 2).state = .on ∧ t.link.heater = some (.single .stop)) = true) ∧
    -- cooldown
    (let q : Sequencer := { state := .stopping, phase := 180, ran := true, failed := 1,
                            last := some { phase := .idle, fault := 0, level := 0, faulty := false } }
     let s := heating q
     lastCold s = true ∧ Quiet s .heaterActive 0 ∧ NoneWaitsBut s 2 ∧
     gives .cooldownMinimum s (fun t => (seq t).state = .off ∧ (seq t).failed = 0 ∧ (outlet t 2).state = .off ∧
       (outlet t 2).held = false) = true ∧
     gives .cooldownMaximum (heating { q with phase := 600, lockout := true }) (fun t => (seq t).state = .lockedOut ∧
       Noticed t .climate 4 ∧ (outlet t 2).state = .off) = true) ∧
    -- supplyHoldEnd
    (gives .supplyHoldEnd (heating { state := .unitLost, phase := 600 })
     (fun t => (seq t).state = .unitLost ∧ (outlet t 2).state = .off) = true) :=
  ⟨by decide +kernel, by decide +kernel, by decide +kernel, by decide +kernel, by decide +kernel, by decide +kernel⟩

/-! ### Movers and lights -/

def waitingMove : Move := { outMove with driving := false, grant := 2, report := .waiting }
theorem test_hallPulse_to_rampTick :
    -- hallPulse
    (gives (.hallPulse .awning) (moving outMove) (fun t => (mover t .awning).position = 901) = true ∧
     gives (.hallPulse .step) (parked .step { state := .partialOut, known := true, position := 0, lastDir := some .inward } base)
       (fun t => (mover t .step).position = 0) = true ∧
     gives (.hallPulse .step) base (fun t => (mover t .step).position = 0) = true) ∧
    -- endStop
    (let s := edged (.endStop .out1) true base
     let u := setLine (.endStop .stow0) { raw := false, level := true } (parked .awning { state := .stowed, known := true } base)
     (lineOf s (.endStop .out1)).level ≠ true ∧ (lineOf u (.endStop .stow0)).level ≠ false ∧
     gives (.endStop .out1 true) s (fun t => (mover t .step).position = 600 ∧ (mover t .step).known = true ∧
       (mover t .step).state = .extended) = true ∧
     gives (.endStop .stow0 false) u (fun t => (mover t .awning).known = false ∧ (mover t .awning).state = .unknown) = true) ∧
    -- grantWindowExpiry
    (let s := moving waitingMove
     let s := setOutlet 5 { outlet s 5 with state := .waiting, charge := 0 } s
     s.MemsWf ∧ blocksRun s = true ∧ MoveInHand s .awning waitingMove .noBudget ∧
     gives (.grantWindowExpiry .awning) s (fun t => MoveEnded s t .awning waitingMove .noBudget) = true) ∧
    -- stallWindowExpiry
    (let v := { outMove with stall := 400 }
     MoveInHand (moving v) .awning v .stalled ∧
     gives (.stallWindowExpiry .awning) (moving v) (fun t => MoveEnded (moving v) t .awning v .stalled ∧ Noticed t .movers 4) = true) ∧
    -- moveTimeout
    (let v := { outMove with timer := 75 }
     MoveInHand (moving v) .awning v .timeout ∧ Image.moveLimit (cfg base) .awning = 75 ∧
     gives (.moveTimeout .awning) (moving v) (fun t => MoveEnded (moving v) t .awning v .timeout) = true) ∧
    -- rampTick
    (blocksRun ramping = true ∧ (∀ c, (channel ramping c).target = 0 → (channel ramping c).output = 0) ∧
     gives .rampTick ramping (fun t => (channel t 0).output = 230 ∧ (channel t 1).output = 0) = true) :=
  ⟨by decide +kernel, by decide +kernel, by decide +kernel, by decide +kernel, by decide +kernel, by decide +kernel⟩

/-! ### Further clauses: start, outlets, interlock, drain -/

/-- Outlet o demanded but not ON. -/
def dark (o : Fin 16) (x : OutletState) (mA : Nat) (s : State) : State :=
  setOutlet o { outlet s o with state := x, demand := some { charge := mA } } s
/-- The active settings with one word replaced. -/
def configured (o : Nat) (w : Word) (s : State) : State :=
  { s with store := { s.store with active := Mem.write 0 s.store.active o w } }
def limited (n : Nat) (s : State) : State := { s with outlets := { s.outlets with limit := n } }
theorem test_interlockInv : base.InterlockInv ∧ State.reset.InterlockInv :=
  ⟨⟨by decide, by decide, by decide, by decide, by decide, by decide, fun m => by cases m <;> decide⟩,
   ⟨by decide, by decide, by decide, by decide, by decide, by decide, fun m => by cases m <;> decide⟩⟩
theorem test_interlock_step :
    ∃ t, Machine.step { edged (.vehicle .ignition) true base with pending := [.vehicleInput .ignition true] } = .next t ∧
      t.overrun = false ∧ blockCount t .step = 1 ∧ t.interlock.builtIn = [true, true, false, false, false, true] :=
  ⟨_, rfl, by decide +kernel⟩
def shedTo (k : Nat) (s : State) : State :=
  { s with charge := { s.charge with shedLevel := k, hostFloor := k }, outlets := { s.outlets with shedLevel := k }
           interlock := { s.interlock with signals := s.interlock.signals.set 6 k } }
def rivals : State := limited 14000 (lit 0 6000 (lit 3 400 (configured 0x030 0 (ordered 0x10 [1] base))))
theorem test_resetRelease_held_to_firstRevoked :
    -- resetRelease_held
    (let s := held3 (setHeld 1 true (lit 1 500 base))
     s.pins.reset = true ∧ (outlet s 1).state = .on ∧
     gives .resetRelease s (fun t => (outlet t 1).state = .on ∧ (outlet t 1).whole = true ∧ t.charge.power = .starting) = true) ∧
    -- startComplete_ignition
    (let s := setLine (.vehicle .ignition) { raw := true, level := true } State.reset
     s.pins.ignition.level = true ∧ (mover s .step).state ≠ .stowed ∧ s.movers.owner = none ∧ s.movers.awning.move = none ∧
     s.movers.step.move = none ∧ (outlet s 5).state = .off ∧
     gives .startComplete s (fun t => t.movers.owner = some .step ∧ (t.movers.step.move.map (·.tag)) = some .retract) = true) ∧
    -- shedFloor_rise
    (let s := dark 15 .off 0 (lit 8 8000 (lit 3 400 (ordered 0x02 [2] base)))
     Dispatches s 0 .shedFloor ∧ floorLevel s 2 = 2 ∧ s.charge.shedLevel < 2 ∧ ShedHeard s 2 ∧ ShedAt s 2 8 ∧
     (∀ q, ((outlet s q).state = .on ∨ (outlet s q).state = .waiting) → ShedAt s 2 q → q ≠ 2 ∧ q ≠ 5 ∧ q ≠ 7 ∧
       ∀ c, q = lightOutlet c → 0 < (channel s c).target) ∧
     (∀ q, (outlet s q).state = .waiting → ShedAt s 2 q) ∧ ¬ ShedAt s 1 3 ∧
     gives .shedFloor s (fun t => (outlet t 8).state = .shed ∧ (outlet t 3).state = .shed ∧ (outlet t 8).demand = some { charge := 8000 }) = true) ∧
    -- shedFloor_fall
    (let s := shedTo 1 (dark 8 .shed 8000 (ordered 0x02 [0] base))
     Dispatches s 0 .shedFloor ∧ floorLevel s 0 = 0 ∧ ShedHeard s 0 ∧ configuredClass s 8 ≠ 0 ∧ ¬ ShedAt s 0 8 ∧
     (∀ q, q ≠ 8 → (outlet s q).state ≠ .waiting ∧ ((outlet s q).state = .shed → ShedAt s 0 q)) ∧
     grantedTotal s + 8000 ≤ (limited 8000 s).outlets.limit ∧ (limited 7999 s).outlets.limit < grantedTotal s + 8000 ∧
     s.OutletInv ∧
     gives .shedFloor (limited 8000 s) (fun t => (outlet t 8).state = .on ∧ (outlet t 8).charge = 8000) = true ∧
     gives .shedFloor (limited 7999 s) (fun t => (outlet t 8).state = .waiting ∧ (outlet t 8).charge = 0) = true) ∧
    -- auxSet_refused
    (let s := ordered 0x10 [1] base
     let i := setOutlet 8 { outlet s 8 with inhibit := 1 } s
     let h := shedTo 1 s
     let w := limited 7999 s
     Dispatches i 0 .auxSet ∧ i.OutletInv ∧ Dispatches h 0 .auxSet ∧ isShed h 8 = true ∧ Dispatches w 0 .auxSet ∧
     isShed w 8 = false ∧ w.outlets.limit < grantedTotal w + ratedOf w 8 ∧ configuredClass w 8 ≠ 0 ∧
     gives .auxSet i (fun t => (outlet t 8).state = .inhibited ∧ Finished t 0 { outcome := .ok, r0 := 4 }) = true ∧
     gives .auxSet h (fun t => (outlet t 8).state = .shed ∧ Finished t 0 { outcome := .ok, r0 := 3 }) = true ∧
     gives .auxSet w (fun t => (outlet t 8).state = .waiting ∧ Finished t 0 { outcome := .ok, r0 := 1 }) = true) ∧
    -- auxSet_overLimit
    (let s := limited 7999 (configured 0x030 0 (ordered 0x10 [1] base))
     s.MemsWf ∧ Dispatches s 0 .auxSet ∧ configuredClass s 8 = 0 ∧ (∀ q, (outlet s q).state = .on → effClass s q = 0) ∧
     gives .auxSet s (fun t => (outlet t 8).state = .on ∧ Noticed t .outlets 15) = true) ∧
    -- auxSet_preempts
    (Dispatches rivals 0 .auxSet ∧ rivals.outlets.limit < grantedTotal rivals + ratedOf rivals 8 ∧
     isShed rivals 3 = false ∧ NoneWaitsBut rivals 8 ∧ grantedTotal rivals + ratedOf rivals 8 ≤ rivals.outlets.limit + 400 ∧
     gives .auxSet rivals (fun t => (outlet t 8).state = .on ∧ (outlet t 3).state = .waiting ∧ (outlet t 0).state = .on ∧
       (outlet t 3).requestOrder = (outlet rivals 3).requestOrder ∧ Noticed t .outlets 13) = true) ∧
    -- firstRevoked
    (FirstRevoked rivals 3) :=
  ⟨by decide +kernel, by decide +kernel, by decide +kernel, by decide +kernel, by decide +kernel, by decide +kernel, by decide +kernel, by decide +kernel⟩
theorem test_outlet_acts_to_drainClose_signal :
    -- outlet_acts
    (let s := dark 8 .waiting 8000 (lit 3 400 base)
     let r : Run := { st := s, work := [] }
     (outlet (perform (.consider 8) r).st 8).state = .on ∧ (outlet (perform (.rises [(3, 1)]) r).st 3).state = .inhibited ∧
     (outlet (perform .cutRest { r with st := { s with outlets := { s.outlets with shedLevel := 3 } } }).st 3).state ≠ .on) ∧
    -- drainDump_tripped
    (let s := tripped 1 none (ordered 0x23 [] base)
     Dispatches s 0 .drainDump ∧ (outlet base 1).state = .off ∧ (outlet base 1).inhibit = 0 ∧ configuredClass base 1 = 0 ∧
     (∀ x ∈ base.interlock.terms, TermRec.effectOf x.record ≠ .inhibit 1) ∧
     gives .drainDump s (fun t => (outlet t 1).state = .tripped ∧ (outlet t 1).demand = some { charge := 500 } ∧ sigVal t .drainOpen = 1) = true ∧
     gives .drainDump (ordered 0x23 [] base) (fun t => sigVal t .drainOpen = 1 ∧ sigVal t .frostStage = 3 ∧
       (outlet t 1).charge = 500 ∧ (outlet t 1).pullIn = true ∧ t.retained.latch = true ∧ Noticed t .water 2) = true) ∧
    -- drainClose_signal
    (let s := setSignal .frostStage 3 (setSignal .drainOpen 1 (dumped (some 31) (ordered 0x24 [] base)))
     Dispatches s 0 .drainClose ∧ (outlet s 1).state ≠ .tripped ∧ (outlet s 1).state ≠ .off ∧
     gives .drainClose s (fun t => sigVal t .drainOpen = 0 ∧ sigVal t .frostStage = 0 ∧ (outlet t 1).held = false ∧
       (outlet t 1).demand = none ∧ (outlet t 1).charge = 0) = true ∧
     gives .drainClose (tripped 1 (some { charge := 500 }) s) (fun t => (outlet t 1).state = .tripped ∧ (outlet t 1).demand = none) = true) :=
  ⟨by decide +kernel, by decide +kernel, by decide +kernel⟩

/-! ### Further clauses: movers and lights -/

def doored (s : State) : State := edged (.vehicle .door) true s
def stepIn (s : State) : State := setSignal .stepStowed 1 (parked .step { state := .stowed, known := true } s)
/-- Slot 0 posted beside the recall of slot 3. -/
def alsoLit (p : List Word) : State :=
  { ramping with ram := { ramping.ram with slots := slotCells 0 1 0x51 0xFFFF p ++ slotCells 3 2 0x50 0xFFFF [] }
                 disp := { ramping.disp with intake := [0] } }
theorem test_move_creep_to_lightSet_supersedes :
    -- move_creep
    (let s := parked .step { state := .partialOut, position := 300, known := true } (ordered 0x40 [1, 0, 600, 0, 0, 300] base)
     Dispatches s 0 .move ∧ (hostMove 0 s).creepCounts = 300 ∧ reached (mover s .step) (hostMove 0 s) = false ∧
     gives .move s (fun t => (t.movers.step.move.map (·.creeping)) = some true ∧ t.outlets.duty = 300) = true ∧
     gives .move (parked .step { state := .partialOut, position := 299, known := true } s)
       (fun t => (t.movers.step.move.map (·.creeping)) = some false ∧ t.outlets.duty = 800) = true) ∧
    -- move_inward_unknown: R146, and R143 with R150: OUT1 on the way makes the position known, a pulse below p2 ends nothing
    (let s := parked .step { state := .unknown, position := 10 } (ordered 0x40 [1, 1, 600, 0, 0, 300] base)
     Dispatches s 0 .move ∧ dirArg s 0 = .inward ∧ (mover s .step).known = false ∧ reached (mover s .step) (hostMove 0 s) = false ∧
     sigVal s .stepStowed = 0 ∧ Quiet s .stepStowed 0 ∧ (outlet s 5).state = .off ∧
     gives .move s (fun t => (t.movers.step.move.map (·.target)) = some .stop ∧ t.outlets.duty = 300 ∧
       gives (.hallPulse .step) (runReact (stopAsserted .out1) t) (fun u => (mover u .step).known = true ∧
         (mover u .step).position = 599 ∧ (mover u .step).state = .movingIn) = true) = true) ∧
    -- ignition_retract
    (let s := edged (.vehicle .ignition) true base
     let h := { s with movers := { s.movers with owner := some .awning } }
     s.pins.ignition = { raw := true, level := false } ∧ isStowed s .step = false ∧ sigVal s .stepStowed = 0 ∧
     BlocksOnly s .ignition 1 ∧ BridgeFree s .step .inward ∧ BlocksOnly h .ignition 1 ∧
     gives (.vehicleInput .ignition true) s (fun t => DrivesAuto s t .step .retract .inward ∧ OtherOutletsKept s t 5) = true ∧
     gives (.vehicleInput .ignition true) h (fun t => t.movers.pendingStep = true ∧ t.outlets.table = h.outlets.table) = true) ∧
    -- door_extend
    (let s := doored (stepIn base)
     let b := { s with interlock := { s.interlock with blockStep := 1 } }
     s.pins.door = { raw := true, level := false } ∧ Quiet s .door 1 ∧ entryScene s = none ∧ Image.autoStep (cfg s) = true ∧
     blockCount s .step = 0 ∧ BridgeFree s .step .out ∧ sigVal s .stepStowed = 1 ∧ Quiet (setSignal .door 1 s) .stepStowed 0 ∧
     blockCount b .step ≠ 0 ∧
     gives (.vehicleInput .door true) s (fun t => DrivesAuto s t .step .extend .out ∧ OtherOutletsKept s t 5) = true ∧
     gives (.vehicleInput .door true) b (fun t => t.movers = b.movers ∧ Noticed t .movers 9) = true) ∧
    -- door_scene
    (let s := lamps (doored base)
     let g := { s with ram := { s.ram with scenes := sceneCells 31 [700, 300, 0xFFFF, 0xFFFF, 0xFFFF, 0xFFFF, 100, 1] } }
     let b := { s with ram := { s.ram with scenes := sceneCells 31 [700, 1001, 0, 0, 0, 0, 0, 1] } }
     (mover s .step).state ≠ .stowed ∧ entryScene s = none ∧ entryScene g = some 31 ∧ cacheOf g 31 = none ∧
     offending (Mem.readList 0 b.ram.scenes 0x5F0 16) = some 1 ∧ Applicable g (Mem.readList 0 g.ram.scenes 0x5F0 16) ∧
     gives (.vehicleInput .door true) s (fun t => t.movers = s.movers ∧ t.lights = s.lights) = true ∧
     gives (.vehicleInput .door true) b (fun t => t.lights = { b.lights with lastEntry := some .badParam } ∧ Noticed t .lights 1) = true ∧
     gives (.vehicleInput .door true) g (fun t => Retargeted g t (Mem.readList 0 g.ram.scenes 0x5F0 16) (.entry 0) ∧
       t.outlets.table = g.outlets.table ∧ (cacheEntry t 0).valid = true) = true) ∧
    -- splitRelay
    (let s := edged (.vehicle .engineRun) true base
     let u := setLine (.vehicle .engineRun) { raw := false, level := true } (lit 6 1000 base)
     (outlet s 6).state = .off ∧ (lineOf u (.vehicle .engineRun)).level ≠ false ∧
     gives (.vehicleInput .engineRun true) s (fun t => (outlet t 6).demand.isSome = true ∧ (outlet t 6).state = .on) = true ∧
     gives (.vehicleInput .engineRun false) u (fun t => (outlet t 6).demand = none ∧ (outlet t 6).state = .off) = true) ∧
    -- wind_retract
    (let s := windy (fun v => { v with windPulses := 28, windSet := 4 }) base
     meetsWindSet s = true ∧ isStowed s .awning = false ∧ s.movers.owner = none ∧ (outlet s 5).state = .off ∧
     gives (.windHighSet (samples 12800 0)) s (fun t => t.overrun = false ∧ (t.movers.awning.move.map (·.tag)) = some .retract ∧
       t.movers.owner = some .awning) = true) ∧
    -- hallPulse_stall
    (let v := { outMove with stall := 390 }
     gives (.hallPulse .awning) (moving v) (fun t => (t.movers.awning.move.map (·.stall)) = some 0) = true ∧
     gives (.hallPulse .awning) (parked .awning { state := .partialOut, position := 9000, lastDir := some .inward } base)
       (fun t => (mover t .awning).position = 4000) = true ∧
     gives (.currentSample 5 100) (moving v) (fun t => (t.movers.awning.move.map (·.stall)) = some 400) = true ∧
     gives (.stallWindowExpiry .awning) (moving v) (fun t => t.movers.awning.move = some v) = true) ∧
    -- lightSet_supersedes
    (let s := alsoLit [0, 900, 100]
     s.MemsWf ∧ Dispatches s 0 .lightSet ∧ (channel s 0).owner = some (.host 3) ∧ heldOf s 3 = none ∧ (channel s 0).output ≠ 900 ∧
     (outlet s 10).state = .on ∧ (outlet s 10).demand.isSome = true ∧
     gives .lightSet s (fun t => Finished t 3 { outcome := .superseded, r1 := 0 } ∧ slotState t 0 = .taken ∧
       channel t 0 = { channel s 0 with target := 900, rampStep := 70, owner := some (.host 0) }) = true) :=
  ⟨by decide +kernel, by decide +kernel, by decide +kernel, by decide +kernel, by decide +kernel, by decide +kernel, by decide +kernel, by decide +kernel, by decide +kernel⟩
theorem test_lightSet_dark_to_rampTick_arrives :
    -- lightSet_dark
    (let z := lit 10 1500 (ordered 0x51 [0, 0, 0] base)
     let h := dark 10 .shed 1500 (ordered 0x51 [0, 500, 0] base)
     let f := ordered 0x51 [0, 500, 0] base
     Dispatches z 0 .lightSet ∧ Dispatches h 0 .lightSet ∧ Dispatches f 0 .lightSet ∧ NoneWaitsBut z 10 ∧ WouldGrant f 10 ∧
     (∀ q, (channel z q).owner ≠ some (.host 0)) ∧ (∀ q, (channel h q).owner ≠ some (.host 0)) ∧
     gives .lightSet z (fun t => (outlet t 10).state = .off ∧ Finished t 0 { outcome := .ok, r0 := 1 }) = true ∧
     gives .lightSet h (fun t => (channel t 0).target = 500 ∧ t.outlets = h.outlets ∧ Finished t 0 { outcome := .ok, r0 := 1, r1 := 1 }) = true ∧
     gives .lightSet f (fun t => (outlet t 10).state = .on ∧ (channel t 0).output = 0 ∧ slotState t 0 = .taken) = true) ∧
    -- rampTick_arrives
    (let s := setChannel 0 { channel ramping 0 with output := 480 } ramping
     let d := setChannel 0 { output := 30, target := 0, rampStep := 30 } (lit 10 1500 base)
     s.MemsWf ∧ RampsAlone s 0 ∧ rampMove (channel s 0) = 500 ∧ heldOf s 3 = none ∧ RampsAlone d 0 ∧ NoneWaitsBut d 10 ∧
     gives .rampTick s (fun t => (channel t 0).output = 500 ∧ (channel t 0).owner = none ∧ Finished t 3 { outcome := .ok, r0 := 1 }) = true ∧
     gives .rampTick d (fun t => (outlet t 10).state = .off ∧ (channel t 0).output = 0) = true) :=
  ⟨by decide +kernel, by decide +kernel⟩

/-! ### Further clauses: node link -/

/-- A transaction with the heater or the solar charger of the default roster, answered at once. -/
def asked (i : Fin 12) (c : LinkCmd) : State := linked .listening (some { record := i, cmd := c }) base
theorem test_requestWords_to_command_results :
    -- requestWords
    (requestWords 7 (.heater (.start 3)) = [(0x137, true), (3, true)] ∧
     requestWords 8 .poll = [(8, false)]) ∧
    -- turnaroundEnd_pair
    (let s := setLink (fun k => { k with heater := some (.pair 3) }) (linked .turnaround none base)
     let r := setLink (fun k => { k with remainderDue := true, remainder := some 3 }) s
     let f := setLink (fun k => { k with solar := true }) (linked .turnaround none base)
     recordOf s .heater = some 6 ∧ recordOf f .solar = some 7 ∧
     gives (.turnaroundEnd 5) s (fun t => t.link.remainder = some 3 ∧ t.link.request = [(0x237, true), (3, true)]) = true ∧
     gives (.turnaroundEnd 5) r (fun t => t.link.txn = some { record := 6, cmd := .heater (.start 3) } ∧ t.link.heater = some (.pair 3)) = true ∧
     gives (.turnaroundEnd 5) f (fun t => t.link.txn = some { record := 7, cmd := .float } ∧ t.link.solar = false) = true) ∧
    -- missed_commands
    (let s := setLink (fun k => { k with remainder := some 3 }) (asked 6 (.heater (.pairLevel 3)))
     let s := { s with climate := { s.climate with seq := { state := .igniting } } }
     (seq s).state = .igniting ∧ (node s 6).misses < 2 ∧
     gives (.ackWindowExpiry 8) s (fun t => t.link.remainder = none ∧ (seq t).state = .stopping ∧ (seq t).failed = 1) = true ∧
     gives (.ackWindowExpiry 8) (asked 7 .float) (fun t => t.charge.lastFloat = some .missed) = true) ∧
    -- command_results
    (let p := setLink (fun k => { k with remainder := some 3 }) (asked 6 (.heater (.pairLevel 3)))
     let c := setSeq (fun q => { q with clearPending := true }) (asked 6 (.heater .clearFault))
     goodForm .heater 0x65 [0, 0, 0] = true ∧ inRange .heater [0, 0, 0] = true ∧ goodForm .heater 0x75 [0, 0, 0] = true ∧
     goodForm .solar 0x66 [0, 0, 0] = true ∧
     gives (.goodReply 0x65 [0, 0, 0] 9) p (fun t => t.link.remainderDue = true ∧ t.link.remainder = some 3) = true ∧
     gives (.goodReply 0x75 [0, 0, 0] 9) p (fun t => t.link.remainderDue = false ∧ t.link.remainder = none) = true ∧
     gives (.goodReply 0x65 [0, 0, 0] 9) c (fun t => (seq t).clearPending = false) = true ∧
     gives (.goodReply 0x66 [0, 0, 0] 9) (asked 7 .float) (fun t => t.charge.lastFloat = some .accepted) = true) :=
  ⟨by decide +kernel, by decide +kernel, by decide +kernel, by decide +kernel⟩

/-! ### Digest updates by action -/

theorem test_noticeClear_one_update_to_starting_updates :
    -- noticeClear_one_update
    (let s := { base with port := { base.port with notice := 0x205, causes := (base.port.causes.set 0 1).set 2 4, valid := true } }
     let t := clearGroups 0xFFFF groups s
     t.port.notice = 0 ∧ t.port.causes = Vector.replicate 10 0 ∧ t.port.valid = false ∧ digestWord t 0x200 = 2 ∧
     digestWord (clearGroups 0x002 groups s) 0x200 = 0) ∧
    -- source_updates
    (let t := runEach sourceChange (setSource .shorePresent false base)
     Noticed t .energy 6 ∧ t.charge.shedLevel = 1 ∧ digestWord t 0x210 = 1 ∧ digestWord t 0x21D = 0 ∧
     digestWord t 0x220 = Word.nat 60000) ∧
    -- starting_updates
    (let s := waking base
     let o := waking (lit 1 1000 base)
     startCells s (setService true s) .store = [(0x209, 1)] ∧ startCells s (setService true s) .charge = [] ∧
     (startCells o (tripNow 1 o) .outlets).map (·.1) = [0x236] ∧
     showAction [] [.store] (setService true s) = setService true s) :=
  ⟨by decide +kernel, by decide +kernel, by decide +kernel⟩

/-! ### Order of a climate change, a release request, a start -/

theorem test_climateChange_order_to_door_own_move_waits :
    -- climateChange_order
    (let s := base
     let f := fun c : Climate => { c with frost := true, mode := .auto }
     (climateChange f s).1.climate.demand = false ∧ (runReact (climateChange f) s).climate.demand = true ∧
     (runReact (climateChange f) s).HeatInv) ∧
    -- release_request_while_igniting
    (let s := limited 5000 (sequencing { state := .igniting } (lit 2 9500 base))
     let s := { s with outlets := { s.outlets with heater := .grantWait } }
     effClass s 2 ≠ 0 ∧ effClass (supplyAsk s).1 2 = 0 ∧ (supplyAsk s).1.climate = s.climate ∧
     (outlet (run [.ask 2 .revoked, .cut 2 .revoked] s) 2).state = .on) ∧
    -- restart_clears_elevation
    (let s := lit 2 9500 (held3 base)
     let s := setOutlet 2 { outlet s 2 with held := true, demand := some { charge := 9500, elevated := true } } s
     let s := { s with retained := { s.retained with heater := true } }
     gives .resetRelease s (fun t => (seq t).state = .stopping ∧ (seq t).elevation = false ∧
       (outlet t 2).demand = some { charge := 9500, elevated := true } ∧ t.outlets.heater = .stopping) = true) ∧
    -- door_own_move_waits
    (let s := doored (stepIn base)
     let s := { s with movers := { s.movers with owner := some .step, step := { s.movers.step with move := some waitingMove } } }
     s.pins.door = { raw := true, level := false } ∧ Quiet s .door 1 ∧ entryScene s = none ∧ Image.autoStep (cfg s) = true ∧
     (mover s .step).state = .stowed ∧ (mover s .step).known = true ∧ blockCount s .step = 0 ∧ s.movers.owner ≠ none ∧
     gives (.vehicleInput .door true) s (fun t => t.movers = s.movers ∧ t.outlets.table = s.outlets.table ∧
       Noticed t .movers 9) = true) :=
  ⟨by decide +kernel, by decide +kernel, by decide +kernel, by decide +kernel⟩

/-! ### The dispatcher's collections, the clear outlets, the start -/

/-- Slot 0 posted with this order and FOLLOW_ON 4, slot 4 posted as a follower, slot 3 in the hands of this block. -/
def chained (kind : Word) (p : List Word) (b : Block) (s : State) : State :=
  { s with
    ram := { s.ram with slots := slotCells 0 1 kind 4 p ++ slotCells 3 2 0x22 0xFFFF [] ++ slotCells 4 1 0x8001 0xFFFF [] }
    disp := { s.disp with
      intake := [0], held := [{ slot := 4, claimed := none, released := none }], owners := [(3, b)] } }
/-- A store of slot 3 in VALIDATE beside the chain of slots 0 and 4. -/
def queued : State :=
  let s := chained 0x60 [] .store base
  { s with store := { s.store with phase := .validate, slot := some 3 } }
theorem test_queues_meet : queued.MemsWf ∧ queued.QueuesInv ∧ (held3 base).QueuesInv ∧
    gives .settingsFetch queued (fun t => t.overrun = false ∧ t.QueuesInv ∧ nextSlot t = some 4 ∧ t.disp.intake = []) = true ∧
    gives (.slotPost 9) queued (fun t => t.overrun = false ∧ t.QueuesInv ∧ t.disp.intake = [0, 9]) = true := by decide +kernel
theorem test_inHand_meets : queued.InHandInv := by
  intro _
  have none_some {α : Type} {P : Prop} {x : α} (h : (none : Option α) = some x) : P := nomatch h
  exact ⟨fun _ h => none_some h, fun m _ _ h => by cases m <;> exact none_some h, fun _ _ _ h => none_some h,
    fun _ h => (List.not_mem_nil h).elim, by decide +kernel, by decide +kernel⟩
theorem test_clear_meets_to_sweep_digest :
    -- clear_meets
    (let s := lit 8 8000 base
     let w := held3 (waking (setHeld 1 true (lit 1 500 { State.reset with pins := State.reset.pins })))
     s.ClearInv ∧ (outlet s 8).state = .on ∧ w.ClearInv ∧ (outlet w 1).state = .on ∧
     gives .shedFloor (lit 8 8000 (ordered 2 [3] base)) (fun t => t.overrun = false ∧ t.ClearInv ∧
       (outlet t 8).state = .shed) = true) ∧
    -- nextSlot_released
    (let h (n : Fin 32) (k : Option Nat) : Held := { slot := n, claimed := none, released := k }
     let s : State := { base with disp := { base.disp with intake := [0], held := [h 4 (some 7), h 5 (some 2), h 6 none] } }
     nextSlot s = some 5 ∧ nextSlot { s with disp := { s.disp with held := [h 6 none] } } = some 0) ∧
    -- claim_taken
    (let s := servicing true (chained 0x61 [] .water base)
     s.MemsWf ∧ blocksRun s = true ∧ nextSlot s = some 0 ∧ kindOf s 0 = some .settingsStore ∧ s.store.slot = none ∧
     followCheck (takeSlot 0 s) 0 = .claim 4 ∧ (∀ h ∈ s.disp.held, h.claimed ≠ some 0 ∧ (h.slot = 4 → h.released = none)) ∧
     gives .settingsStore s (fun t => slotState t 0 = .taken ∧ t.disp.intake = [] ∧
       t.disp.held = [{ slot := 4, claimed := some 0, released := none }]) = true ∧
     gives .settingsStore (servicing false s) (fun t => slotState t 0 = .failed ∧ t.disp.held = [] ∧
       Finished t 4 { outcome := .chainBroken }) = true) ∧
    -- claim_done
    (let s := chained 0x60 [] .water base
     s.MemsWf ∧ nextSlot s = some 0 ∧ kindOf s 0 = some .settingsFetch ∧ followCheck (takeSlot 0 s) 0 = .claim 4 ∧
     gives .settingsFetch s (fun t => slotState t 0 = .done ∧
       t.disp.held = [{ slot := 4, claimed := some 0, released := some s.disp.nextRelease }] ∧
       t.disp.nextRelease = s.disp.nextRelease + 1) = true) ∧
    -- startComplete_wind
    (let s : State := { State.reset with movers := { State.reset.movers with windHigh := true } }
     s.pins.ignition.level = false ∧ (mover s .awning).state ≠ .stowed ∧ s.movers.owner = none ∧ (outlet s 5).state = .off ∧
     gives .startComplete s (fun t => t.movers.owner = some .awning ∧ (t.movers.awning.move.map (·.tag)) = some .retract) = true ∧
     gives .startComplete (setLine (.vehicle .ignition) { raw := true, level := true } s) (fun t =>
       t.movers.owner = some .step ∧ t.movers.pendingAwning = true) = true) ∧
    -- float_waits_for_active
    (let s : State := { State.reset with link := { State.reset.link with phase := .idle } }
     let s := counted (fun t => { t with fullCount := 599 }) s
     let l := samples 14200 2000
     meetsFull l s = true ∧ (recordOf s .solar).isSome = true ∧
     gives (.fullSync l) s (fun t => t.charge.power = .starting ∧ t.link.phase = .idle ∧ t.link.solar = true) = true ∧
     gives .startComplete { s with link := { s.link with solar := true } } (fun t => t.link.phase = .sending ∧
       t.link.solar = false ∧ (t.link.txn.map (·.cmd)) = some .float ∧ (node t 0).due = some 0) = true ∧
     gives .startComplete State.reset (fun t => t.link.phase = .startQuiet ∧ (node t 0).due = none) = true) ∧
    -- sweep_digest
    (let s : State := { base with ram := { base.ram with digest := [(0x3A1, 5)] } }
     digestWord (sweep s) 0x3A1 = 5 ∧
     digestWord (sweep { s with ram := { s.ram with slots := slotCells 3 1 0x22 0xFFFF [] } }) 0x3A1 = 8) :=
  ⟨by decide +kernel, by decide +kernel, by decide +kernel, by decide +kernel, by decide +kernel, by decide +kernel, by decide +kernel⟩

/-! ### Evaluations in evaluations (R89, R94; log entry 38) -/

theorem test_nested_evaluation :
    -- R89: a signal changed in answer to a hand-out is evaluated and handed out before its owner's next act
    (let r : Run := { st := stepIn base, work := [.raise .movers 1], evals := 1 }
     (r.signal .stepStowed 0).evals = 2 ∧ sigVal (r.signal .stepStowed 0).st .stepStowed = 0 ∧
     r.work.length < (r.signal .stepStowed 0).work.length) ∧
    -- R94, R149: the withdrawal that answers block begins is taken in its step, also inside an action of the outlet controller
    (let r : Run := { st := moving outMove, work := [.blockBegins .awning], acting := 1, evals := 1 }
     let t := settle 1000 r
     (outlet r.st 5).state = .on ∧ (outlet t 5).state = .off ∧ t.movers.owner = none ∧ t.movers.awning.move = none) ∧
    -- R96: what an evaluation taken since has taken back does not begin a block
    ((blockRise .awning 1 base).2 = [] ∧ blockCount (blockRise .awning 1 base).1 .awning = 0) :=
  ⟨by decide +kernel, by decide +kernel, by decide +kernel⟩

end Sys2Proof.Tests
end

section
/-!
SUPPORT. The exchange area: slot words, the completion service, and the queues of the dispatcher as collections of slots.
-/
namespace Sys2Proof.Machine

/-! ### Lists of entries that name a slot -/

section
variable {α : Type} (f : α → Fin 32) (l : List α) (n m : Fin 32)

theorem mem_map_filter_ne : m ∈ (l.filter fun x => f x != n).map f ↔ m ∈ l.map f ∧ m ≠ n := by
  simp only [List.mem_map, List.mem_filter, bne_iff_ne]
  exact ⟨fun ⟨x, ⟨hx, hne⟩, e⟩ => ⟨⟨x, hx, e⟩, e ▸ hne⟩, fun ⟨⟨x, hx, e⟩, hne⟩ => ⟨x, ⟨hx, e ▸ hne⟩, e⟩⟩

variable {f l n} in
theorem nodup_map_filter (h : (l.map f).Nodup) : ((l.filter fun x => f x != n).map f).Nodup :=
  h.sublist (List.filter_sublist.map f)

variable {f l n} in
theorem filter_ne_eq_self (h : n ∉ l.map f) : (l.filter fun x => f x != n) = l :=
  List.filter_eq_self.2 fun x hx => by simpa using fun e : f x = n => h (e ▸ List.mem_map_of_mem hx)
end

/-! ### Slot words -/

theorem slotWord_congr {s t : State} (h : t.ram.slots = s.ram.slots) (n : Fin 32) (i : Nat) : slotWord t n i = slotWord s n i := by
  rw [slotWord, slotWord, h]

theorem slotState_congr {s t : State} (h : t.ram.slots = s.ram.slots) (n : Fin 32) : slotState t n = slotState s n := by
  rw [slotState, slotState, slotWord_congr h]

theorem follower_congr {s t : State} (h : t.ram.slots = s.ram.slots) (n : Fin 32) : follower t n = follower s n := by
  rw [follower, follower, slotWord_congr h]

theorem setSlotWord_wf {s : State} {n : Fin 32} {i : Nat} {v : Word} (hw : Mem.Wf 0 s.ram.slots) :
    Mem.Wf 0 (setSlotWord n i v s).ram.slots := Mem.write_wf hw

theorem slotWord_setSlotWord {s : State} (hw : Mem.Wf 0 s.ram.slots) (n m : Fin 32) (i j : Nat) (v : Word) (hi : i < 16)
    (hj : j < 16) : slotWord (setSlotWord n i v s) m j = if m = n ∧ j = i then v else slotWord s m j := by
  split
  · next h => obtain ⟨rfl, rfl⟩ := h; exact Mem.read_write_same hw
  · next h =>
    refine Mem.read_write_other hw fun e => h ?_
    have hm := m.isLt
    have hn := n.isLt
    exact ⟨Fin.ext (by omega), by omega⟩

theorem ofWord_code (x : SlotState) : SlotState.ofWord x.code = x := by cases x <;> rfl

theorem slotState_setSlotState {s : State} (hw : Mem.Wf 0 s.ram.slots) (n m : Fin 32) (x : SlotState) :
    slotState (setSlotState n x s) m = if m = n then x else slotState s m := by
  unfold slotState setSlotState
  rw [slotWord_setSlotWord hw n m 0 0 _ (by omega) (by omega)]
  by_cases h : m = n <;> simp [h, ofWord_code]

theorem follower_setSlotState {s : State} (hw : Mem.Wf 0 s.ram.slots) (n m : Fin 32) (x : SlotState) :
    follower (setSlotState n x s) m = follower s m := by
  unfold follower setSlotState
  rw [slotWord_setSlotWord hw n m 0 1 _ (by omega) (by omega)]
  simp

/-- A write to another word of a slot than its state word changes no state. -/
theorem slotState_setSlotWord {s : State} (hw : Mem.Wf 0 s.ram.slots) (n m : Fin 32) {i : Nat} (v : Word) (hi : i < 16)
    (h0 : i ≠ 0) : slotState (setSlotWord n i v s) m = slotState s m := by
  unfold slotState
  rw [slotWord_setSlotWord hw n m i 0 _ hi (by omega)]
  simp [h0.symm]

theorem follower_setSlotWord_other {s : State} (hw : Mem.Wf 0 s.ram.slots) (n m : Fin 32) {i : Nat} (v : Word) (hi : i < 16)
    (h : m ≠ n) : follower (setSlotWord n i v s) m = follower s m := by
  unfold follower
  rw [slotWord_setSlotWord hw n m i 1 _ hi (by omega)]
  simp [h]

/-! ### The completion service -/

theorem writeFinish_wf {s : State} {n : Fin 32} {f : Finish} {k : Nat} (hw : Mem.Wf 0 s.ram.slots) :
    Mem.Wf 0 (writeFinish n f k s).ram.slots := by
  unfold writeFinish setSlotState
  exact setSlotWord_wf (setSlotWord_wf (setSlotWord_wf (setSlotWord_wf (setSlotWord_wf (setSlotWord_wf hw)))))

/-- The word that `writeFinish` leaves at word `j` of its slot, where it writes one (R9). -/
def finishWord (f : Finish) (k : Nat) : Nat → Option Word
  | 0 => some (if f.outcome = .ok then 4 else 5)
  | 11 => some f.outcome.code
  | 12 => some f.r0
  | 13 => some f.r1
  | 14 => some f.r2
  | 15 => some (Word.nat k)
  | _ => none

/-- A finished slot is DONE or FAILED. -/
def finishedAs (f : Finish) : SlotState := if f.outcome = .ok then .done else .failed

theorem finishedAs_code (f : Finish) :
    (if f.outcome = .ok then SlotState.done else .failed).code = if f.outcome = .ok then 4 else 5 := by
  split <;> rfl

theorem slotWord_writeFinish {s : State} (hw : Mem.Wf 0 s.ram.slots) (n m : Fin 32) (f : Finish) (k j : Nat) (hj : j < 16) :
    slotWord (writeFinish n f k s) m j = if m = n then (finishWord f k j).getD (slotWord s m j) else slotWord s m j := by
  have h1 : Mem.Wf 0 (setSlotWord n 11 f.outcome.code s).ram.slots := setSlotWord_wf hw
  have h2 := setSlotWord_wf (n := n) (i := 12) (v := f.r0) h1
  have h3 := setSlotWord_wf (n := n) (i := 13) (v := f.r1) h2
  have h4 := setSlotWord_wf (n := n) (i := 14) (v := f.r2) h3
  have h5 := setSlotWord_wf (n := n) (i := 15) (v := Word.nat k) h4
  unfold writeFinish setSlotState
  simp only
  rw [slotWord_setSlotWord h5 _ _ _ _ _ (by omega) hj, slotWord_setSlotWord h4 _ _ _ _ _ (by omega) hj,
    slotWord_setSlotWord h3 _ _ _ _ _ (by omega) hj, slotWord_setSlotWord h2 _ _ _ _ _ (by omega) hj,
    slotWord_setSlotWord h1 _ _ _ _ _ (by omega) hj, slotWord_setSlotWord hw _ _ _ _ _ (by omega) hj]
  by_cases h : m = n
  · simp only [h, true_and, if_true]
    interval_cases j <;> simp [finishWord, finishedAs_code]
  · simp [h]

theorem service_slots (n : Fin 32) (f : Finish) (s : State) :
    (service n f s).ram.slots = (writeFinish n f s.time s).ram.slots := rfl

theorem service_wf {s : State} {n : Fin 32} {f : Finish} (hw : Mem.Wf 0 s.ram.slots) :
    Mem.Wf 0 (service n f s).ram.slots := by
  rw [service_slots]
  exact writeFinish_wf hw

theorem slotWord_service {s : State} (hw : Mem.Wf 0 s.ram.slots) (n m : Fin 32) (f : Finish) (j : Nat) (hj : j < 16) :
    slotWord (service n f s) m j = if m = n then (finishWord f s.time j).getD (slotWord s m j) else slotWord s m j := by
  rw [slotWord_congr (service_slots n f s), slotWord_writeFinish hw n m f s.time j hj]

theorem service_intake (n : Fin 32) (f : Finish) (s : State) : (service n f s).disp.intake = s.disp.intake := rfl
theorem service_held (n : Fin 32) (f : Finish) (s : State) : (service n f s).disp.held = s.disp.held := rfl
theorem service_nextRelease (n : Fin 32) (f : Finish) (s : State) : (service n f s).disp.nextRelease = s.disp.nextRelease := rfl
theorem service_owners (n : Fin 32) (f : Finish) (s : State) :
    (service n f s).disp.owners = s.disp.owners.filter fun e => e.1 != n := rfl

theorem slotState_service {s : State} (hw : Mem.Wf 0 s.ram.slots) (n m : Fin 32) (f : Finish) :
    slotState (service n f s) m = if m = n then finishedAs f else slotState s m := by
  unfold slotState
  rw [slotWord_service hw n m f 0 (by omega)]
  by_cases h : m = n
  · simp only [h, if_true, finishWord, Option.getD_some, finishedAs]; split <;> rfl
  · simp [h]

theorem follower_service {s : State} (hw : Mem.Wf 0 s.ram.slots) (n m : Fin 32) (f : Finish) :
    follower (service n f s) m = follower s m := by
  unfold follower
  rw [slotWord_service hw n m f 1 (by omega)]
  simp [finishWord]

/-! ### The queues as collections of slots -/

/-- Each slot that is not in `K` stands in the collection its state word and its FOLLOWER bit name, each once, and a slot of `K` in none
(R4 to R6, R10, R11, R16). A slot of `K` is one the dispatcher has taken and not yet ended. -/
structure State.Sorted (K : List (Fin 32)) (s : State) : Prop where
  wf : Mem.Wf 0 s.ram.slots
  intakeOnce : s.disp.intake.Nodup
  heldOnce : (s.disp.held.map (·.slot)).Nodup
  ownersOnce : (s.disp.owners.map (·.1)).Nodup
  intake : ∀ n, n ∈ s.disp.intake ↔ n ∉ K ∧ slotState s n = .posted ∧ follower s n = false
  held : ∀ n, n ∈ s.disp.held.map (·.slot) ↔ n ∉ K ∧ slotState s n = .posted ∧ follower s n = true
  owners : ∀ n, n ∈ s.disp.owners.map (·.1) ↔ n ∉ K ∧ (slotState s n = .taken ∨ slotState s n = .cancel)

namespace State.Sorted

variable {K L : List (Fin 32)} {s t : State} {n f : Fin 32}

/-- The same slots and collections. -/
theorem congr (h : s.Sorted K) (hr : t.ram.slots = s.ram.slots) (hi : t.disp.intake = s.disp.intake)
    (hh : t.disp.held.map (·.slot) = s.disp.held.map (·.slot)) (ho : t.disp.owners = s.disp.owners) : t.Sorted K where
  wf := hr ▸ h.wf
  intakeOnce := hi ▸ h.intakeOnce
  heldOnce := hh ▸ h.heldOnce
  ownersOnce := ho ▸ h.ownersOnce
  intake n := by rw [hi, slotState_congr hr, follower_congr hr]; exact h.intake n
  held n := by rw [hh, slotState_congr hr, follower_congr hr]; exact h.held n
  owners n := by rw [ho, slotState_congr hr]; exact h.owners n

/-- Only which slots stand in `K` matters. -/
theorem of_mem_iff (h : s.Sorted K) (hk : ∀ m, m ∈ L ↔ m ∈ K) : s.Sorted L :=
  { h with
    intake := fun n => by rw [hk]; exact h.intake n
    held := fun n => by rw [hk]; exact h.held n
    owners := fun n => by rw [hk]; exact h.owners n }

theorem posted_of_held (h : s.Sorted K) (hn : n ∈ s.disp.held.map (·.slot)) : slotState s n = .posted := ((h.held n).1 hn).2.1

theorem not_intake_of_held (h : s.Sorted K) (hn : n ∈ s.disp.held.map (·.slot)) : n ∉ s.disp.intake := fun hi => by
  have h1 := ((h.held n).1 hn).2.2
  have h2 := ((h.intake n).1 hi).2.2
  simp [h1] at h2

theorem not_owners_of_posted (h : s.Sorted K) (hn : slotState s n = .posted) : n ∉ s.disp.owners.map (·.1) := fun ho => by
  have := ((h.owners n).1 ho).2
  simp [hn] at this

theorem not_intake_of_owners (h : s.Sorted K) (hn : n ∈ s.disp.owners.map (·.1)) : n ∉ s.disp.intake := fun hi =>
  h.not_owners_of_posted ((h.intake n).1 hi).2.1 hn

theorem not_held_of_owners (h : s.Sorted K) (hn : n ∈ s.disp.owners.map (·.1)) : n ∉ s.disp.held.map (·.slot) := fun hi =>
  h.not_owners_of_posted (h.posted_of_held hi) hn

theorem not_intake (h : s.Sorted K) (hn : n ∈ K) : n ∉ s.disp.intake := fun hi => ((h.intake n).1 hi).1 hn
theorem not_held (h : s.Sorted K) (hn : n ∈ K) : n ∉ s.disp.held.map (·.slot) := fun hi => ((h.held n).1 hi).1 hn
theorem not_owners (h : s.Sorted K) (hn : n ∈ K) : n ∉ s.disp.owners.map (·.1) := fun hi => ((h.owners n).1 hi).1 hn

/-- R12: a slot in no hand that is taken out of the intake list and the held set belongs to `K`. -/
theorem takeSlot (h : s.Sorted K) (hn : n ∉ s.disp.owners.map (·.1)) : (takeSlot n s).Sorted (n :: K) where
  wf := h.wf
  intakeOnce := h.intakeOnce.filter _
  heldOnce := nodup_map_filter (f := fun x : Held => x.slot) h.heldOnce
  ownersOnce := h.ownersOnce
  intake m := by
    refine (List.mem_filter (p := fun x => x != n)).trans ?_
    rw [h.intake m]
    simp only [bne_iff_ne, List.mem_cons, not_or]
    tauto
  held m := by
    refine (mem_map_filter_ne (fun x : Held => x.slot) s.disp.held n m).trans ?_
    rw [h.held m]
    simp only [List.mem_cons, not_or]
    tauto
  owners m := by
    have hm : m = n → m ∉ s.disp.owners.map (·.1) := fun e => e ▸ hn
    rw [h.owners m] at hm
    refine (h.owners m).trans ?_
    simp only [List.mem_cons, not_or]
    tauto

theorem dropIntake_eq (h : n ∉ s.disp.intake) : dropIntake n s = s := by
  have : (s.disp.intake.filter fun m => m != n) = s.disp.intake := filter_ne_eq_self (f := id) (by simpa using h)
  unfold dropIntake
  rw [this]

/-- A held follower that leaves the held set. -/
theorem dropHeld (h : s.Sorted K) (hf : f ∈ s.disp.held.map (·.slot)) : (dropHeld f s).Sorted (f :: K) := by
  have := h.takeSlot (h.not_owners_of_posted (h.posted_of_held hf))
  rwa [Machine.takeSlot, dropIntake_eq (h.not_intake_of_held hf)] at this

/-- R17: a slot in neither queue is finished; it then stands in no collection, whether it is counted to `K` or not. -/
theorem service (h : s.Sorted K) (hi : n ∉ s.disp.intake) (hh : n ∉ s.disp.held.map (·.slot)) (g : Finish)
    (hk : ∀ m, m ≠ n → (m ∈ L ↔ m ∈ K)) : (service n g s).Sorted L := by
  have hg : finishedAs g ≠ .posted ∧ finishedAs g ≠ .taken ∧ finishedAs g ≠ .cancel := by unfold finishedAs; split <;> simp
  obtain ⟨hp, ht, hc⟩ := hg
  refine ⟨service_wf h.wf, h.intakeOnce, h.heldOnce, nodup_map_filter (f := fun x : Fin 32 × Block => x.1) h.ownersOnce,
    fun m => ?_, fun m => ?_, fun m => ?_⟩
  · rw [service_intake, slotState_service h.wf, follower_service h.wf]
    by_cases e : m = n
    · simp [e, hi, hp]
    · simpa [e, hk m e] using h.intake m
  · rw [service_held, slotState_service h.wf, follower_service h.wf]
    by_cases e : m = n
    · simpa [e, hp] using hh
    · simpa [e, hk m e] using h.held m
  · rw [service_owners, mem_map_filter_ne, slotState_service h.wf]
    by_cases e : m = n
    · simp [e, ht, hc]
    · simpa [e, hk m e] using h.owners m

end State.Sorted

end Sys2Proof.Machine
end

section
/-!
SUPPORT. The end of an order: what the completion service leaves, the induction over a chain, and the chain effect.
-/
namespace Sys2Proof.Machine

/-! ### The held set -/

theorem heldOf_eq_none {s : State} {n : Fin 32} : heldOf s n = none ↔ n ∉ s.disp.held.map (·.slot) := by
  simp [heldOf, List.find?_eq_none]

theorem mem_held_of_heldOf {s : State} {n : Fin 32} {h : Held} (e : heldOf s n = some h) : n ∈ s.disp.held.map (·.slot) := by
  by_contra hn
  rw [heldOf_eq_none.2 hn] at e
  exact absurd e (by simp)

theorem mem_held_of_claimedBy {s : State} {n f : Fin 32} (h : claimedBy s n = some f) : f ∈ s.disp.held.map (·.slot) := by
  obtain ⟨e, he, rfl⟩ := Option.map_eq_some_iff.1 h
  exact List.mem_map_of_mem (List.mem_of_find?_eq_some he)

theorem not_mem_held_dropHeld (n : Fin 32) (s : State) : n ∉ (dropHeld n s).disp.held.map (·.slot) := fun h =>
  ((mem_map_filter_ne (fun x : Held => x.slot) s.disp.held n n).1 h).2 rfl

theorem map_slot_update (l : List Held) (f : Fin 32) (g : Held → Held) (hg : ∀ h, (g h).slot = h.slot) :
    (l.map fun h => if h.slot = f then g h else h).map (·.slot) = l.map (·.slot) := by
  rw [List.map_map]
  refine List.map_congr_left fun h _ => ?_
  simp only [Function.comp_apply]
  split
  · exact hg h
  · rfl

theorem release_slots_held (f : Fin 32) (s : State) : (release f s).disp.held.map (·.slot) = s.disp.held.map (·.slot) :=
  map_slot_update _ _ (fun h => { h with released := some s.disp.nextRelease }) fun _ => rfl

theorem claimFollower_slots_held (n f : Fin 32) (s : State) :
    (claimFollower n f s).disp.held.map (·.slot) = s.disp.held.map (·.slot) :=
  map_slot_update _ _ (fun h => { h with claimed := some n }) fun _ => rfl

/-! ### The chain -/

/-- One step of a broken chain (R19): the follower leaves the held set and is FAILED. -/
def breakLink (f : Fin 32) (s : State) : State := service f { outcome := .chainBroken } (dropHeld f s)

/-- What every step of a broken chain keeps, the whole keeps. -/
theorem chainBreak_keeps {P : State → Prop} (link : ∀ s f, f ∈ s.disp.held.map (·.slot) → P s → P (breakLink f s)) :
    ∀ k f s, f ∈ s.disp.held.map (·.slot) → P s → P (chainBreak k f s)
  | 0, _, _, _, h => h
  | k + 1, f, s, hf, h => by
    have h1 : P (breakLink f s) := link s f hf h
    unfold chainBreak
    simp only
    split
    · exact h1
    · split
      · next e =>
        split
        · exact chainBreak_keeps link k _ _ (mem_held_of_heldOf e) h1
        · exact h1
      · exact h1

/-- What a release and every step of a broken chain keep, the chain effect keeps (R18, R19). -/
theorem chainEffect_keeps {P : State → Prop} (link : ∀ s f, f ∈ s.disp.held.map (·.slot) → P s → P (breakLink f s))
    (rel : ∀ s f, P s → P (release f s)) (n : Fin 32) (o : Outcome) (s : State) (h : P s) : P (chainEffect n o s) := by
  unfold chainEffect
  split
  · exact h
  · next f e =>
    split
    · exact rel s f h
    · exact chainBreak_keeps link 32 f s (mem_held_of_claimedBy e) h

/-! ### What a finish leaves alone -/

section
variable (n : Fin 32) (s : State)

@[simp] theorem setSlotWord_sansOrders (i : Nat) (v : Word) : (setSlotWord n i v s).sansOrders = s.sansOrders := rfl
@[simp] theorem setSlotState_sansOrders (x : SlotState) : (setSlotState n x s).sansOrders = s.sansOrders := rfl
@[simp] theorem dropOwner_sansOrders : (dropOwner n s).sansOrders = s.sansOrders := rfl
@[simp] theorem dropHeld_sansOrders : (dropHeld n s).sansOrders = s.sansOrders := rfl
@[simp] theorem dropIntake_sansOrders : (dropIntake n s).sansOrders = s.sansOrders := rfl
@[simp] theorem takeSlot_sansOrders : (takeSlot n s).sansOrders = s.sansOrders := rfl
@[simp] theorem release_sansOrders : (release n s).sansOrders = s.sansOrders := rfl
@[simp] theorem markNotice_sansOrders (g : Group) (b : BitVec 32) : (markNotice g b s).sansOrders = s.sansOrders := rfl
@[simp] theorem digestUpdate_sansOrders (l : List (Nat × Word)) : (digestUpdate l s).sansOrders = s.sansOrders := rfl

@[simp] theorem raise_sansOrders (g : Group) (b : BitVec 32) : (raise g b s).sansOrders = s.sansOrders := by simp [raise]
@[simp] theorem writeFinish_sansOrders (f : Finish) (k : Nat) : (writeFinish n f k s).sansOrders = s.sansOrders := by
  simp [writeFinish]
@[simp] theorem service_sansOrders (f : Finish) : (service n f s).sansOrders = s.sansOrders := by simp [service]
@[simp] theorem breakLink_sansOrders : (breakLink n s).sansOrders = s.sansOrders := by simp [breakLink]
end

theorem chainEffect_sansOrders (n : Fin 32) (o : Outcome) (s : State) : (chainEffect n o s).sansOrders = s.sansOrders :=
  chainEffect_keeps (P := fun t => t.sansOrders = s.sansOrders)
    (fun t f _ h => (breakLink_sansOrders f t).trans h) (fun t f h => (release_sansOrders f t).trans h) n o s rfl

theorem finish_sansOrders (n : Fin 32) (f : Finish) (s : State) : (finish n f s).sansOrders = s.sansOrders :=
  (chainEffect_sansOrders _ _ _).trans (service_sansOrders _ _ _)

/-- The held set's slots are among these. -/
def HeldWithin (l : List (Fin 32)) (s : State) : Prop := ∀ m ∈ s.disp.held.map (fun h => h.slot), m ∈ l

theorem HeldWithin.breakLink {l : List (Fin 32)} {s : State} (h : HeldWithin l s) (f : Fin 32) : HeldWithin l (breakLink f s) :=
  fun m hm => h m ((mem_map_filter_ne (fun x : Held => x.slot) s.disp.held f m).1 hm).1

theorem HeldWithin.release {l : List (Fin 32)} {s : State} (h : HeldWithin l s) (f : Fin 32) : HeldWithin l (release f s) := by
  unfold HeldWithin
  rw [release_slots_held]
  exact h

/-- An end brings no slot into the held set. -/
theorem finish_held {l : List (Fin 32)} {s : State} (h : HeldWithin l s) (n : Fin 32) (f : Finish) : HeldWithin l (finish n f s) :=
  chainEffect_keeps (fun _ g _ h => h.breakLink g) (fun _ g h => h.release g) n _ _ h

/-! ### A finished slot -/

theorem ofNat_two_pow_getLsbD {w : Nat} (k : Nat) (hk : k < w) : (BitVec.ofNat w (2 ^ k)).getLsbD k = true := by
  rw [BitVec.getLsbD_ofNat, Nat.testBit_two_pow_self]
  simp [hk]

theorem bit_getLsbD (n : Fin 32) : (bit n.val).getLsbD n.val = true := ofNat_two_pow_getLsbD n.val n.isLt

theorem markNotice_notice (g : Group) (b : BitVec 32) (s : State) :
    (markNotice g b s).port.notice.getLsbD g.index.val = true := by
  have h := ofNat_two_pow_getLsbD g.index.val g.index.isLt
  show (s.port.notice ||| BitVec.ofNat 10 (2 ^ g.index.val)).getLsbD g.index.val = true
  rw [BitVec.getLsbD_or, h, Bool.or_true]

theorem markNotice_causes (g : Group) (b : BitVec 32) (s : State) :
    (markNotice g b s).port.causes[g.index] = s.port.causes[g.index] ||| b := by
  simp [markNotice]

theorem index_val_inj {g h : Group} (e : g.index.val = h.index.val) : g = h := by
  cases g <;> cases h <;> first | rfl | exact absurd e (by decide)

theorem markNotice_causes_other {g h : Group} (e : g ≠ h) (b : BitVec 32) (s : State) :
    (markNotice g b s).port.causes[h.index] = s.port.causes[h.index] := by
  have hne : g.index.val ≠ h.index.val := fun i => e (index_val_inj i)
  simp [markNotice, Vector.getElem_set_ne, hne]

/-- A notice once raised stands through another. -/
theorem Noticed.markNotice {s : State} {g : Group} {k : Nat} (h : Noticed s g k) (g' : Group) (b : BitVec 32) :
    Noticed (markNotice g' b s) g k := by
  obtain ⟨hn, hc⟩ := h
  refine ⟨?_, ?_⟩
  · show (s.port.notice ||| BitVec.ofNat 10 (2 ^ g'.index.val)).getLsbD g.index.val = true
    rw [BitVec.getLsbD_or, hn, Bool.true_or]
  · by_cases e : g' = g
    · subst e
      rw [markNotice_causes, BitVec.getLsbD_or, hc, Bool.true_or]
    · rw [markNotice_causes_other e]
      exact hc

/-- R9, R17: what the completion service leaves at its slot. -/
theorem service_finished {s : State} (hw : Mem.Wf 0 s.ram.slots) (n : Fin 32) (f : Finish) : Finished (service n f s) n f := by
  have hword : ∀ j v, j < 16 → finishWord f s.time j = some v → slotWord (service n f s) n j = v := fun j v hj e => by
    rw [slotWord_service hw n n f j hj, if_pos rfl, e]; rfl
  have hcause : (service n f s).port.causes[1].getLsbD n.val = true := by
    have := markNotice_causes .orders (bit n.val) (dropOwner n (writeFinish n f s.time s))
    have h2 : (service n f s).port.causes[1] = _ := this
    rw [h2, BitVec.getLsbD_or, bit_getLsbD, Bool.or_true]
  refine ⟨hword 0 _ (by omega) rfl, hword 11 _ (by omega) rfl, hword 12 _ (by omega) rfl, hword 13 _ (by omega) rfl,
    hword 14 _ (by omega) rfl, hword 15 _ (by omega) rfl, markNotice_notice .orders _ _, hcause, fun e he => ?_⟩
  have hm : e ∈ s.disp.owners.filter fun e => e.1 != n := he
  simpa using (List.mem_filter.1 hm).2

/-- A finished slot that is not held stays as it is while another is finished. -/
theorem Finished.service_other {s : State} {n m : Fin 32} {f : Finish} (hw : Mem.Wf 0 s.ram.slots) (h : Finished s n f) (hm : n ≠ m)
    (g : Finish) : Finished (service m g s) n f := by
  obtain ⟨h0, h11, h12, h13, h14, h15, hnotice, hcause, hown⟩ := h
  have hword : ∀ j, j < 16 → slotWord (service m g s) n j = slotWord s n j := fun j hj => by
    rw [slotWord_service hw m n g j hj, if_neg hm]
  obtain ⟨hn, hc⟩ : Noticed (service m g s) .orders n.val :=
    Noticed.markNotice (s := dropOwner m (writeFinish m g s.time s)) (g := .orders) ⟨hnotice, hcause⟩ .orders (bit m.val)
  refine ⟨?_, ?_, ?_, ?_, ?_, ?_, hn, hc, fun e he => hown e (List.mem_filter.1 (service_owners m g s ▸ he)).1⟩ <;>
    rw [hword _ (by omega)] <;> assumption

/-- The chain effect leaves a finished slot that is not held. -/
theorem Finished.chainEffect {s : State} {n : Fin 32} {f : Finish} (hw : Mem.Wf 0 s.ram.slots) (h : Finished s n f)
    (hh : n ∉ s.disp.held.map (·.slot)) (m : Fin 32) (o : Outcome) : Finished (chainEffect m o s) n f := by
  refine (chainEffect_keeps
    (P := fun t => Mem.Wf 0 t.ram.slots ∧ n ∉ t.disp.held.map (·.slot) ∧ Finished t n f) ?_ ?_ m o s ⟨hw, hh, h⟩).2.2
  · rintro t g hg ⟨tw, th, tf⟩
    refine ⟨service_wf tw, fun hn => ?_, Finished.service_other (s := dropHeld g t) tw tf (fun e => th (e ▸ hg)) _⟩
    exact th ((mem_map_filter_ne (fun x : Held => x.slot) t.disp.held g n).1 hn).1
  · rintro t g ⟨tw, th, tf⟩
    exact ⟨tw, by rwa [release_slots_held], tf⟩

/-- R17: a slot that is not held is finished as asked. -/
theorem finish_finished {s : State} (hw : Mem.Wf 0 s.ram.slots) {n : Fin 32} (hn : n ∉ s.disp.held.map (·.slot)) (f : Finish) :
    Finished (finish n f s) n f :=
  (service_finished hw n f).chainEffect (service_wf hw) hn n f.outcome

theorem chainEffect_wf {s : State} (hw : Mem.Wf 0 s.ram.slots) (n : Fin 32) (o : Outcome) :
    Mem.Wf 0 (chainEffect n o s).ram.slots :=
  chainEffect_keeps (P := fun t => Mem.Wf 0 t.ram.slots) (fun _ _ _ h => service_wf h) (fun _ _ h => h) n o s hw

theorem finish_wf {s : State} (hw : Mem.Wf 0 s.ram.slots) (n : Fin 32) (f : Finish) : Mem.Wf 0 (finish n f s).ram.slots :=
  chainEffect_wf (service_wf hw) _ _

/-- R19: the follower of a leader that fails is FAILED CHAIN_BROKEN and no longer held. -/
theorem chainBreak_finished {s : State} (hw : Mem.Wf 0 s.ram.slots) (k : Nat) (f : Fin 32) :
    Finished (chainBreak (k + 1) f s) f { outcome := .chainBroken } ∧ f ∉ (chainBreak (k + 1) f s).disp.held.map (·.slot) := by
  have hlink : Finished (breakLink f s) f { outcome := .chainBroken } := service_finished (s := dropHeld f s) hw f _
  have hkeep : ∀ g, g ∈ (breakLink f s).disp.held.map (·.slot) →
      Finished (chainBreak k g (breakLink f s)) f { outcome := .chainBroken } ∧
        f ∉ (chainBreak k g (breakLink f s)).disp.held.map (·.slot) := fun g hg => by
    refine (chainBreak_keeps (P := fun t => Mem.Wf 0 t.ram.slots ∧ Finished t f { outcome := .chainBroken } ∧
      f ∉ t.disp.held.map (·.slot)) ?_ k g _ hg ⟨service_wf hw, hlink, not_mem_held_dropHeld f s⟩).2
    rintro t e he ⟨tw, tf, th⟩
    refine ⟨service_wf tw, Finished.service_other (s := dropHeld e t) tw tf (fun h => th (h ▸ he)) _, fun hn => ?_⟩
    exact th ((mem_map_filter_ne (fun x : Held => x.slot) t.disp.held e f).1 hn).1
  unfold chainBreak
  simp only
  split
  · exact ⟨hlink, not_mem_held_dropHeld f s⟩
  · split
    · next e =>
      split
      · exact hkeep _ (mem_held_of_heldOf e)
      · exact ⟨hlink, not_mem_held_dropHeld f s⟩
    · exact ⟨hlink, not_mem_held_dropHeld f s⟩

/-! ### Finishes and the queues -/

namespace State.Sorted

variable {K L : List (Fin 32)} {s : State} {n : Fin 32}

theorem release (h : s.Sorted K) (f : Fin 32) : (release f s).Sorted K := h.congr rfl rfl (release_slots_held f s) rfl

theorem claimFollower (h : s.Sorted K) (n f : Fin 32) : (claimFollower n f s).Sorted K :=
  h.congr rfl rfl (claimFollower_slots_held n f s) rfl

theorem breakLink (h : s.Sorted K) {f : Fin 32} (hf : f ∈ s.disp.held.map (·.slot)) : (breakLink f s).Sorted K :=
  (h.dropHeld hf).service (h.not_intake_of_held hf) (not_mem_held_dropHeld f s) _ fun m hm => by simp [hm]

theorem breakLink_owners (h : s.Sorted K) {f : Fin 32} (hf : f ∈ s.disp.held.map (·.slot)) :
    (Machine.breakLink f s).disp.owners = s.disp.owners :=
  filter_ne_eq_self (f := fun e : Fin 32 × Block => e.1) (h.not_owners_of_posted (h.posted_of_held hf))

/-- R18, R19: the chain effect keeps every slot in its collection and leaves the owner table. -/
theorem chainEffect (h : s.Sorted K) (n : Fin 32) (o : Outcome) :
    (chainEffect n o s).Sorted K ∧ (Machine.chainEffect n o s).disp.owners = s.disp.owners :=
  chainEffect_keeps (P := fun t => t.Sorted K ∧ t.disp.owners = s.disp.owners)
    (fun _ _ hf ⟨ht, ho⟩ => ⟨ht.breakLink hf, (ht.breakLink_owners hf).trans ho⟩) (fun _ f ⟨ht, ho⟩ => ⟨ht.release f, ho⟩)
    n o s ⟨h, rfl⟩

/-- R17: a slot in neither queue is finished, and no other entry of the owner table goes. -/
theorem finish (h : s.Sorted K) (hi : n ∉ s.disp.intake) (hh : n ∉ s.disp.held.map (·.slot)) (f : Finish)
    (hk : ∀ m, m ≠ n → (m ∈ L ↔ m ∈ K)) :
    (finish n f s).Sorted L ∧ (Machine.finish n f s).disp.owners = s.disp.owners.filter fun e => e.1 != n := by
  have hs := h.service hi hh f hk
  exact hs.chainEffect n f.outcome

end State.Sorted

end Sys2Proof.Machine
end

section
/-!
SUPPORT. Orders in hand: what a block holds of an order, what a reaction may do to it (`Eases`), and what the acts of a cascade still
owe the queues (`Pledge`).
-/
namespace Sys2Proof.Machine

/-! ### Orders in hand -/

/-- Block `b` has the order of slot `n` in hand (R16, R112, R149, R172, R183). -/
def State.hands (s : State) (n : Fin 32) : Block → Prop
  | .water => ∃ f, s.water.fill = some f ∧ f.slot = n
  | .movers => ∃ m v, (mover s m).move = some v ∧ v.tag = .host n
  | .lights => (∃ r ∈ s.lights.recalls, r.owner = .host n) ∨ ∃ c, (channel s c).owner = some (.host n)
  | .store => s.store.slot = some n

/-- The queues, the overrun mark, the idle timer, RESET, and what carries an order: a cascade's acts mostly leave this alone. -/
structure Hand where
  slots : Mem
  disp : Dispatcher
  reset : Bool
  overrun : Bool
  idle : Nat
  store : Option (Fin 32)
  fill : Option (Fin 32)
  awning : Option MoveTag
  step : Option MoveTag
  recalls : List Recall
  channels : Vector (Option LightOwner) 6

def State.hand (s : State) : Hand where
  slots := s.ram.slots
  disp := s.disp
  reset := s.pins.reset
  overrun := s.overrun
  idle := s.charge.idle
  store := s.store.slot
  fill := s.water.fill.map (·.slot)
  awning := s.movers.awning.move.map (·.tag)
  step := s.movers.step.move.map (·.tag)
  recalls := s.lights.recalls
  channels := s.lights.channels.map (·.owner)

/-- The tag of a mover's move. -/
def tagOf (s : State) (m : Mover) : Option MoveTag := (mover s m).move.map (·.tag)

/-- From `s` to `t` no block takes an order in hand, the queues stay as they are, and an idle timer at 0 stays there (R58). -/
structure State.Eases (s t : State) : Prop where
  slots : t.ram.slots = s.ram.slots
  disp : t.disp = s.disp
  reset : t.pins.reset = s.pins.reset
  overrun : t.overrun = s.overrun
  idle : s.charge.idle = 0 → t.charge.idle = 0
  store : ∀ n, t.store.slot = some n → s.store.slot = some n
  fill : ∀ n, t.water.fill.map (·.slot) = some n → s.water.fill.map (·.slot) = some n
  moves : ∀ m n, tagOf t m = some (.host n) → tagOf s m = some (.host n)
  recalls : ∀ r ∈ t.lights.recalls, r ∈ s.lights.recalls
  channels : ∀ c n, (channel t c).owner = some (.host n) → (channel s c).owner = some (.host n)

namespace State.Eases

variable {s t u : State}

theorem refl (s : State) : s.Eases s := ⟨rfl, rfl, rfl, rfl, id, fun _ h => h, fun _ h => h, fun _ _ h => h, fun _ h => h, fun _ _ h => h⟩

theorem trans (h : s.Eases t) (g : t.Eases u) : s.Eases u where
  slots := g.slots.trans h.slots
  disp := g.disp.trans h.disp
  reset := g.reset.trans h.reset
  overrun := g.overrun.trans h.overrun
  idle := g.idle ∘ h.idle
  store n e := h.store n (g.store n e)
  fill n e := h.fill n (g.fill n e)
  moves m n e := h.moves m n (g.moves m n e)
  recalls r e := h.recalls r (g.recalls r e)
  channels c n e := h.channels c n (g.channels c n e)

theorem of_hand (h : t.hand = s.hand) : s.Eases t := by
  injection h with h1 h2 h3 h4 hi h5 h6 h7 h8 h9 h10
  refine ⟨h1, h2, h3, h4, hi.trans, fun n e => h5 ▸ e, fun n e => h6 ▸ e, fun m n e => ?_, fun r e => h9 ▸ e, fun c n e => ?_⟩
  · cases m
    · exact h7.symm.trans e
    · exact h8.symm.trans e
  · have hc : (channel t c).owner = (channel s c).owner := by
      have := congrArg (fun v : Vector (Option LightOwner) 6 => v[c]) h10
      simpa [channel] using this
    exact hc ▸ e

theorem hands (h : s.Eases t) {n : Fin 32} {b : Block} (e : t.hands n b) : s.hands n b := by
  cases b with
  | water =>
    obtain ⟨f, hf, hn⟩ := e
    obtain ⟨g, hg⟩ := Option.map_eq_some_iff.1 (h.fill n (by simp [hf, hn]))
    exact ⟨g, hg⟩
  | movers =>
    obtain ⟨m, v, hv, hn⟩ := e
    obtain ⟨w, hw⟩ := Option.map_eq_some_iff.1 (h.moves m n (by simp [tagOf, hv, hn]))
    exact ⟨m, w, hw⟩
  | lights =>
    rcases e with ⟨r, hr, hn⟩ | ⟨c, hc⟩
    · exact .inl ⟨r, h.recalls r hr, hn⟩
    · exact .inr ⟨c, h.channels c n hc⟩
  | store => exact h.store n e

end State.Eases

/-! ### Updates that take no order in hand -/

theorem setIdle_eases (s : State) : s.Eases (setIdle 0 s) :=
  ⟨rfl, rfl, rfl, rfl, fun _ => rfl, fun _ h => h, fun _ h => h, fun _ _ h => h, fun _ h => h, fun _ _ h => h⟩

theorem setDuty_eases (k : Nat) (s : State) : s.Eases (setDuty k s) := .of_hand rfl

theorem setMover_eases (m : Mover) (x : MoverRec) (s : State)
    (h : ∀ n, x.move.map (·.tag) = some (.host n) → tagOf s m = some (.host n)) : s.Eases (setMover m x s) := by
  have hm : ∀ k n, tagOf (setMover m x s) k = some (.host n) → tagOf s k = some (.host n) := fun k n e => by
    cases m <;> cases k <;> first | exact h n e | exact e
  cases m <;> exact ⟨rfl, rfl, rfl, rfl, id, fun _ h => h, fun _ h => h, hm, fun _ h => h, fun _ _ h => h⟩

/-- A mover's record with the move it had, or one of the same tag. -/
theorem setMover_keeps (m : Mover) (x : MoverRec) (s : State) (h : x.move.map (·.tag) = tagOf s m) :
    s.Eases (setMover m x s) := setMover_eases m x s fun _ e => h ▸ e

/-- A mover's record without a move. -/
theorem setMover_drops (m : Mover) (x : MoverRec) (s : State) (h : x.move = none) : s.Eases (setMover m x s) :=
  setMover_eases m x s fun n e => by simp [h] at e

theorem channel_setChannel (c k : Fin 6) (x : Channel) (s : State) :
    channel (setChannel c x s) k = if k = c then x else channel s k := by
  unfold channel setChannel
  by_cases h : k = c
  · subst h; simp
  · have hne : c.val ≠ k.val := fun e => h (Fin.ext e.symm)
    simp [h, Vector.getElem_set_ne, hne]

theorem setChannel_eases (c : Fin 6) (x : Channel) (s : State)
    (h : ∀ n, x.owner = some (.host n) → (channel s c).owner = some (.host n)) : s.Eases (setChannel c x s) := by
  refine ⟨rfl, rfl, rfl, rfl, id, fun _ h => h, fun _ h => h, fun _ _ h => h, fun _ h => h, fun k n e => ?_⟩
  rw [channel_setChannel] at e
  split at e
  · next hk => exact hk ▸ h n e
  · exact e

theorem setFill_keeps (f g : Fill) (s : State) (h : s.water.fill = some g) (hn : f.slot = g.slot) : s.Eases (setFill f s) := by
  refine ⟨rfl, rfl, rfl, rfl, id, fun _ h => h, fun n e => ?_, fun _ _ h => h, fun _ h => h, fun _ _ h => h⟩
  rw [h]
  exact (congrArg some hn.symm).trans e

/-! ### What the acts owe -/

/-- What an act on the stack will do with an order: end it, out of every hand; end the one the dispatcher has taken; or apply a recall for
an owner, ending those it has superseded. -/
inductive Pledge where
  | ends (n : Fin 32)
  | taken (n : Fin 32)
  | recalls (lost : List LightOwner) (owner : LightOwner)

mutual
def Act.pledges : Act → List Pledge
  | .action l => pledgesOf l
  | .finish n _ => [.ends n]
  | .tripDone n _ => [.taken n]
  | .supersede (.host n) _ _ => [.ends n]
  | .recallOn _ n _ _ lost => [.recalls (lost.map (·.1)) n]
  | .applied n _ _ => [.recalls [] n]
  | .doorScene => [.recalls [] (.entry 0)]
  | _ => []

def pledgesOf : List Act → List Pledge
  | [] => []
  | a :: l => a.pledges ++ pledgesOf l
end

theorem pledgesOf_append (l m : List Act) : pledgesOf (l ++ m) = pledgesOf l ++ pledgesOf m := by
  induction l with
  | nil => rfl
  | cons a l ih => simp [pledgesOf, ih]

/-- The acts of a list owe nothing. -/
def Plain (l : List Act) : Prop := pledgesOf l = []

@[simp] theorem plain_nil : Plain [] := rfl

@[simp] theorem plain_cons {a : Act} {l : List Act} : Plain (a :: l) ↔ a.pledges = [] ∧ Plain l := by
  simp [Plain, pledgesOf]

@[simp] theorem plain_append {l m : List Act} : Plain (l ++ m) ↔ Plain l ∧ Plain m := by simp [Plain, pledgesOf_append]

@[simp] theorem plain_ite {c : Prop} [Decidable c] {l m : List Act} :
    Plain (if c then l else m) ↔ (c → Plain l) ∧ (¬ c → Plain m) := by
  split <;> simp [*]

theorem plain_of_forall {l : List Act} (h : ∀ a ∈ l, a.pledges = []) : Plain l := by
  induction l with
  | nil => rfl
  | cons a l ih => exact plain_cons.2 ⟨h a (List.mem_cons_self ..), ih fun b hb => h b (List.mem_cons_of_mem _ hb)⟩

def hostsOf : LightOwner → List (Fin 32)
  | .host n => [n]
  | .entry _ => []

namespace Pledge

/-- The slots of a pledge. -/
def slots : Pledge → List (Fin 32)
  | ends n => [n]
  | taken n => [n]
  | recalls lost o => (lost ++ [o]).flatMap hostsOf

/-- The slot that the dispatcher has taken and the act will end. -/
def loose : Pledge → List (Fin 32)
  | taken n => [n]
  | _ => []

def isRecall : Pledge → Prop
  | recalls _ _ => True
  | _ => False

/-- What a pledge needs of the state to be met. -/
def Holds (s : State) : Pledge → Prop
  | ends n => n ∈ s.disp.owners.map (·.1) ∧ ∀ b, ¬ s.hands n b
  | taken _ => True
  | recalls lost o => ∀ n ∈ (lost ++ [o]).flatMap hostsOf,
      (n, Block.lights) ∈ s.disp.owners ∧ ∀ r ∈ s.lights.recalls, r.owner ≠ .host n

end Pledge

/-- Outside RESET: every slot stands where its state says, but those of `K`; the blocks have in hand what the owner table says; and
the pledges `P` can be met. -/
structure State.Running (K : List (Fin 32)) (P : List Pledge) (s : State) : Prop where
  sorted : s.Sorted (P.flatMap Pledge.loose ++ K)
  inHand : ∀ n b, s.hands n b → (n, b) ∈ s.disp.owners
  apart : ∀ n, ¬ (tagOf s .awning = some (.host n) ∧ tagOf s .step = some (.host n))
  once : (P.flatMap Pledge.slots).Nodup
  oneRecall : P.Pairwise fun p q => ¬ (p.isRecall ∧ q.isRecall)
  holds : ∀ p ∈ P, p.Holds s

/-- The queues of the dispatcher are empty. -/
def State.NoQueues (s : State) : Prop := s.disp.intake = [] ∧ s.disp.held = [] ∧ s.disp.owners = []

/-- The invariant of a cascade in every state, RESET held or not. -/
structure State.Sound (K : List (Fin 32)) (P : List Pledge) (s : State) : Prop where
  wf : Mem.Wf 0 s.ram.slots
  inReset : s.pins.reset = true → s.NoQueues
  running : s.pins.reset = false → s.Running K P

theorem Pledge.Holds.eases {s t : State} (h : s.Eases t) {p : Pledge} (hp : p.Holds s) : p.Holds t := by
  cases p with
  | ends n => exact ⟨h.disp ▸ hp.1, fun b e => hp.2 b (h.hands e)⟩
  | taken n => exact hp
  | recalls lost o => exact fun n hn => ⟨h.disp ▸ (hp n hn).1, fun r hr => (hp n hn).2 r (h.recalls r hr)⟩

variable {K : List (Fin 32)} {P Q : List Pledge} {s t : State} {n : Fin 32}

theorem State.Running.eases (h : s.Eases t) (hs : s.Running K P) : t.Running K P where
  sorted := hs.sorted.congr h.slots (by rw [h.disp]) (by rw [h.disp]) (by rw [h.disp])
  inHand n b e := h.disp ▸ hs.inHand n b (h.hands e)
  apart n e := hs.apart n ⟨h.moves _ n e.1, h.moves _ n e.2⟩
  once := hs.once
  oneRecall := hs.oneRecall
  holds p hp := (hs.holds p hp).eases h

theorem State.Sound.eases (h : s.Eases t) (hs : s.Sound K P) : t.Sound K P where
  wf := h.slots ▸ hs.wf
  inReset hr := by unfold State.NoQueues; rw [h.disp]; exact hs.inReset (h.reset ▸ hr)
  running hr := (hs.running (h.reset ▸ hr)).eases h

/-! ### Ends -/

theorem finish_eq_outside (n : Fin 32) (f : Finish) (s : State) :
    (finish n f s).pins = s.pins ∧ (finish n f s).water = s.water ∧ (finish n f s).movers = s.movers ∧
      (finish n f s).lights = s.lights ∧ (finish n f s).store = s.store ∧ (finish n f s).overrun = s.overrun := by
  have h := finish_sansOrders n f s
  exact ⟨(congrArg State.pins h :), (congrArg State.water h :), (congrArg State.movers h :), (congrArg State.lights h :),
    (congrArg State.store h :), (congrArg State.overrun h :)⟩

/-- The owner table's blocks are told apart by their slots. -/
theorem State.Sorted.block_unique (h : s.Sorted K) {b c : Block} (hb : (n, b) ∈ s.disp.owners) (hc : (n, c) ∈ s.disp.owners) : b = c :=
  congrArg Prod.snd (List.inj_on_of_nodup_map h.ownersOnce hb hc rfl)

theorem mem_owners {b : Block} (h : (n, b) ∈ s.disp.owners) : n ∈ s.disp.owners.map (·.1) := List.mem_map_of_mem h

theorem hands_congr (hw : t.water = s.water) (hm : t.movers = s.movers) (hl : t.lights = s.lights) (hst : t.store = s.store)
    (n : Fin 32) (b : Block) : t.hands n b ↔ s.hands n b := by
  cases b with
  | water => simp only [State.hands, hw]
  | movers =>
    have : ∀ k, mover t k = mover s k := fun k => by cases k <;> simp only [mover, hm]
    simp only [State.hands, this]
  | lights => simp only [State.hands, channel, hl]
  | store => simp only [State.hands, hst]

/-- The order of slot `n`, in no hand, has left the owner table, and no block is touched: `Q` are the pledges that remain. -/
theorem State.Running.ended (h : s.Running K P) {L : List (Fin 32)} {Q : List Pledge} (hs : t.Sorted (Q.flatMap Pledge.loose ++ L))
    (ho : t.disp.owners = s.disp.owners.filter fun e => e.1 != n) (hw : t.water = s.water) (hm : t.movers = s.movers)
    (hl : t.lights = s.lights) (hst : t.store = s.store) (hf : ∀ b, ¬ s.hands n b) (hq : Q.Sublist P)
    (hn : n ∉ Q.flatMap Pledge.slots) : t.Running L Q := by
  have hands := hands_congr hw hm hl hst
  have kept : ∀ {m b}, m ≠ n → (m, b) ∈ s.disp.owners → (m, b) ∈ t.disp.owners := fun hne hb => by
    rw [ho]; exact List.mem_filter.2 ⟨hb, by simpa using hne⟩
  have tags : ∀ k, tagOf t k = tagOf s k := fun k => by cases k <;> simp only [tagOf, mover, hm]
  refine ⟨hs, fun m b e => ?_, fun m => by rw [tags, tags]; exact h.apart m, h.once.sublist (hq.flatMap _),
    h.oneRecall.sublist hq, fun p hp => ?_⟩
  · have e' := (hands m b).1 e
    exact kept (fun hne => hf b (hne ▸ e')) (h.inHand m b e')
  · have hold := h.holds p (hq.subset hp)
    have hne : ∀ m ∈ p.slots, m ≠ n := fun m hm e => hn (e ▸ List.mem_flatMap.2 ⟨p, hp, hm⟩)
    cases p with
    | ends m =>
      obtain ⟨hm, hb⟩ := hold
      obtain ⟨⟨x, b⟩, hx, rfl⟩ := List.mem_map.1 hm
      exact ⟨mem_owners (kept (hne x (by simp [Pledge.slots])) hx), fun c e => hb c ((hands x c).1 e)⟩
    | taken m => trivial
    | recalls lost o => exact fun m hm => ⟨kept (hne m hm) (hold m hm).1, by rw [hl]; exact (hold m hm).2⟩

/-- A slot that is in neither queue and in no hand is finished. -/
theorem State.Running.finish (f : Finish) (h : s.Running K P) (hi : n ∉ s.disp.intake) (hh : n ∉ s.disp.held.map (·.slot))
    (hf : ∀ b, ¬ s.hands n b) {L : List (Fin 32)} {Q : List Pledge} (hq : Q.Sublist P) (hn : n ∉ Q.flatMap Pledge.slots)
    (hk : ∀ m, m ≠ n → (m ∈ Q.flatMap Pledge.loose ++ L ↔ m ∈ P.flatMap Pledge.loose ++ K)) :
    (finish n f s).Running L Q := by
  obtain ⟨hs, ho⟩ := h.sorted.finish hi hh f hk
  obtain ⟨-, hw, hm, hl, hst, -⟩ := finish_eq_outside n f s
  exact h.ended hs ho hw hm hl hst hf hq hn

end Sys2Proof.Machine
end

section
/-!
SUPPORT. The acts of a cascade that take no order in hand and owe nothing: the reactions of the blocks, one lemma each.
-/
namespace Sys2Proof.Machine

/-- A reaction that takes no order in hand and sets off acts that owe nothing. -/
def Mild (s : State) (x : React) : Prop := s.Eases x.1 ∧ Plain x.2

/-- A reaction that leaves `hand` alone. -/
theorem Mild.of_hand {s t : State} {l : List Act} (h : t.hand = s.hand) (hl : Plain l) : Mild s (t, l) := ⟨.of_hand h, hl⟩

theorem mild_nil (s : State) : Mild s (s, []) := ⟨.refl s, plain_nil⟩

/-- The same for a step of a run: what the stack owes is as it was. -/
def Run.Mild (r r' : Run) : Prop := r.st.Eases r'.st ∧ pledgesOf r'.work = pledgesOf r.work

namespace Run

variable (r : Run)

theorem Mild.refl : r.Mild r := ⟨.refl _, rfl⟩

variable {r} in
theorem Mild.trans {r' r'' : Run} (h : r.Mild r') (g : r'.Mild r'') : r.Mild r'' := ⟨h.1.trans g.1, g.2.trans h.2⟩

variable {r} in
theorem Mild.of_hand {r' : Run} (h : r'.st.hand = r.st.hand) (hw : pledgesOf r'.work = pledgesOf r.work) : r.Mild r' :=
  ⟨.of_hand h, hw⟩

theorem react_mild {f : State → React} (h : Machine.Mild r.st (f r.st)) : r.Mild (r.react f) :=
  ⟨h.1, (pledgesOf_append _ _).trans (by rw [h.2]; rfl)⟩

theorem push_mild {l : List Act} (h : Plain l) : r.Mild (r.push l) :=
  ⟨.refl _, (pledgesOf_append _ _).trans (by rw [h]; rfl)⟩

/-! ### The outlet controller -/

theorem dark_mild (o : Fin 16) (x : OutletState) : r.Mild (r.dark o x) := .of_hand rfl rfl
theorem grant_mild (o : Fin 16) : r.Mild (r.grant o) := .of_hand rfl rfl

theorem judge_mild (o : Fin 16) : r.Mild (r.judge o) := by
  unfold judge; (repeat' split) <;> exact .of_hand rfl rfl

theorem passEnd_mild (g : Goal) : r.Mild (r.passEnd g) := by
  unfold passEnd; split
  · exact Mild.refl r
  · simp only; (repeat' split) <;> exact .of_hand rfl rfl

theorem pass_mild (g : Goal) : r.Mild (r.pass g) := by
  unfold pass
  split
  · exact passEnd_mild r g
  · split
    · exact passEnd_mild r g
    · split <;> exact .of_hand rfl rfl

theorem overLimit_mild (b : Bool) : r.Mild (r.overLimit b) := by
  unfold overLimit; split <;> exact .of_hand rfl rfl

theorem cut_mild (o : Fin 16) (c : Cut) : r.Mild (r.cut o c) := by
  unfold cut; (repeat' split) <;> exact .of_hand rfl rfl

theorem foldDark_mild (x : OutletState) (l : List (Fin 16)) : ∀ r : Run, r.Mild (l.foldl (fun r o => r.dark o x) r) := by
  induction l with
  | nil => exact Mild.refl
  | cons o l ih => exact fun r => (dark_mild r o x).trans (ih _)

theorem cutRest_mild : r.Mild r.cutRest := foldDark_mild _ _ _
theorem unshed_mild : r.Mild r.unshed := foldDark_mild _ _ _

theorem plain_askShed (s : State) (o : Fin 16) : Plain (askShed s o) := by unfold askShed; split <;> rfl

theorem plain_action {l : List Act} (h : Plain l) : Plain [.action l] := by
  rw [Plain, pledgesOf, Act.pledges, h]; rfl

theorem shedLevel_mild (n : Nat) : r.Mild (r.shedLevel n) := by
  have hlevel : r.Mild (r.onState fun s => { s with outlets := { s.outlets with shedLevel := n } }) := .of_hand rfl rfl
  unfold shedLevel
  simp only
  split
  · exact hlevel.trans (push_mild _ (plain_action (by simp [plain_askShed, Act.pledges])))
  · split
    · exact hlevel.trans ((unshed_mild _).trans (push_mild _ rfl))
    · exact hlevel

theorem limit_mild (n : Nat) : r.Mild (r.limit n) := by
  unfold limit; simp only; (repeat' split) <;> exact .of_hand rfl rfl

theorem rejudge_mild (o : Fin 16) (c : Class) : r.Mild (r.rejudge o c) := by
  unfold rejudge; (repeat' split) <;> exact .of_hand rfl rfl

theorem arbiter_mild : r.Mild r.arbiter := by
  have h : Plain ((waitingOrder r.st).map Act.consider) := plain_of_forall fun a ha => by
    obtain ⟨o, -, rfl⟩ := List.mem_map.1 ha; rfl
  exact (Mild.of_hand (r' := { r with room := false }) rfl rfl).trans (push_mild _ h)

theorem consider_mild (o : Fin 16) : r.Mild (r.consider o) := by
  unfold consider; (repeat' split) <;> exact .of_hand rfl rfl

theorem clearTrip_mild (o : Fin 16) : r.Mild (r.clearTrip o) := by
  unfold clearTrip; split <;> exact .of_hand rfl rfl

theorem rises_mild (l : List (Fin 16 × Nat)) : ∀ r : Run, r.Mild (r.rises l) := by
  induction l with
  | nil => exact Mild.refl
  | cons p l ih =>
    intro r
    refine Mild.trans (r' := if (outlet r.st p.1).inhibit = 0 ∧ ((outlet r.st p.1).state = .on ∨
        (outlet r.st p.1).state = .waiting ∨ (outlet r.st p.1).state = .shed)
      then (r.onState (setOutlet p.1 { outlet r.st p.1 with inhibit := (outlet r.st p.1).inhibit + p.2 })).dark p.1 .inhibited
      else r.onState (setOutlet p.1 { outlet r.st p.1 with inhibit := (outlet r.st p.1).inhibit + p.2 })) ?_ (ih _)
    split <;> exact .of_hand rfl rfl

theorem fall_mild (o : Fin 16) (k : Nat) : r.Mild (r.fall o k) := by
  unfold fall; simp only; split <;> exact .of_hand rfl rfl

theorem takeReq_mild (q : Req) : r.Mild (takeReq q r) := by
  unfold takeReq
  split
  · unfold takeDemand; simp only; split <;> exact .of_hand rfl rfl
  · unfold takeWithdraw; split <;> exact .of_hand rfl rfl
  · unfold takeCharge; simp only; (repeat' split) <;> exact .of_hand rfl rfl
  · exact .of_hand rfl rfl

/-- An action owes what its operations owe. -/
theorem action_pledges (l : List Act) : pledgesOf (r.action l).work = pledgesOf l ++ pledgesOf r.work := by
  show pledgesOf ((l ++ [Act.flush, Act.actEnd, Act.restore r.room]) ++ r.work) = _
  rw [List.append_assoc, pledgesOf_append]; rfl

theorem take_mild (q : Req) : r.Mild (r.take q) := by
  unfold take; split
  · exact .of_hand rfl (action_pledges r _)
  · exact takeReq_mild r q

theorem req_mild (q : Req) : r.Mild (r.req q) := by unfold req; split <;> exact .of_hand rfl rfl
theorem drain_mild : r.Mild r.drain := by
  unfold drain; split
  · exact Mild.refl r
  · exact .of_hand rfl rfl
theorem arbiterIf_mild : r.Mild r.arbiterIf := by unfold arbiterIf; split <;> exact .of_hand rfl rfl
theorem flush_mild : r.Mild r.flush := by unfold flush; (repeat' split) <;> exact .of_hand rfl rfl
theorem drainIfDone_mild : r.Mild r.drainIfDone := by unfold drainIfDone; split <;> exact .of_hand rfl rfl
theorem actEnd_mild : r.Mild r.actEnd :=
  Mild.trans (r' := ({ r with acting := r.acting - 1 } : Run).onState (syncPart .outlets)) (.of_hand rfl rfl) (drainIfDone_mild _)
theorem evalEnd_mild : r.Mild r.evalEnd :=
  Mild.trans (r' := { r with evals := r.evals - 1 }) (.of_hand rfl rfl) (drainIfDone_mild _)
theorem apart_mild : r.Mild r.apart := .of_hand rfl rfl
theorem seqReport_mild : r.Mild r.seqReport := by unfold seqReport; simp only; split <;> exact .of_hand rfl rfl

end Run

/-! ### The interlock engine -/

theorem plain_netFalls (l : List Change) : Plain (netFalls l) := plain_of_forall fun a ha => by
  obtain ⟨o, -, e⟩ := List.mem_filterMap.1 ha
  simp only at e
  split at e
  · cases e; rfl
  · cases e

theorem plain_handOut (l : List Change) : Plain (handOut l) := by
  have hr : ∀ m, Plain (blockRiseActs l m) := fun m => by unfold blockRiseActs; simp only; split <;> rfl
  have hf : ∀ m, Plain (blockFallActs l m) := fun m => by unfold blockFallActs; simp only; split <;> rfl
  have hrise : Plain [.action [.rises (netRises l)]] := rfl
  simp [handOut, hr, hf, plain_netFalls, hrise, Act.pledges]

theorem Run.signal_mild (g : Signal) (v : Nat) (r : Run) : r.Mild (r.signal g v) := by
  unfold Run.signal
  split
  · exact .refl r
  · split
    · refine ⟨.of_hand rfl, (pledgesOf_append _ _).trans ?_⟩
      rw [plain_handOut]; rfl
    · exact .of_hand rfl rfl

theorem setBlockCount_hand (m : Mover) (k : Nat) (s : State) : (setBlockCount m k s).hand = s.hand := by cases m <;> rfl

section
variable (s : State)

theorem blockRise_mild (m : Mover) (k : Nat) : Mild s (blockRise m k s) :=
  .of_hand (setBlockCount_hand _ _ _) (by simp [Act.pledges])

theorem blockFall_hand (m : Mover) (k : Nat) : (blockFall m k s).hand = s.hand := setBlockCount_hand _ _ _

theorem evalNotices_hand (l : List Nat) (b : Bool) : (evalNotices l b s).hand = s.hand := by
  unfold evalNotices; simp only; (repeat' split) <;> rfl

/-! ### Charge monitor and node link -/

theorem showing_mild {l : List Part} {f : State → React} (h : Mild s (f s)) : Mild s (showing l f s) :=
  ⟨h.1.trans (.of_hand rfl), h.2⟩
theorem closing_mild {m l : List Part} {f : State → React} (h : Mild s (f s)) : Mild s (closing m l f s) := ⟨h.1, by simpa [closing, Act.pledges] using h.2⟩

theorem solarEval_mild : Mild s (solarEval s) := by unfold solarEval; split <;> exact .of_hand rfl rfl
theorem shedEval_mild : Mild s (shedEval s) := by unfold shedEval; simp only; split <;> exact .of_hand rfl rfl
theorem limitEval_mild : Mild s (limitEval s) := by unfold limitEval; simp only; split <;> exact .of_hand rfl rfl

theorem linkChoose_hand (now : Nat) : (linkChoose now s).hand = s.hand := by
  unfold linkChoose
  simp only
  split
  · rfl
  · unfold sendHeater; simp only; split <;> rfl
  · split
    · rfl
    · split <;> rfl

theorem chooseIfIdle_hand : (chooseIfIdle s).hand = s.hand := by
  unfold chooseIfIdle; split
  · exact linkChoose_hand _ _
  · rfl

theorem postHeater_mild (e : HeaterEntry) : Mild s (postHeater e s) := by
  unfold postHeater; split
  · cases e <;> exact .of_hand rfl rfl
  · exact .of_hand ((chooseIfIdle_hand _).trans rfl) rfl

theorem postFloat_mild : Mild s (postFloat s) := by
  unfold postFloat; split
  · exact .of_hand rfl rfl
  · exact .of_hand ((chooseIfIdle_hand _).trans rfl) rfl

theorem floatDone_mild (x : CmdResult) : Mild s (floatDone x s) := .of_hand rfl rfl

/-! ### Water -/

theorem pumpStart_mild : Mild s (pumpStart s) := by unfold pumpStart; split <;> exact .of_hand rfl rfl
theorem pumpDry_mild (c : DryCause) : Mild s (pumpDry c s) := .of_hand rfl rfl
theorem pumpLeaveDry_mild : Mild s (pumpLeaveDry s) := .of_hand rfl (by simp [Act.pledges])
theorem freshPump_mild : Mild s (freshPump s) := by
  unfold freshPump
  split
  · exact .of_hand rfl rfl
  · split
    · exact pumpLeaveDry_mild s
    · exact mild_nil s
theorem pumpReport_mild (x : OutletState) : Mild s (pumpReport x s) := by
  unfold pumpReport; (repeat' split) <;> exact .of_hand rfl rfl
theorem fillEnd_mild (e : FillEnd) : Mild s (fillEnd e s) := by unfold fillEnd; split <;> exact .of_hand rfl rfl
theorem freshFill_mild : Mild s (freshFill s) := by
  unfold freshFill; split
  · exact fillEnd_mild s _
  · exact mild_nil s
theorem fillReport_mild (x : OutletState) : Mild s (fillReport x s) := by
  unfold fillReport; split
  · exact mild_nil s
  · next f e =>
    have hf : ∀ g : Fill, g.slot = f.slot → s.Eases (setFill g s) := fun g hg => setFill_keeps g f s e hg
    have hend : ∀ e, Mild s (fillEnd e (setFill { f with valve := x } s)) := fun e =>
      ⟨(hf { f with valve := x } rfl).trans (fillEnd_mild _ e).1, (fillEnd_mild _ e).2⟩
    simp only
    split
    · exact ⟨hf _ rfl, rfl⟩
    · exact ⟨hf _ rfl, rfl⟩
    · exact hend _
    · exact hend _
    · exact hend _
    · exact ⟨hf _ rfl, rfl⟩
theorem plain_stageActs (t : Option Int) : Plain (stageActs s t) := by unfold stageActs; split <;> rfl
theorem frostEval_mild (b : Bool) : Mild s (frostEval b s) := by
  unfold frostEval; simp only; split
  · refine .of_hand rfl ?_
    split
    · exact plain_stageActs s _
    · rfl
  · have hb : ∀ t, Plain (blindActs s t).2 := fun t => by unfold blindActs; simp only; split <;> rfl
    exact .of_hand rfl (plain_append.2 ⟨hb _, plain_stageActs s _⟩)
theorem stageChange_mild (t : Stage) (b : BitVec 32) : Mild s (stageChange t b s) := by
  unfold stageChange; simp only; split
  · exact mild_nil s
  · exact .of_hand rfl (by simp [Act.pledges])
theorem stageFill_mild (t : Stage) : Mild s (stageFill t s) := by
  unfold stageFill; split
  · exact fillEnd_mild s _
  · exact mild_nil s
theorem stageLeave_mild (a b : Stage) : Mild s (stageLeave a b s) :=
  .of_hand rfl (by simp [Act.pledges])
theorem stageBegin_mild (a b : Stage) : Mild s (stageBegin a b s) :=
  .of_hand rfl (by simp [Act.pledges])
theorem drainLatch_mild : Mild s (drainLatch s) := .of_hand rfl rfl

/-! ### Climate -/

theorem plain_flapActs (o : Fin 16) (a b : Bool) : Plain (flapActs s o a b) := by unfold flapActs; (repeat' split) <;> rfl

theorem climateChange_mild (f : Climate → Climate) : Mild s (climateChange f s) :=
  .of_hand rfl (by simp [plain_flapActs, Act.pledges])

theorem zoneFollow_mild (z : Fin 3) : Mild s (zoneFollow z s) := climateChange_mild s _

theorem frostDemand_mild (b : Bool) : Mild s (frostDemand b s) := by
  unfold frostDemand; split
  · exact mild_nil s
  · obtain ⟨hs, hl⟩ := climateChange_mild s fun c => { c with frost := b, zones := c.zones.set 2 (lockerZone b c.zones[2]) }
    exact ⟨hs, by simpa [Act.pledges] using hl⟩

theorem heatDemand_mild : Mild s (heatDemand s) :=
  .of_hand rfl (by simp [Act.pledges])
theorem enter_mild (x : SeqState) (b : BitVec 32) : Mild s (enter x b s) :=
  .of_hand rfl (by simp [Act.pledges])
theorem heaterTest_mild : Mild s (heaterTest s) := by unfold heaterTest; split <;> exact .of_hand rfl rfl
theorem igniting_mild : Mild s (igniting s) := .of_hand rfl rfl
theorem startFail_mild (b : BitVec 32) : Mild s (startFail b s) := by unfold startFail; split <;> exact .of_hand rfl rfl
theorem stopping_mild (b : Bool) : Mild s (stopping b s) := .of_hand rfl (by simp [Act.pledges])
theorem running_mild : Mild s (running s) := .of_hand rfl rfl
theorem runJudge_mild : Mild s (runJudge s) := by unfold runJudge; (repeat' split) <;> exact .of_hand rfl rfl
theorem runShed_mild : Mild s (runShed s) := by unfold runShed; split <;> exact .of_hand rfl rfl
theorem seqDemand_mild : Mild s (seqDemand s) := by unfold seqDemand; (repeat' split) <;> exact .of_hand rfl rfl
theorem seqLevel_mild : Mild s (seqLevel s) := by unfold seqLevel; split <;> exact .of_hand rfl rfl
theorem seqFrost_mild (b : Bool) : Mild s (seqFrost b s) := by unfold seqFrost; (repeat' split) <;> exact .of_hand rfl rfl
theorem seqShed_mild : Mild s (seqShed s) := by unfold seqShed; split <;> exact .of_hand rfl rfl
theorem cooldownEnd_mild : Mild s (cooldownEnd s) := by unfold cooldownEnd; (repeat' split) <;> exact .of_hand rfl rfl
theorem offFaulty_mild : Mild s (offFaulty s) := by unfold offFaulty; (repeat' split) <;> exact .of_hand rfl rfl
@[simp] theorem plain_toOff (b : BitVec 32) : Plain (toOff b) := rfl
@[simp] theorem plain_toLocked (b : BitVec 32) : Plain (toLocked b) := rfl
theorem runningReading_mild (u : UnitReading) : Mild s (runningReading u s) := by
  unfold runningReading; (repeat' split) <;> exact .of_hand rfl rfl
theorem lostReading_mild (u : UnitReading) (b : Bool) : Mild s (lostReading u b s) := by
  unfold lostReading
  split
  · exact .of_hand rfl rfl
  · split
    · exact .of_hand rfl (by simp)
    · split
      · exact .of_hand rfl (by simp [Act.pledges])
      · exact mild_nil s
theorem unitReading_mild (u : Option UnitReading) (b : Bool) : Mild s (unitReading u b s) := by
  have hlast : s.Eases (setSeq (fun q => { q with last := u }) s) := .of_hand rfl
  unfold unitReading
  simp only
  split
  · exact .of_hand rfl (by simp [Act.pledges])
  · exact .of_hand rfl rfl
  · exact .of_hand rfl rfl
  · exact .of_hand rfl (by simp [Act.pledges])
  · exact .of_hand rfl (by simp [Act.pledges])
  · split
    · exact .of_hand rfl rfl
    · split <;> exact .of_hand rfl rfl
  · exact ⟨hlast.trans (runningReading_mild _ _).1, (runningReading_mild _ _).2⟩
  · exact .of_hand rfl (by simp [Act.pledges])
  · exact .of_hand rfl rfl
  · exact ⟨hlast.trans (lostReading_mild _ _ _).1, (lostReading_mild _ _ _).2⟩
theorem unitLost_mild : Mild s (unitLost s) := by unfold unitLost; split <;> exact .of_hand rfl rfl
theorem heaterResult_mild (c : HeaterCmd) (x : CmdResult) (b : Bool) : Mild s (heaterResult c x b s) := by
  unfold heaterResult; (repeat' split) <;> exact .of_hand rfl rfl
theorem supplyReport_mild (x : OutletState) : Mild s (supplyReport x s) := by
  unfold supplyReport; simp only
  split
  · split <;> exact .of_hand rfl rfl
  · unfold supplyTripped; split <;> exact .of_hand rfl rfl
  · exact .of_hand rfl rfl
theorem supplyAsk_mild : Mild s (supplyAsk s) := by unfold supplyAsk; (repeat' split) <;> exact .of_hand rfl rfl

/-! ### Movers -/

@[simp] theorem setPending_hand (m : Mover) (b : Bool) : (setPending m b s).hand = s.hand := by cases m <;> rfl

theorem stowSignal_mild (m : Mover) : Mild s (stowSignal m s) := by
  unfold stowSignal; simp only; split
  · exact .of_hand (setPending_hand _ _ _) rfl
  · exact .of_hand rfl rfl

theorem claim_mild (m : Mover) : Mild s (claim m s) := by unfold claim; split <;> exact .of_hand rfl rfl

theorem leaveStalled_eases (m : Mover) : s.Eases (leaveStalled m s) := by
  unfold leaveStalled; simp only; split
  · exact setMover_keeps m _ s rfl
  · exact .refl s

theorem autoStart_mild (m : Mover) (t : MoveTag) (d : Dir) (ht : ∀ n, t ≠ .host n) : Mild s (autoStart m t d s) :=
  ⟨(leaveStalled_eases s m).trans (setMover_eases m _ _ fun n e => absurd (Option.some.inj e) (ht n)), rfl⟩

theorem requestRetract_mild (m : Mover) : Mild s (requestRetract m s) := by
  unfold requestRetract; split
  · exact mild_nil s
  · split
    · exact autoStart_mild s m _ _ nofun
    · exact .of_hand (setPending_hand _ _ _) rfl

theorem serveRelease_mild : Mild s (serveRelease s) := by
  have hstart : ∀ m, Mild s (autoStart m .retract .inward (setPending m false s)) := fun m =>
    have h := autoStart_mild (setPending m false s) m .retract .inward nofun
    ⟨(State.Eases.of_hand (setPending_hand s m false)).trans h.1, h.2⟩
  unfold serveRelease
  split
  · exact mild_nil s
  · split
    · exact hstart .step
    · split
      · exact hstart .awning
      · exact mild_nil s

theorem extension_mild : Mild s (extension s) := by
  unfold extension; simp only
  split
  · split
    · exact .of_hand rfl rfl
    · exact autoStart_mild s _ _ _ nofun
  · exact mild_nil s

theorem tagOf_of_move {m : Mover} {v : Move} (h : (mover s m).move = some v) : tagOf s m = some v.tag := by
  simp [tagOf, h]

/-- A mover's record whose move has the tag of the one it replaces. -/
theorem setMover_keeps_move {m : Mover} {v w : Move} {x : MoverRec} (h : (mover s m).move = some v) (hx : x.move = some w)
    (hw : w.tag = v.tag := by rfl) : s.Eases (setMover m x s) :=
  setMover_keeps m x s (by rw [hx, tagOf_of_move s h, Option.map_some, hw])

theorem stopDrive_eases (m : Mover) (b : Bool) : s.Eases (stopDrive m b s) := by
  unfold stopDrive; simp only
  split
  · next v e =>
    split
    · exact (setMover_keeps_move s e rfl).trans (.of_hand rfl)
    · exact setMover_keeps_move s e rfl
  · exact .refl s

theorem plain_endActs (m : Mover) (f : Outcome) (w : Word) : Plain (endActs s m f w) := by
  simp [endActs, Act.pledges]

theorem moveEnd_mild (m : Mover) (f : Outcome) (w : Word) : Mild s (moveEnd m f w s) := by
  unfold moveEnd
  split
  · exact mild_nil s
  · split
    · exact mild_nil s
    · exact ⟨stopDrive_eases s _ _, plain_endActs s _ _ _⟩

theorem moveFree_hand (m : Mover) : (moveFree m s).hand = s.hand := by unfold moveFree; split <;> rfl

theorem driveStart_mild (m : Mover) (v : Move) (h : (mover s m).move = some v) : Mild s (driveStart m v s) := by
  unfold driveStart; simp only
  split
  · exact .of_hand rfl rfl
  · exact ⟨((setMover_keeps_move s h rfl).trans (setDuty_eases _ _)).trans (setIdle_eases _), rfl⟩

theorem bridgeReport_mild (x : OutletState) : Mild s (bridgeReport x s) := by
  unfold bridgeReport
  split
  · exact mild_nil s
  · split
    · exact mild_nil s
    · next v e =>
      split
      · exact .of_hand rfl (by simp [plain_endActs])
      · split
        · exact .of_hand rfl rfl
        · split
          · exact mild_nil s
          · exact driveStart_mild s _ v e
        · simp only
          split
          · exact mild_nil s
          · exact ⟨setMover_keeps_move s e rfl, rfl⟩

theorem bridgeAsk_mild : Mild s (bridgeAsk s) := by
  unfold bridgeAsk; split
  · exact ⟨stopDrive_eases s _ _, rfl⟩
  · exact mild_nil s

theorem blockBegins_mild (m : Mover) : Mild s (blockBegins m s) := by
  unfold blockBegins; (repeat' split) <;> exact .of_hand rfl rfl

/-! ### Lighting -/

theorem plain_lightDemand (c : Fin 6) : Plain (lightDemand s c) := by unfold lightDemand; simp only; (repeat' split) <;> rfl

theorem ramp_mild (c : Fin 6) : Mild s (ramp c s) := by
  unfold ramp; simp only; split
  · refine ⟨setChannel_eases c _ s fun _ h => h, plain_append.2 ⟨plain_append.2 ⟨?_, ?_⟩, rfl⟩⟩
    · simp [plain_lightDemand]
    · split <;> rfl
  · exact mild_nil s

theorem lightCut_mild (c : Fin 6) (b : Bool) {l : List Act} (h : Plain l) : Mild s (lightCut c b l s) :=
  ⟨setChannel_eases c _ s fun _ h => h, by simp [lightCut, plain_lightDemand, h]⟩

theorem lightReport_mild (c : Fin 6) (a b : OutletState) : Mild s (lightReport c a b s) := by
  have hshow : Plain [.shown [.channel c] recallParts] := rfl
  unfold lightReport
  simp only
  split
  · split
    · exact ⟨setChannel_eases c _ s nofun, plain_append.2 ⟨rfl, plain_append.2 ⟨by split <;> rfl, hshow⟩⟩⟩
    · split
      · exact ⟨setChannel_eases c _ s fun _ h => h, plain_append.2 ⟨by split <;> rfl, hshow⟩⟩
      · exact ⟨.refl s, plain_append.2 ⟨by split <;> rfl, hshow⟩⟩
  · exact lightCut_mild s c _ (plain_append.2 ⟨by split <;> rfl, hshow⟩)
  · exact lightCut_mild s c _ (plain_append.2 ⟨by split <;> rfl, hshow⟩)
  · exact lightCut_mild s c _ (plain_append.2 ⟨by split <;> rfl, hshow⟩)
  · exact lightCut_mild s c _ (plain_append.2 ⟨by split <;> rfl, hshow⟩)
  · exact ⟨setChannel_eases c _ s fun _ h => h, plain_append.2 ⟨by split <;> rfl, hshow⟩⟩

theorem lookup_hand (n : Fin 32) : (lookup n s).1.hand = s.hand := by
  unfold lookup; simp only
  (repeat' split) <;> rfl

theorem dropRecalls_eases (l : List LightOwner) : s.Eases (dropRecalls l s) :=
  ⟨rfl, rfl, rfl, rfl, id, fun _ h => h, fun _ h => h, fun _ _ h => h, fun _ h => (List.mem_filter.1 h).1, fun _ _ h => h⟩

theorem clearOwner_eases (n : LightOwner) (cs : List (Fin 6)) : ∀ s : State, s.Eases (clearOwner n cs s) := by
  induction cs with
  | nil => exact .refl
  | cons c cs ih =>
    intro s
    refine .trans ?_ (ih _)
    split
    · exact setChannel_eases c _ s nofun
    · exact .refl s

theorem clearOwners_eases (l : List LightOwner) : ∀ s : State, s.Eases (clearOwners l s) := by
  induction l with
  | nil => exact .refl
  | cons n l ih => exact fun s => (clearOwner_eases n channels s).trans (ih _)

/-! ### Owners -/

theorem ownerReport_mild (o : Fin 16) (a b : OutletState) : Mild s (ownerReport o a b s) := by
  unfold ownerReport
  split
  · exact mild_nil s
  · split
    · exact showing_mild s (pumpReport_mild s _)
    · split
      · exact closing_mild s (supplyReport_mild s _)
      · split
        · exact bridgeReport_mild s _
        · split
          · exact showing_mild s (fillReport_mild s _)
          · split
            · exact .of_hand rfl rfl
            · split
              · exact lightReport_mild s _ _ _
              · exact mild_nil s

theorem ownerAsk_mild (o : Fin 16) : Mild s (ownerAsk o s) := by
  unfold ownerAsk
  split
  · exact supplyAsk_mild s
  · split
    · exact bridgeAsk_mild s
    · exact mild_nil s

end

end Sys2Proof.Machine
end

section
/-!
SUPPORT. The acts of a cascade that end orders or take recalls in hand, and the invariant of a cascade (`Sound`) through a run.
-/
namespace Sys2Proof.Machine

variable {K : List (Fin 32)} {P Q : List Pledge} {s t : State} {n : Fin 32}

/-! ### Pledges that a reaction takes on -/

theorem mem_hostsOf {o : LightOwner} : n ∈ hostsOf o ↔ o = .host n := by
  cases o with
  | host m => simp [hostsOf, eq_comm]
  | entry k => simp [hostsOf]

theorem mem_slots_loose {p : Pledge} (h : n ∈ p.slots) (hr : ¬ p.isRecall) : p = .ends n ∨ n ∈ p.loose := by
  cases p with
  | ends m => left; simpa [Pledge.slots, eq_comm] using h
  | taken m => right; simpa [Pledge.slots, Pledge.loose] using h
  | recalls lost o => exact absurd trivial hr

namespace State.Running

/-- No pledge speaks of an order in hand, but a recall's of one it supersedes or applies. -/
theorem not_mem_slots {b : Block} (h : s.Running K P) (hb : s.hands n b) (hr : ∀ p ∈ P, p.isRecall → n ∉ p.slots) :
    n ∉ P.flatMap Pledge.slots := fun hn => by
  obtain ⟨p, hp, hm⟩ := List.mem_flatMap.1 hn
  rcases mem_slots_loose hm (fun hc => hr p hp hc hm) with rfl | hl
  · exact (h.holds _ hp).2 b hb
  · exact h.sorted.not_owners (List.mem_append_left _ (List.mem_flatMap.2 ⟨p, hp, hl⟩)) (mem_owners (h.inHand n b hb))

/-- An order that leaves every hand is pledged to end. -/
theorem pledge (h : s.Running K P) (he : s.Eases t) (hn : n ∈ s.disp.owners.map (·.1)) (hp : n ∉ P.flatMap Pledge.slots)
    (ht : ∀ b, ¬ t.hands n b) : t.Running K (.ends n :: P) :=
  have g := h.eases he
  { sorted := g.sorted
    inHand := g.inHand
    apart := g.apart
    once := List.nodup_cons.2 ⟨hp, g.once⟩
    oneRecall := List.pairwise_cons.2 ⟨fun _ _ hc => hc.1, g.oneRecall⟩
    holds := List.forall_mem_cons.2 ⟨⟨he.disp ▸ hn, ht⟩, g.holds⟩ }

end State.Running

/-- What a change does to `Sound` where RESET is held: the queues stay empty. -/
theorem State.Sound.map (h : s.Sound K P) (hr : t.pins.reset = s.pins.reset) (hw : Mem.Wf 0 t.ram.slots)
    (hq : s.NoQueues → t.NoQueues) {L : List (Fin 32)} (f : s.Running K P → t.Running L Q) : t.Sound L Q :=
  ⟨hw, fun e => hq (h.inReset (hr ▸ e)), fun e => f (h.running (hr ▸ e))⟩

theorem State.Sound.map_eases (h : s.Sound K P) (he : s.Eases t) (f : s.Running K P → t.Running K Q) : t.Sound K Q :=
  h.map he.reset (he.slots ▸ h.wf) (fun hq => by unfold State.NoQueues; rw [he.disp]; exact hq) f

/-! ### Finishing -/

theorem service_noQueues (f : Finish) (h : s.NoQueues) : (service n f s).NoQueues := by
  obtain ⟨hi, hh, ho⟩ := h
  exact ⟨hi, hh, by rw [service_owners, ho]; rfl⟩

theorem finish_noQueues (f : Finish) (h : s.NoQueues) : (finish n f s).NoQueues := by
  refine chainEffect_keeps (P := State.NoQueues) (fun t g hg ht => ?_) (fun t g ht => ?_) n _ _ (service_noQueues f h)
  · rw [ht.2.1] at hg
    exact absurd hg (by simp)
  · obtain ⟨hi, hh, ho⟩ := ht
    exact ⟨hi, by simp [release, hh], ho⟩

theorem finish_reset (n : Fin 32) (f : Finish) (s : State) : (finish n f s).pins.reset = s.pins.reset :=
  congrArg Pins.reset (finish_eq_outside n f s).1

theorem finish_overrun (n : Fin 32) (f : Finish) (s : State) : (finish n f s).overrun = s.overrun :=
  (finish_eq_outside n f s).2.2.2.2.2

/-- A pledge to end an order is met. -/
theorem State.Sound.finish_ends (f : Finish) (h : s.Sound K (.ends n :: P)) : (finish n f s).Sound K P :=
  h.map (finish_reset n f s) (finish_wf h.wf n f) (finish_noQueues f) fun g => by
    obtain ⟨hn, hb⟩ := g.holds _ (List.mem_cons_self ..)
    exact g.finish f (g.sorted.not_intake_of_owners hn) (g.sorted.not_held_of_owners hn) hb (List.sublist_cons_self ..)
      (List.nodup_cons.1 g.once).1 fun _ _ => Iff.rfl

/-- The order that the dispatcher has taken is ended. -/
theorem State.Running.not_hands (h : s.Running K P) (hn : n ∈ P.flatMap Pledge.loose ++ K) (b : Block) : ¬ s.hands n b :=
  fun hb => h.sorted.not_owners hn (mem_owners (h.inHand n b hb))

theorem State.Sound.finish_taken (f : Finish) (h : s.Sound K (.taken n :: P)) : (finish n f s).Sound K P :=
  h.map (finish_reset n f s) (finish_wf h.wf n f) (finish_noQueues f) fun g => by
    have hn : n ∈ (Pledge.taken n :: P).flatMap Pledge.loose ++ K := by simp [Pledge.loose]
    exact g.finish f (g.sorted.not_intake hn) (g.sorted.not_held hn) (g.not_hands hn) (List.sublist_cons_self ..)
      (List.nodup_cons.1 g.once).1 fun m hm => by simp [Pledge.loose, hm]

theorem State.Sound.finish_loose (f : Finish) (h : s.Sound (n :: K) []) : (finish n f s).Sound K [] :=
  h.map (finish_reset n f s) (finish_wf h.wf n f) (finish_noQueues f) fun g => by
    have hn : n ∈ ([] : List Pledge).flatMap Pledge.loose ++ n :: K := by simp
    exact g.finish f (g.sorted.not_intake hn) (g.sorted.not_held hn) (g.not_hands hn) (.refl _) (by simp)
      fun m hm => by simp [hm]

/-! ### Fills, moves and recalls that end -/

/-- Of a block's order in hand no other block has a share. -/
theorem State.Running.hands_unique {b c : Block} (h : s.Running K P) (hb : (n, b) ∈ s.disp.owners) (hc : s.hands n c) : c = b :=
  h.sorted.block_unique (h.inHand n c hc) hb

theorem fillFinish_sound (e : FillEnd) (h : s.Sound K P) : (fillFinish e s).1.Sound K (pledgesOf (fillFinish e s).2 ++ P) := by
  unfold fillFinish
  split
  · exact h
  · next f hf =>
    have he : s.Eases { s with water := { s.water with fill := none } } :=
      ⟨rfl, rfl, rfl, rfl, id, fun _ h => h, nofun, fun _ _ h => h, fun _ h => h, fun _ _ h => h⟩
    refine h.map_eases he fun g => ?_
    have hin : s.hands f.slot .water := ⟨f, hf, rfl⟩
    have hown := g.inHand _ _ hin
    refine g.pledge he (mem_owners hown) (g.not_mem_slots hin fun p hp hr hs => ?_) fun b hb => ?_
    · cases p with
      | recalls lost o => exact absurd (g.hands_unique ((g.holds _ hp) _ hs).1 hin) (by simp)
      | ends m => exact hr
      | taken m => exact hr
    · have hbw := g.hands_unique hown (he.hands hb)
      subst hbw
      obtain ⟨_, h', _⟩ := hb
      cases h'

theorem moveResult_sound (m : Mover) (f : Outcome) (w : Word) (h : s.Sound K P) :
    (moveResult m f w s).1.Sound K (pledgesOf (moveResult m f w s).2 ++ P) := by
  unfold moveResult
  simp only
  split
  · exact h
  · next v hv =>
    have hstall : Plain (if f = .stalled then [.raise .movers (stallCause m)] else []) := by simp [Act.pledges]
    split
    · next n hn =>
      have he : s.Eases (setMover m { mover s m with move := none } s) := setMover_drops m _ s rfl
      rw [pledgesOf, hstall]
      refine h.map_eases he fun g => ?_
      have hin : s.hands n .movers := ⟨m, v, hv, hn⟩
      have hown := g.inHand _ _ hin
      refine g.pledge he (mem_owners hown) (g.not_mem_slots hin fun p hp hr hs => ?_) fun b hb => ?_
      · cases p with
        | recalls lost o => exact absurd (g.hands_unique ((g.holds _ hp) _ hs).1 hin) (by simp)
        | ends m => exact hr
        | taken m => exact hr
      · have hbm := g.hands_unique hown (he.hands hb)
        subst hbm
        obtain ⟨k, u, hu, hun⟩ := hb
        have hs : tagOf s m = some (.host n) := by simp [tagOf, hv, hn]
        have ht : tagOf (setMover m { mover s m with move := none } s) k = some (.host n) := by simp [tagOf, hu, hun]
        have hk : k ≠ m := fun e => by subst e; cases k <;> cases ht
        have hsk := he.moves k n ht
        cases m <;> cases k <;> first | exact hk rfl | exact g.apart n ⟨hs, hsk⟩ | exact g.apart n ⟨hsk, hs⟩
    · rw [pledgesOf, hstall]
      exact h.eases (setMover_drops m _ s rfl)

theorem clearOwner_clears (o : LightOwner) (cs : List (Fin 6)) :
    ∀ s : State, ∀ c ∈ cs, (channel (clearOwner o cs s) c).owner ≠ some o := by
  induction cs with
  | nil => exact fun _ c hc => absurd hc (by simp)
  | cons d cs ih =>
    intro s c hc
    by_cases hcs : c ∈ cs
    · exact ih _ c hcs
    · obtain rfl : c = d := by simpa [hcs] using hc
      have hkeep : ∀ (l : List (Fin 6)) (u : State), (channel u c).owner ≠ some o → (channel (clearOwner o l u) c).owner ≠ some o := by
        intro l
        induction l with
        | nil => exact fun _ h => h
        | cons e l ihl =>
          intro u hu
          refine ihl _ ?_
          split
          · rw [channel_setChannel]; split <;> simp [hu]
          · exact hu
      refine hkeep cs _ ?_
      split
      · simp [channel_setChannel]
      · assumption

theorem mem_channels (c : Fin 6) : c ∈ channels := List.mem_finRange c

theorem not_mem_dropRecalls {o : LightOwner} {l : List LightOwner} (ho : o ∈ l) (s : State) :
    ∀ r ∈ (dropRecalls l s).lights.recalls, r.owner ≠ o := fun r hr e => by
  have := (List.mem_filter.1 hr).2
  simp [e, ho] at this

theorem clearOwner_recalls (o : LightOwner) (cs : List (Fin 6)) : ∀ s : State, (clearOwner o cs s).lights.recalls = s.lights.recalls := by
  induction cs with
  | nil => exact fun _ => rfl
  | cons c cs ih => intro s; refine (ih _).trans ?_; split <;> rfl

/-- A host recall of which neither a channel nor a record is left has nothing in hand but what another block has. -/
theorem dropped_not_lights (n : Fin 32) (s : State) :
    ¬ (clearOwner (.host n) channels (dropRecalls [.host n] s)).hands n .lights := by
  rintro (⟨r, hr, e⟩ | ⟨c, hc⟩)
  · rw [clearOwner_recalls] at hr
    exact not_mem_dropRecalls (by simp) s r hr e
  · exact clearOwner_clears _ _ _ c (mem_channels c) hc

theorem arrive_sound (x : Recall) (hx : x ∈ s.lights.recalls) (h : s.Sound K P) :
    (arrive x s).1.Sound K (pledgesOf (arrive x s).2 ++ P) := by
  have he : s.Eases (clearOwner x.owner channels (dropRecalls [x.owner] s)) :=
    (dropRecalls_eases s _).trans (clearOwner_eases _ _ _)
  have hgone : ∀ n, x.owner = .host n → ¬ (clearOwner x.owner channels (dropRecalls [x.owner] s)).hands n .lights :=
    fun n hn => hn ▸ dropped_not_lights n s
  unfold arrive
  generalize clearOwner x.owner channels (dropRecalls [x.owner] s) = t at he hgone ⊢
  split
  · next n hn =>
    refine h.map_eases he fun g => ?_
    have hin : s.hands n .lights := .inl ⟨x, hx, hn⟩
    have hown := g.inHand _ _ hin
    refine g.pledge he (mem_owners hown) (g.not_mem_slots hin fun p hp hr hs => ?_) fun b hb => ?_
    · cases p with
      | recalls lost o => exact ((g.holds _ hp) _ hs).2 x hx hn
      | ends m => exact hr
      | taken m => exact hr
    · have hbl := g.hands_unique hown (he.hands hb)
      subst hbl
      exact hgone n hn hb
  · exact h.eases (he.trans (.of_hand rfl))

theorem recallTest_sound (o : LightOwner) (h : s.Sound K P) : (recallTest o s).1.Sound K (pledgesOf (recallTest o s).2 ++ P) := by
  unfold recallTest
  split
  · next x hx =>
    split
    · exact arrive_sound x (List.mem_of_find?_eq_some hx) h
    · exact h
  · exact h

/-! ### A recall as it is applied -/

theorem mem_of_mem_hosts {l : List LightOwner} (h : n ∈ l.flatMap hostsOf) : .host n ∈ l := by
  obtain ⟨o, ho, hn⟩ := List.mem_flatMap.1 h
  exact mem_hostsOf.1 hn ▸ ho

theorem not_recall_of_cons {p q : Pledge} (h : s.Running K (p :: P)) (hp : p.isRecall) (hq : q ∈ P) : ¬ q.isRecall :=
  fun hc => (List.pairwise_cons.1 h.oneRecall).1 q hq ⟨hp, hc⟩

/-- R172: a recall under way takes a channel, a recall record or nothing more in hand, and the list of those it supersedes grows to
`lost'`: what it needs of the state. -/
theorem State.Running.recall_step {lost lost' : List LightOwner} {o : LightOwner} (h : s.Running K (.recalls lost o :: P))
    (hslots : t.ram.slots = s.ram.slots) (hdisp : t.disp = s.disp) (htags : ∀ m, tagOf t m = tagOf s m)
    (hhands : ∀ m b, t.hands m b → s.hands m b ∨ (b = .lights ∧ o = .host m))
    (hrec : ∀ r ∈ t.lights.recalls, r ∈ s.lights.recalls ∧ r.owner ∉ lost')
    (hlost : ∀ m, .host m ∈ lost' → .host m ∈ lost ∨ ∃ c, (channel s c).owner = some (.host m))
    (honce : ((lost' ++ [o]).flatMap hostsOf ++ P.flatMap Pledge.slots).Nodup) : t.Running K (.recalls lost' o :: P) := by
  have head : ∀ m, .host m ∈ lost ∨ o = .host m → (m, Block.lights) ∈ s.disp.owners ∧ ∀ r ∈ s.lights.recalls, r.owner ≠ .host m :=
    fun m hm => by
      have hp : Pledge.Holds s (.recalls lost o) := h.holds _ (List.mem_cons_self ..)
      exact hp m (List.mem_flatMap.2 ⟨.host m, by simpa [eq_comm] using hm, by simp [hostsOf]⟩)
  have hsorted : t.Sorted (P.flatMap Pledge.loose ++ K) := State.Sorted.congr (s := s) h.sorted hslots (by rw [hdisp]) (by rw [hdisp]) (by rw [hdisp])
  refine ⟨hsorted, fun m b e => ?_, fun m => ?_, honce, ?_, ?_⟩
  · rw [hdisp]
    rcases hhands m b e with e | ⟨rfl, ho⟩
    · exact h.inHand m b e
    · exact (head m (.inr ho)).1
  · rw [htags, htags]; exact h.apart m
  · exact List.pairwise_cons.2 ⟨fun q hq hc => not_recall_of_cons h trivial hq hc.2, (List.pairwise_cons.1 h.oneRecall).2⟩
  · refine List.forall_mem_cons.2 ⟨fun m hm => ?_, fun q hq => ?_⟩
    · rw [hdisp]
      have hm' : .host m ∈ lost' ∨ o = .host m := by simpa [eq_comm] using mem_of_mem_hosts hm
      rcases hm' with hl | ho
      · refine ⟨?_, fun r hr e => (hrec r hr).2 (e ▸ hl)⟩
        rcases hlost m hl with hl | ⟨c, hc⟩
        · exact (head m (.inl hl)).1
        · exact h.inHand m .lights (.inr ⟨c, hc⟩)
      · exact ⟨(head m (.inr ho)).1, fun r hr => (head m (.inr ho)).2 r (hrec r hr).1⟩
    · have hold := h.holds q (List.mem_cons_of_mem _ hq)
      cases q with
      | ends m =>
        refine ⟨hdisp ▸ hold.1, fun b hb => ?_⟩
        rcases hhands m b hb with hb | ⟨-, rfl⟩
        · exact hold.2 b hb
        · have h2 := (List.nodup_append.1 honce).2.2 m (List.mem_flatMap.2 ⟨.host m, by simp, by simp [hostsOf]⟩) m
            (List.mem_flatMap.2 ⟨_, hq, by simp [Pledge.slots]⟩)
          exact h2 rfl
      | taken m => trivial
      | recalls l p => exact absurd trivial (not_recall_of_cons h trivial hq)

theorem retarget_channel (l : List Word) (o : LightOwner) (c k : Fin 6) (s : State) :
    (channel (retarget l o c s) k).owner = if k = c then some o else (channel s k).owner := by
  unfold retarget
  rw [channel_setChannel]
  split <;> rfl

theorem recallStep_next_sound (l : List Word) (o : LightOwner) (b : Bool) (c : Fin 6) (cs : List (Fin 6))
    (lost : List (LightOwner × Fin 6)) (h : s.Sound K (.recalls (lost.map (·.1)) o :: P)) :
    (recallStep l o b (c :: cs) lost s).1.Sound K (pledgesOf (recallStep l o b (c :: cs) lost s).2 ++ P) := by
  unfold recallStep
  simp only
  generalize hl' : loseChannel o c (channel s c).owner lost = lost'
  have hacts : pledgesOf (lightDemand (dropRecalls (lost'.map (·.1)) (retarget l o c s)) c ++ [.recallOn l o b cs lost']) =
      [.recalls (lost'.map (·.1)) o] := by
    rw [pledgesOf_append, plain_lightDemand]; rfl
  rw [hacts]
  refine h.map (t := dropRecalls (lost'.map (·.1)) (retarget l o c s)) rfl h.wf (fun hq => hq) fun g => ?_
  have hhands : ∀ m b, (dropRecalls (lost'.map (·.1)) (retarget l o c s)).hands m b → s.hands m b ∨ (b = .lights ∧ o = .host m) := by
    rintro m b hb
    cases b with
    | water => exact .inl hb
    | movers => exact .inl hb
    | store => exact .inl hb
    | lights =>
      rcases hb with ⟨r, hr, e⟩ | ⟨k, hk⟩
      · exact .inl (.inl ⟨r, (List.mem_filter.1 hr).1, e⟩)
      · have hk' : (channel (retarget l o c s) k).owner = some (.host m) := hk
        rw [retarget_channel] at hk'
        split at hk'
        · exact .inr ⟨rfl, Option.some.inj hk'⟩
        · exact .inl (.inr ⟨k, hk'⟩)
  have hrec : ∀ r ∈ (dropRecalls (lost'.map (·.1)) (retarget l o c s)).lights.recalls,
      r ∈ s.lights.recalls ∧ r.owner ∉ lost'.map (·.1) := fun r hr =>
    ⟨(List.mem_filter.1 hr).1, fun hm => not_mem_dropRecalls hm _ r hr rfl⟩
  have hcase : lost' = lost ∨ ∃ p, (channel s c).owner = some p ∧ p ≠ o ∧ p ∉ lost.map (·.1) ∧ lost' = lost ++ [(p, c)] := by
    subst hl'
    unfold loseChannel
    split
    · next p hp =>
      split
      · exact .inl rfl
      · next hne =>
        obtain ⟨h1, h2⟩ := not_or.1 hne
        refine .inr ⟨p, hp, h1, fun hm => h2 ?_, rfl⟩
        obtain ⟨e, he, rfl⟩ := List.mem_map.1 hm
        exact List.any_eq_true.2 ⟨e, he, by simp⟩
    · exact .inl rfl
  refine g.recall_step rfl rfl (fun _ => rfl) hhands hrec ?_ ?_
  · intro m hm
    rcases hcase with rfl | ⟨p, hp, -, -, rfl⟩
    · exact .inl hm
    · rw [List.map_append, List.mem_append] at hm
      rcases hm with hm | hm
      · exact .inl hm
      · obtain rfl : .host m = p := by simpa using hm
        exact .inr ⟨c, hp⟩
  · rcases hcase with rfl | ⟨p, hp, hpo, hpl, rfl⟩
    · exact g.once
    · cases p with
      | entry k => simpa [Pledge.slots, hostsOf] using g.once
      | host q =>
        have hin : s.hands q .lights := .inr ⟨c, hp⟩
        have hP : q ∉ P.flatMap Pledge.slots := fun hq => by
          obtain ⟨x, hx, hm⟩ := List.mem_flatMap.1 hq
          rcases mem_slots_loose hm (not_recall_of_cons g trivial hx) with rfl | hl
          · exact (g.holds _ (List.mem_cons_of_mem _ hx)).2 _ hin
          · exact g.sorted.not_owners (List.mem_append_left _ (List.mem_flatMap.2 ⟨x, List.mem_cons_of_mem _ hx, hl⟩))
              (mem_owners (g.inHand q _ hin))
        have hhead : q ∉ (lost.map (·.1) ++ [o]).flatMap hostsOf := fun hq => by
          have := mem_of_mem_hosts hq
          simp only [List.mem_append, List.mem_singleton] at this
          rcases this with h | h
          · exact hpl h
          · exact hpo h
        have hperm : (((lost ++ [(LightOwner.host q, c)]).map (fun e => e.1) ++ [o]).flatMap hostsOf ++ P.flatMap Pledge.slots).Perm
            (q :: ((lost.map (·.1) ++ [o]).flatMap hostsOf ++ P.flatMap Pledge.slots)) := by
          simp [hostsOf]
        refine hperm.nodup_iff.2 (List.nodup_cons.2 ⟨fun hq => ?_, g.once⟩)
        exact (List.mem_append.1 hq).elim hhead hP

theorem supersedes_pledges (o : LightOwner) (lost : List (LightOwner × Fin 6)) :
    pledgesOf (lost.map fun e => .supersede e.1 o e.2) = ((lost.map (·.1)).flatMap hostsOf).map Pledge.ends := by
  induction lost with
  | nil => rfl
  | cons e lost ih =>
    obtain ⟨p, c⟩ := e
    cases p <;> simp [pledgesOf, Act.pledges, hostsOf, ih]

theorem clearOwners_recalls (l : List LightOwner) : ∀ s : State, (clearOwners l s).lights.recalls = s.lights.recalls := by
  induction l with
  | nil => exact fun _ => rfl
  | cons o l ih => exact fun s => (ih _).trans (clearOwner_recalls _ _ _)

theorem clearOwners_clears {l : List LightOwner} : ∀ {s : State}, ∀ n, .host n ∈ l → ∀ c, (channel (clearOwners l s) c).owner ≠ some (.host n) := by
  induction l with
  | nil => exact fun _ h => absurd h (by simp)
  | cons o l ih =>
    intro s n hn c
    rcases List.mem_cons.1 hn with rfl | hn
    · intro e
      exact clearOwner_clears _ _ _ c (mem_channels c) ((clearOwners_eases l _).channels c n e)
    · exact ih n hn c

theorem recallStep_last_sound (l : List Word) (o : LightOwner) (b : Bool) (lost : List (LightOwner × Fin 6))
    (h : s.Sound K (.recalls (lost.map (·.1)) o :: P)) :
    (recallStep l o b [] lost s).1.Sound K (pledgesOf (recallStep l o b [] lost s).2 ++ P) := by
  unfold recallStep
  simp only
  have hacts : pledgesOf ((lost.map fun e => Act.supersede e.1 o e.2) ++
      [.applied o (touched l).length b, .shown ((touched l).map Part.channel) recallParts]) =
      ((lost.map (·.1)).flatMap hostsOf).map Pledge.ends ++ [.recalls [] o] := by
    rw [pledgesOf_append, supersedes_pledges]; rfl
  rw [hacts]
  have he := clearOwners_eases (lost.map (·.1)) s
  refine h.map_eases he fun g => ?_
  have g' := g.eases he
  have hhead := g.holds _ (List.mem_cons_self ..)
  have hloose : ∀ l : List (Fin 32), (l.map Pledge.ends).flatMap Pledge.loose = [] := fun l => by
    induction l <;> simp_all [Pledge.loose]
  have hslots : ∀ l : List (Fin 32), (l.map Pledge.ends).flatMap Pledge.slots = l := fun l => by
    induction l <;> simp_all [Pledge.slots]
  refine ⟨?_, g'.inHand, g'.apart, ?_, ?_, fun p hp => ?_⟩
  · have := g'.sorted
    simpa [hloose, Pledge.loose] using this
  · have := g'.once
    simpa [hslots, Pledge.slots] using this
  · rw [List.append_assoc]
    refine List.pairwise_append.2 ⟨List.pairwise_map.2 (List.pairwise_of_forall fun _ _ hc => hc.1),
      List.pairwise_cons.2 ⟨fun q hq hc => not_recall_of_cons g trivial hq hc.2, (List.pairwise_cons.1 g.oneRecall).2⟩, ?_⟩
    intro p hp q _ hc
    obtain ⟨m, -, rfl⟩ := List.mem_map.1 hp
    exact hc.1
  · rw [List.append_assoc, List.mem_append, List.singleton_append, List.mem_cons] at hp
    rcases hp with hp | rfl | hp
    · obtain ⟨m, hm, rfl⟩ := List.mem_map.1 hp
      obtain ⟨hown, hrec⟩ := hhead m (by simp only [List.flatMap_append, List.mem_append]; exact .inl hm)
      refine ⟨he.disp ▸ mem_owners hown, fun b hb => ?_⟩
      have hbl := g.hands_unique hown (he.hands hb)
      subst hbl
      rcases hb with ⟨r, hr, e⟩ | ⟨c, hc⟩
      · rw [clearOwners_recalls] at hr
        exact hrec r hr e
      · exact clearOwners_clears m (mem_of_mem_hosts hm) c hc
    · intro m hm
      obtain ⟨hown, hrec⟩ := hhead m (by
        simp only [List.flatMap_append, List.mem_append]; exact .inr (by simpa using hm))
      exact ⟨he.disp ▸ hown, by rw [clearOwners_recalls]; exact hrec⟩
    · exact g'.holds p (List.mem_cons_of_mem _ hp)

theorem recallStep_sound (l : List Word) (o : LightOwner) (b : Bool) (cs : List (Fin 6)) (lost : List (LightOwner × Fin 6))
    (h : s.Sound K (.recalls (lost.map (·.1)) o :: P)) :
    (recallStep l o b cs lost s).1.Sound K (pledgesOf (recallStep l o b cs lost s).2 ++ P) := by
  cases cs with
  | nil => exact recallStep_last_sound l o b lost h
  | cons c cs => exact recallStep_next_sound l o b c cs lost h

theorem applied_sound (o : LightOwner) (k : Nat) (b : Bool) (h : s.Sound K (.recalls [] o :: P)) :
    (applied o k b s).1.Sound K (pledgesOf (applied o k b s).2 ++ P) := by
  refine h.map (t := (applied o k b s).1) rfl h.wf (fun hq => hq) fun g => ?_
  have hhead := g.holds _ (List.mem_cons_self ..)
  have hhands : ∀ m b', (applied o k b s).1.hands m b' → s.hands m b' ∨ (b' = .lights ∧ o = .host m) := by
    rintro m b' hb
    cases b' with
    | water => exact .inl hb
    | movers => exact .inl hb
    | store => exact .inl hb
    | lights =>
      rcases hb with ⟨r, hr, e⟩ | hc
      · rcases List.mem_cons.1 hr with rfl | hr
        · exact .inr ⟨rfl, e⟩
        · exact .inl (.inl ⟨r, hr, e⟩)
      · exact .inl (.inr hc)
  refine ⟨(g.sorted : s.Sorted (P.flatMap Pledge.loose ++ K)).congr rfl rfl rfl rfl, fun m b' e => ?_, g.apart, (List.nodup_append.1 g.once).2.1, (List.pairwise_cons.1 g.oneRecall).2, fun q hq => ?_⟩
  · rcases hhands m b' e with e | ⟨rfl, rfl⟩
    · exact g.inHand m b' e
    · exact (hhead m (by simp [hostsOf])).1
  · have hold := g.holds q (List.mem_cons_of_mem _ hq)
    cases q with
    | ends m =>
      refine ⟨hold.1, fun b' hb => ?_⟩
      rcases hhands m b' hb with hb | ⟨-, rfl⟩
      · exact hold.2 b' hb
      · exact (List.nodup_append.1 g.once).2.2 m (by simp [Pledge.slots, hostsOf]) m
          (List.mem_flatMap.2 ⟨_, hq, by simp [Pledge.slots]⟩) rfl
    | taken m => trivial
    | recalls l p => exact absurd trivial (not_recall_of_cons g trivial hq)

end Sys2Proof.Machine
end

section
/-!
SUPPORT. The invariant of a cascade through every act, every run, and the sequences of runs that commands are made of (`Leads`).
-/
namespace Sys2Proof.Machine

variable {K : List (Fin 32)} {P Q : List Pledge} {s t u : State} {n : Fin 32}

/-! ### The entry scene -/

/-- An entry recall owes no slot, whatever its number. -/
theorem State.Running.entry {i j : Nat} (h : s.Running K (.recalls [] (.entry i) :: P)) : s.Running K (.recalls [] (.entry j) :: P) :=
  ⟨h.sorted, h.inHand, h.apart, h.once, List.pairwise_cons.2 ⟨fun q hq hc => not_recall_of_cons h trivial hq hc.2,
    (List.pairwise_cons.1 h.oneRecall).2⟩, List.forall_mem_cons.2 ⟨fun m hm => absurd hm (by simp [hostsOf]),
      fun q hq => h.holds q (List.mem_cons_of_mem _ hq)⟩⟩

/-- A pledge that is let go. -/
theorem State.Sound.drop {p : Pledge} (h : s.Sound K (p :: P)) (hp : p.loose = []) : s.Sound K P :=
  h.map_eases (.refl s) fun g =>
    ⟨by simpa [hp] using g.sorted, g.inHand, g.apart, (List.nodup_append.1 g.once).2.1, (List.pairwise_cons.1 g.oneRecall).2,
      fun q hq => g.holds q (List.mem_cons_of_mem _ hq)⟩

/-- An entry recall may be begun where no other recall is being applied. -/
theorem State.Sound.begin_entry (h : s.Sound K []) (i : Nat) : s.Sound K [.recalls [] (.entry i)] :=
  h.map_eases (.refl s) fun g =>
    ⟨g.sorted, g.inHand, g.apart, by simp [Pledge.slots, hostsOf], by simp, fun q hq => by
      obtain rfl := List.mem_singleton.1 hq
      exact fun m hm => absurd hm (by simp [hostsOf])⟩

theorem doorScene_sound (h : s.Sound K (.recalls [] (.entry 0) :: P)) :
    (doorScene s).1.Sound K (pledgesOf (doorScene s).2 ++ P) := by
  unfold doorScene
  split
  · exact h.drop rfl
  · split
    · exact h.drop rfl
    · next m _ =>
      have hl := lookup_hand s m
      split
      · next t _ _ e =>
        rw [e] at hl
        have ht : t.Sound K (.recalls [] (.entry 0) :: P) := h.eases (.of_hand hl)
        have hn : t.Eases { t with lights := { t.lights with nextEntry := t.lights.nextEntry + 1 } } := .of_hand rfl
        exact (ht.eases hn).map_eases (.refl _) fun g => g.entry (j := t.lights.nextEntry)
      · next t _ e =>
        rw [e] at hl
        have ht : t.Sound K (.recalls [] (.entry 0) :: P) := h.eases (.of_hand hl)
        have hn : t.Eases { t with lights := { t.lights with lastEntry := some .badParam } } := .of_hand rfl
        exact (ht.eases hn).drop rfl

/-! ### The overrun mark, the idle timer and the queues -/

/-- An idle timer at 0 is left there (R58), the intake list as it is, and no slot joins the held set. -/
structure Drains (s t : State) : Prop where
  idle : s.charge.idle = 0 → t.charge.idle = 0
  intake : t.disp.intake = s.disp.intake
  held : ∀ n ∈ t.disp.held.map (·.slot), n ∈ s.disp.held.map (·.slot)

theorem Drains.refl (s : State) : Drains s s := ⟨id, rfl, fun _ h => h⟩

theorem Drains.trans (h : Drains s t) (g : Drains t u) : Drains s u :=
  ⟨g.idle ∘ h.idle, g.intake.trans h.intake, fun n hn => h.held n (g.held n hn)⟩

theorem State.Eases.drains (h : s.Eases t) : Drains s t := ⟨h.idle, by rw [h.disp], fun _ hn => h.disp ▸ hn⟩

theorem finish_drains (n : Fin 32) (f : Finish) (s : State) : Drains s (finish n f s) where
  idle := ((congrArg (fun u : State => u.charge.idle) (finish_sansOrders n f s) :) : (finish n f s).charge.idle = s.charge.idle).trans
  intake := congrArg Steady.intake (finish_steady s n f)
  held := finish_held (fun _ h => h) n f

/-- The overrun mark is as it was, and the queues gain nothing. -/
def Calm (s t : State) : Prop := t.overrun = s.overrun ∧ Drains s t

theorem Calm.refl (s : State) : Calm s s := ⟨rfl, .refl s⟩

theorem Calm.trans (h : Calm s t) (g : Calm t u) : Calm s u := ⟨g.1.trans h.1, h.2.trans g.2⟩

theorem State.Eases.calm (h : s.Eases t) : Calm s t := ⟨h.overrun, h.drains⟩

theorem finish_calm (n : Fin 32) (f : Finish) : Calm s (finish n f s) := ⟨finish_overrun n f s, finish_drains n f s⟩

theorem fillFinish_calm (e : FillEnd) : Calm s (fillFinish e s).1 := by unfold fillFinish; split <;> exact ⟨rfl, id, rfl, fun _ h => h⟩

theorem moveResult_calm (m : Mover) (f : Outcome) (w : Word) : Calm s (moveResult m f w s).1 := by
  unfold moveResult; simp only
  split
  · exact .refl s
  · split <;> exact (setMover_drops m _ s rfl).calm

theorem arrive_calm (x : Recall) : Calm s (arrive x s).1 := by
  have h : Calm s (clearOwner x.owner channels (dropRecalls [x.owner] s)) :=
    ((dropRecalls_eases s _).trans (clearOwner_eases _ _ _)).calm
  unfold arrive
  generalize clearOwner x.owner channels (dropRecalls [x.owner] s) = t at h ⊢
  split <;> exact ⟨h.1, h.2.idle, h.2.intake, h.2.held⟩

theorem recallTest_calm (o : LightOwner) : Calm s (recallTest o s).1 := by
  unfold recallTest
  split
  · split
    · exact arrive_calm _
    · exact .refl s
  · exact .refl s

theorem recallStep_calm (l : List Word) (o : LightOwner) (b : Bool) (cs : List (Fin 6)) (lost : List (LightOwner × Fin 6)) :
    Calm s (recallStep l o b cs lost s).1 := by
  unfold recallStep
  split
  · exact ⟨rfl, id, rfl, fun _ h => h⟩
  · exact (clearOwners_eases _ s).calm

theorem supersede_calm (p o : LightOwner) (c : Fin 6) : Calm s (supersede p o c s).1 := by
  unfold supersede; split <;> exact ⟨rfl, id, rfl, fun _ h => h⟩

theorem doorScene_calm : Calm s (doorScene s).1 := by
  unfold doorScene
  split
  · exact .refl s
  · split
    · exact .refl s
    · next m _ =>
      have hl : Calm s (lookup m s).1 := (State.Eases.of_hand (lookup_hand s m)).calm
      split
      · next e => rw [e] at hl; exact ⟨hl.1, hl.2.idle, hl.2.intake, hl.2.held⟩
      · next e => rw [e] at hl; exact ⟨hl.1, hl.2.idle, hl.2.intake, hl.2.held⟩

/-! ### Every act -/

/-- A step of a run keeps the invariant, with what its stack then owes. -/
def Run.Keeps (r r' : Run) : Prop :=
  (∀ K, r.st.Sound K (pledgesOf r.work) → r'.st.Sound K (pledgesOf r'.work)) ∧ Calm r.st r'.st

theorem Run.Mild.keeps {r r' : Run} (h : r.Mild r') : r.Keeps r' := ⟨fun _ hs => h.2 ▸ hs.eases h.1, h.1.calm⟩

/-- The act `a` at the front of the stack, taken off it, then performed. -/
def Run.KeepsAct (a : Act) (r r' : Run) : Prop :=
  (∀ K, r.st.Sound K (a.pledges ++ pledgesOf r.work) → r'.st.Sound K (pledgesOf r'.work)) ∧ Calm r.st r'.st

theorem Run.Mild.keepsAct {a : Act} {r r' : Run} (h : r.Mild r') (ha : a.pledges = [] := by rfl) : r.KeepsAct a r' :=
  ⟨fun K hs => h.keeps.1 K (by rwa [ha] at hs), h.1.calm⟩

theorem Run.keepsAct_react {a : Act} {r : Run} {f : State → React}
    (h : ∀ K P, r.st.Sound K (a.pledges ++ P) → (f r.st).1.Sound K (pledgesOf (f r.st).2 ++ P))
    (ho : Calm r.st (f r.st).1) : r.KeepsAct a (r.react f) :=
  ⟨fun K hs => (pledgesOf_append _ _).symm ▸ h K _ hs, ho⟩

/-- A block's reaction that takes nothing in hand and owes nothing. -/
theorem Run.react_keepsAct {a : Act} {r : Run} {f : State → React} (h : Machine.Mild r.st (f r.st)) (ha : a.pledges = [] := by rfl) :
    r.KeepsAct a (r.react f) := (r.react_mild h).keepsAct ha

/-- A change that leaves `hand` alone. -/
theorem Run.keepsAct_of_hand {a : Act} {r r' : Run} (h : r'.st.hand = r.st.hand) (hw : r'.work = r.work := by rfl)
    (ha : a.pledges = [] := by rfl) : r.KeepsAct a r' := (Mild.of_hand h (by rw [hw])).keepsAct ha

theorem idleCheck_eases (s : State) : s.Eases (idleCheck s) := by
  unfold idleCheck
  split
  · exact .refl s
  · exact setIdle_eases s

theorem afterReports_eases (s : State) : s.Eases (afterReports s) :=
  have h : (syncPart .outlets (idleCheck s)).hand = (idleCheck s).hand := rfl
  (idleCheck_eases s).trans (.of_hand h)

theorem Run.afterReports_mild (r : Run) : r.Mild (r.onState afterReports) := ⟨afterReports_eases r.st, rfl⟩

/-- Every act of a cascade keeps the invariant. -/
theorem perform_keeps (a : Act) (r : Run) : r.KeepsAct a (perform a r) := by
  cases a <;> simp only [perform]
  case req q => exact (r.req_mild q).keepsAct
  case take q => exact (r.take_mild q).keepsAct
  case drain => exact r.drain_mild.keepsAct
  case action l => exact ⟨fun K hs => (r.action_pledges l).symm ▸ hs, .refl _⟩
  case arbiterIf => exact r.arbiterIf_mild.keepsAct
  case restore b => exact Run.keepsAct_of_hand rfl
  case flush => exact r.flush_mild.keepsAct
  case flushEnd => exact (Run.afterReports_mild r).keepsAct
  case actEnd => exact r.actEnd_mild.keepsAct
  case judge o => exact (r.judge_mild o).keepsAct
  case preempt o => exact (Run.Mild.of_hand rfl rfl).keepsAct
  case pass g => exact (r.pass_mild g).keepsAct
  case ask o c =>
    split
    · exact Run.react_keepsAct (ownerAsk_mild _ o)
    · exact (Run.Mild.refl r).keepsAct
  case cut o c => exact (r.cut_mild o c).keepsAct
  case cutRest => exact r.cutRest_mild.keepsAct
  case rejudge o c => exact (r.rejudge_mild o c).keepsAct
  case arbiter => exact r.arbiter_mild.keepsAct
  case consider o => exact (r.consider_mild o).keepsAct
  case clearTrip o => exact (r.clearTrip_mild o).keepsAct
  case trip o => exact Run.keepsAct_of_hand rfl
  case tripDone n o => exact ⟨fun K hs => hs.finish_taken _, finish_calm _ _⟩
  case rises l => exact (Run.rises_mild l r).keepsAct
  case fall o k => exact (r.fall_mild o k).keepsAct
  case shedLevel n => exact (r.shedLevel_mild n).keepsAct
  case limit n => exact (r.limit_mild n).keepsAct
  case overLimit b => exact (r.overLimit_mild b).keepsAct
  case report o x y => exact Run.react_keepsAct (ownerReport_mild _ o x y)
  case signal g v => exact (Run.signal_mild g v r).keepsAct
  case blockRise m k => exact Run.react_keepsAct (blockRise_mild _ m k)
  case blockFall m k => exact Run.keepsAct_of_hand (blockFall_hand _ m k)
  case notices l b => exact Run.keepsAct_of_hand (evalNotices_hand _ l b)
  case evalEnd => exact r.evalEnd_mild.keepsAct
  case resume k => exact Run.keepsAct_of_hand rfl
  case raise g b => exact Run.keepsAct_of_hand rfl
  case finish n f => exact ⟨fun K hs => hs.finish_ends f, finish_calm _ _⟩
  case shown m l => exact Run.keepsAct_of_hand rfl
  case solar => exact Run.react_keepsAct (showing_mild _ (solarEval_mild _))
  case floatResult x => exact Run.react_keepsAct (showing_mild _ (floatDone_mild _ x))
  case shedEval => exact Run.react_keepsAct (shedEval_mild _)
  case limitEval => exact Run.react_keepsAct (limitEval_mild _)
  case post e => exact Run.react_keepsAct (postHeater_mild _ e)
  case postFloat => exact Run.react_keepsAct (postFloat_mild _)
  case result c x b => exact Run.react_keepsAct (heaterResult_mild _ c x b)
  case freshPump => exact Run.react_keepsAct (freshPump_mild _)
  case freshFill => exact Run.react_keepsAct (freshFill_mild _)
  case pumpStart => exact Run.react_keepsAct (pumpStart_mild _)
  case pumpDry c => exact Run.react_keepsAct (showing_mild _ (pumpDry_mild _ c))
  case fillEnd e => exact Run.react_keepsAct (fillEnd_mild _ e)
  case fillFinish e =>
    have he : (fillFinish e r.st).1.Eases (showChange [.water] r.st (fillFinish e r.st).1) := .of_hand rfl
    refine Run.keepsAct_react (f := showing [.water] (fillFinish e)) (fun K P hs => ?_) ((fillFinish_calm e).trans he.calm)
    have hf : (fillFinish e r.st).1.Sound K (pledgesOf (fillFinish e r.st).2 ++ P) := fillFinish_sound e hs
    exact hf.eases he
  case frostTemp b => exact Run.react_keepsAct (showing_mild _ (frostEval_mild _ b))
  case stage x b => exact Run.react_keepsAct (stageChange_mild _ x b)
  case stageFill x => exact Run.react_keepsAct (stageFill_mild _ x)
  case stageLeave x y => exact Run.react_keepsAct (stageLeave_mild _ x y)
  case stageBegin x y => exact Run.react_keepsAct (stageBegin_mild _ x y)
  case drainLatch => exact Run.react_keepsAct (drainLatch_mild _)
  case delivered b => exact Run.react_keepsAct (showing_mild _ (.of_hand rfl rfl))
  case zoneFollow z => exact Run.react_keepsAct (zoneFollow_mild _ z)
  case heatDemand => exact Run.react_keepsAct (heatDemand_mild _)
  case frostDemand b => exact Run.react_keepsAct (frostDemand_mild _ b)
  case seqFrost b => exact Run.react_keepsAct (seqFrost_mild _ b)
  case seqShed => exact Run.react_keepsAct (seqShed_mild _)
  case seqDemand => exact Run.react_keepsAct (seqDemand_mild _)
  case seqLevel => exact Run.react_keepsAct (seqLevel_mild _)
  case heaterTest => exact Run.react_keepsAct (heaterTest_mild _)
  case enter x b => exact Run.react_keepsAct (enter_mild _ x b)
  case seqReport => exact r.seqReport_mild.keepsAct
  case seqFlags => exact Run.keepsAct_of_hand rfl
  case igniting => exact Run.react_keepsAct (igniting_mild _)
  case running => exact Run.react_keepsAct (running_mild _)
  case stopping b => exact Run.react_keepsAct (stopping_mild _ b)
  case startFail b => exact Run.react_keepsAct (startFail_mild _ b)
  case runJudge => exact Run.react_keepsAct (runJudge_mild _)
  case runShed => exact Run.react_keepsAct (runShed_mild _)
  case cooldownEnd => exact Run.react_keepsAct (cooldownEnd_mild _)
  case unitReading u b => exact Run.react_keepsAct (closing_mild _ (unitReading_mild _ u b))
  case unitLost => exact Run.react_keepsAct (unitLost_mild _)
  case offFaulty => exact Run.react_keepsAct (offFaulty_mild _)
  case blockBegins m => exact (r.apart_mild.trans (Run.react_mild _ (blockBegins_mild _ m))).keepsAct
  case stowSignal m => exact Run.react_keepsAct (stowSignal_mild _ m)
  case claim m => exact Run.react_keepsAct (claim_mild _ m)
  case moveEnd m f w => exact Run.react_keepsAct (moveEnd_mild _ m f w)
  case moveFree m => exact Run.keepsAct_of_hand (moveFree_hand _ m)
  case moveResult m f w => exact Run.keepsAct_react (fun K P hs => moveResult_sound m f w hs) (moveResult_calm m f w)
  case serveRelease => exact Run.react_keepsAct (serveRelease_mild _)
  case retract m => exact Run.react_keepsAct (requestRetract_mild _ m)
  case extension => exact Run.react_keepsAct (extension_mild _)
  case doorScene => exact Run.keepsAct_react (fun K P hs => doorScene_sound hs) doorScene_calm
  case recallOn l o b cs lost =>
    exact Run.keepsAct_react (fun K P hs => recallStep_sound l o b cs lost hs) (recallStep_calm l o b cs lost)
  case applied o k b => exact Run.keepsAct_react (fun K P hs => applied_sound o k b hs) ⟨rfl, id, rfl, fun _ h => h⟩
  case supersede p o c =>
    refine Run.keepsAct_react (fun K P hs => ?_) (supersede_calm p o c)
    cases p with
    | host m => exact hs
    | entry k =>
      have hp : r.st.Sound K P := hs
      have he : r.st.Eases (supersede (.entry k) o c r.st).1 := .of_hand rfl
      exact hp.eases he
  case recallTest o => exact Run.keepsAct_react (fun K P hs => recallTest_sound o hs) (recallTest_calm o)
  case ramp c => exact Run.react_keepsAct (ramp_mild _ c)

/-! ### Runs -/

/-- A run that is not cut short keeps the invariant and has met every pledge. -/
theorem settle_sound : ∀ (k : Nat) (r : Run), (settle k r).overrun = false →
    r.st.overrun = false ∧ ∀ K, r.st.Sound K (pledgesOf r.work) → (settle k r).Sound K []
  | 0, r, ho => by
    unfold settle at ho ⊢
    split at ho
    · next hw =>
      rw [if_pos hw]
      exact ⟨ho, fun K hs => by rwa [List.isEmpty_iff.1 hw] at hs⟩
    · exact absurd ho (by simp)
  | k + 1, r, ho => by
    unfold settle at ho ⊢
    split at ho
    · next hw => exact ⟨ho, fun K hs => by rwa [hw] at hs⟩
    · next a l hw =>
      obtain ⟨hover, hs⟩ := settle_sound k _ ho
      obtain ⟨hkeep, hsame⟩ := perform_keeps a { r with work := l }
      exact ⟨hsame.1 ▸ hover, fun K h => hs K (hkeep K (by rwa [hw] at h))⟩

theorem settle_drains (k : Nat) (r : Run) : Drains r.st (settle k r) :=
  settle_keeps (P := fun t => Drains r.st t) (fun a q h => h.trans (perform_keeps a q).2.2)
    (fun _ _ h => ⟨h.idle, h.intake, h.held⟩) k r (.refl _)

theorem run_drains (l : List Act) (s : State) : Drains s (run l s) :=
  settle_drains cascadeBound { st := s, work := l }

theorem runEval_drains (l : List Act) (s : State) : Drains s (runEval l s) :=
  settle_drains cascadeBound { st := s, work := l, evals := 1 }

/-- Wherever the model's bound has not been overrun by the time `t` is reached, it was not at `s`, and `t` has the invariant with the
slots `L` taken if `s` has it with `K`. -/
def Leads (K L : List (Fin 32)) (s t : State) : Prop :=
  t.overrun = false → s.overrun = false ∧ (s.Sound K [] → t.Sound L [])

namespace Leads

variable {L M : List (Fin 32)}

theorem refl (s : State) : Leads K K s s := fun h => ⟨h, id⟩

theorem trans (h : Leads K L s t) (g : Leads L M t u) : Leads K M s u := fun ho =>
  ⟨(h (g ho).1).1, fun hs => (g ho).2 ((h (g ho).1).2 hs)⟩

theorem of_eases (h : s.Eases t) : Leads K K s t := fun ho => ⟨h.overrun ▸ ho, fun hs => hs.eases h⟩

theorem of_hand (h : t.hand = s.hand) : Leads K K s t := of_eases (.of_hand h)

/-- A change within a command. -/
theorem of_sound (ho : t.overrun = s.overrun) (h : s.Sound K [] → t.Sound L []) : Leads K L s t := fun e => ⟨ho ▸ e, h⟩

end Leads

theorem finish_leads (n : Fin 32) (f : Finish) (s : State) : Leads (n :: K) K s (finish n f s) :=
  .of_sound (finish_overrun n f s) fun h => h.finish_loose f

/-- The first acts of a run may owe what `P` says. -/
theorem run_leads_of {L : List (Fin 32)} {l : List Act} (ho : t.overrun = s.overrun) (hk : s.Sound K [] → t.Sound L (pledgesOf l)) :
    Leads K L s (run l t) := fun e =>
  have h := settle_sound _ _ e
  ⟨ho ▸ h.1, fun hs => h.2 L (hk hs)⟩

theorem run_leads {l : List Act} (h : Plain l) (s : State) : Leads K K s (run l s) := run_leads_of rfl fun hs => by rwa [h]

theorem runEval_leads {l : List Act} (h : Plain l) (s : State) : Leads K K s (runEval l s) := fun ho =>
  have g := settle_sound _ _ ho
  ⟨g.1, fun hs => g.2 K (by rwa [show pledgesOf l = [] from h])⟩

theorem runReact_leads {f : State → React} (h : Mild s (f s)) : Leads K K s (runReact f s) :=
  (Leads.of_eases h.1).trans (run_leads h.2 _)

theorem runEach_leads {l : List Act} (h : ∀ a ∈ l, ∀ s, Leads K K s (run [a] s)) : ∀ s : State, Leads K K s (runEach l s) := by
  induction l with
  | nil => exact Leads.refl
  | cons a l ih => exact fun s => (h a (List.mem_cons_self ..) s).trans (ih (fun b hb => h b (List.mem_cons_of_mem _ hb)) _)

/-- Acts that owe nothing, one after the other. -/
theorem runEach_plain {l : List Act} (h : Plain l) (s : State) : Leads K K s (runEach l s) :=
  runEach_leads (fun a ha => run_leads (by
    induction l with
    | nil => exact absurd ha (by simp)
    | cons b l ih =>
      obtain ⟨hb, hl⟩ := plain_cons.1 h
      rcases List.mem_cons.1 ha with rfl | ha
      · exact plain_cons.2 ⟨hb, plain_nil⟩
      · exact ih hl ha)) s

/-! ### Courses -/

/-- What a command does before it ends its order: changes that take nothing in hand, and cascades whose first acts owe nothing. -/
inductive Course : State → State → Prop
  | eases {s t : State} (h : s.Eases t) : Course s t
  | run {l : List Act} (h : Plain l) (s : State) : Course s (run l s)
  | eval {l : List Act} (h : Plain l) (s : State) : Course s (runEval l s)
  | trans {s t u : State} (h : Course s t) (g : Course t u) : Course s u

namespace Course

theorem refl (s : State) : Course s s := .eases (.refl s)

theorem of_hand (h : t.hand = s.hand) : Course s t := .eases (.of_hand h)

/-- A cascade begun at a state with the same `hand`. -/
theorem run_from (s : State) {t : State} {l : List Act} (hl : Plain l) (h : t.hand = s.hand) : Course s (Machine.run l t) :=
  (of_hand h).trans (.run hl t)

theorem react {f : State → React} (h : Mild s (f s)) : Course s (runReact f s) := (Course.eases h.1).trans (.run h.2 _)

theorem leads (h : Course s t) : Leads K K s t := by
  induction h with
  | eases h => exact .of_eases h
  | run h s => exact run_leads h s
  | eval h s => exact runEval_leads h s
  | trans _ _ h g => exact h.trans g

theorem drains (h : Course s t) : Drains s t := by
  induction h with
  | eases h => exact h.drains
  | run h s => exact run_drains _ s
  | eval h s => exact runEval_drains _ s
  | trans _ _ h g => exact h.trans g

end Course

/-- The order of slot `n` ends at the end of a course. -/
def Ends (n : Fin 32) (s u : State) : Prop := ∃ t f, Course s t ∧ u = finish n f t

theorem Course.ends (h : Course s t) (n : Fin 32) (f : Finish) : Ends n s (finish n f t) := ⟨t, f, h, rfl⟩

theorem Ends.now (n : Fin 32) (f : Finish) (s : State) : Ends n s (finish n f s) := (Course.refl s).ends n f

theorem Ends.leads (h : Ends n s u) : Leads (n :: K) K s u := by
  obtain ⟨t, f, hc, rfl⟩ := h
  exact hc.leads.trans (finish_leads n f t)

theorem Ends.drains (h : Ends n s u) : Drains s u := by
  obtain ⟨t, f, hc, rfl⟩ := h
  exact hc.drains.trans (finish_drains n f t)

/-! ### Closes -/

theorem syncAll_hand (l : List Part) (s : State) : (syncAll l s).hand = s.hand := by
  obtain ⟨d, h⟩ := syncAll_digest l s
  rw [h]; rfl

theorem close_hand (s : State) : (close s).hand = s.hand := syncAll_hand _ _

theorem closeFrom_hand (old s : State) : (closeFrom old s).hand = s.hand := by
  obtain ⟨d, h⟩ := closeFrom_digest old s
  rw [h]; rfl

theorem Leads.close {L : List (Fin 32)} (h : Leads K L s t) : Leads K L s (close t) := h.trans (.of_hand (close_hand t))

theorem Leads.closeFrom {L : List (Fin 32)} {old : State} (h : Leads K L s t) : Leads K L s (closeFrom old t) :=
  h.trans (.of_hand (closeFrom_hand old t))

/-- A command of a block that runs from ACTIVE on. -/
theorem inRun_leads {f : State → State} (h : s.pins.reset = false → Leads K K s (f s)) : Leads K K s (inRun f s) := by
  unfold inRun
  split
  · next hb =>
    have hr : s.pins.reset = false := by
      simp only [blocksRun, Bool.and_eq_true, Bool.not_eq_true'] at hb
      exact hb.1
    exact (h hr).close
  · exact .refl s

theorem live_leads {f : State → State} (h : s.pins.reset = false → Leads K K s (f s)) : Leads K K s (live f s) := by
  unfold live
  split
  · exact .refl s
  · next hr => exact (h (by simpa using hr)).closeFrom

end Sys2Proof.Machine
end

section
/-!
SUPPORT. The host accesses and the dispatch of orders, from invariant to invariant.
-/
namespace Sys2Proof.Machine

variable {K : List (Fin 32)} {P Q : List Pledge} {s t u : State} {n : Fin 32}

/-! ### Rest, waking and accesses -/

section
variable (s : State)
@[simp] theorem raise_hand (g : Group) (b : BitVec 32) : (raise g b s).hand = s.hand := rfl
@[simp] theorem syncPart_hand (p : Part) : (syncPart p s).hand = s.hand := rfl
@[simp] theorem showAction_hand (m l : List Part) : (showAction m l s).hand = s.hand := rfl
@[simp] theorem digestUpdate_hand (l : List (Nat × Word)) : (digestUpdate l s).hand = s.hand := rfl
@[simp] theorem setBus_hand (w : Word) : (setBus w s).hand = s.hand := rfl
@[simp] theorem setNode_hand (i : Fin 12) (x : Node) : (setNode i x s).hand = s.hand := rfl
@[simp] theorem setLink_hand (f : Link → Link) : (setLink f s).hand = s.hand := rfl
@[simp] theorem setOutlet_hand (o : Fin 16) (x : Outlet) : (setOutlet o x s).hand = s.hand := rfl
@[simp] theorem setFrost_hand (f : Frost → Frost) : (setFrost f s).hand = s.hand := rfl
@[simp] theorem setPump_hand (f : Pump → Pump) : (setPump f s).hand = s.hand := rfl
@[simp] theorem setSeq_hand (f : Sequencer → Sequencer) : (setSeq f s).hand = s.hand := rfl
@[simp] theorem setZone_hand (z : Fin 3) (x : Zone) : (setZone z x s).hand = s.hand := rfl
@[simp] theorem setTally_hand (f : Tally → Tally) : (setTally f s).hand = s.hand := rfl
@[simp] theorem setHeld_hand (o : Fin 16) (b : Bool) : (setHeld o b s).hand = s.hand := rfl
@[simp] theorem setLatch_hand (b : Bool) : (setLatch b s).hand = s.hand := rfl
end

@[simp] theorem overNodes_hand (f : Fin 12 → Node → Node) (l : List (Fin 12)) : ∀ s : State, (overNodes f l s).hand = s.hand := by
  induction l with
  | nil => exact fun _ => rfl
  | cons i l ih => exact fun s => (ih _).trans rfl

@[simp] theorem allDue_hand (k : Nat) (s : State) : (allDue k s).hand = s.hand := overNodes_hand _ _ _
@[simp] theorem restScale_hand (s : State) : (restScale s).hand = s.hand := overNodes_hand _ _ _

/-- A run of acts that owe nothing, begun at a state with the same `hand`. -/
theorem run_leads_from (s : State) {t : State} {l : List Act} (hl : Plain l) (h : t.hand = s.hand) : Leads K K s (run l t) :=
  (Leads.of_hand h).trans (run_leads hl t)

theorem setPower_eases (p : PowerState) (s : State) : s.Eases (setPower p s) :=
  ⟨rfl, rfl, rfl, rfl, fun _ => rfl, fun _ h => h, fun _ h => h, fun _ _ h => h, fun _ h => h, fun _ _ h => h⟩

/-- The idle timer carries no order. -/
theorem setIdle_leads (k : Nat) (s : State) : Leads K K s (setIdle k s) :=
  .of_sound rfl fun h => h.map (t := setIdle k s) rfl h.wf (fun hq => hq) fun g =>
    ⟨g.sorted.congr rfl rfl rfl rfl, g.inHand, g.apart, g.once, g.oneRecall, by simp⟩

theorem wake_course (s : State) : Course s (wake s) := by
  have hrun : Course s (run [.signal .rest 0] (setPower .active s)) := (Course.eases (setPower_eases .active s)).trans (.run (by exact rfl) _)
  exact hrun.trans (.of_hand (by rw [wake, raise_hand, syncPart_hand, allDue_hand]))

theorem enterRest_course (s : State) : Course s (enterRest s) := by
  have hrun : Course s (run [.signal .rest 1] (setPower .rest s)) := (Course.eases (setPower_eases .rest s)).trans (.run (by exact rfl) _)
  exact hrun.trans (.of_hand (by rw [enterRest, raise_hand, syncPart_hand, restScale_hand]))

theorem wake_leads (s : State) : Leads K K s (wake s) := (wake_course s).leads
theorem enterRest_leads (s : State) : Leads K K s (enterRest s) := (enterRest_course s).leads

theorem access_leads (s : State) : Leads K K s (access s) := by
  unfold access
  split
  · exact (wake_leads s).close
  · exact setIdle_leads 0 s

theorem wakeEvent_leads (s : State) : Leads K K s (wakeEvent s) := by
  unfold wakeEvent
  split
  · exact wake_leads s
  · exact setIdle_leads 0 s

theorem hostRead_leads (addr : BitVec 13) (s : State) : Leads K K s (hostReadOf addr s) := by
  unfold hostReadOf
  split
  · exact .of_hand (setBus_hand s _)
  · exact ((access_leads s).trans (.of_hand (setBus_hand _ _))).closeFrom

theorem overNodes_pins (f : Fin 12 → Node → Node) (l : List (Fin 12)) : ∀ s : State, (overNodes f l s).pins = s.pins := by
  induction l with
  | nil => exact fun _ => rfl
  | cons i l ih => exact fun s => (ih _).trans rfl

theorem run_pins (l : List Act) (s : State) : (run l s).pins = s.pins := congrArg Steady.pins (run_steady l s)

@[simp] theorem allDue_pins (k : Nat) (s : State) : (allDue k s).pins = s.pins := overNodes_pins _ _ _

theorem wake_pins (s : State) : (wake s).pins = s.pins := by
  rw [wake, raise_pins, syncPart_pins, allDue_pins, run_pins]; rfl

theorem close_pins (s : State) : (close s).pins = s.pins := by
  obtain ⟨d, h⟩ := syncAll_digest parts s
  rw [close, h]

theorem access_pins (s : State) : (access s).pins = s.pins := by
  unfold access
  split
  · rw [close_pins, wake_pins]
  · rfl

/-! ### Writes to slots -/

/-- A change of the queues alone: nothing is taken in hand and no entry leaves the owner table. -/
theorem State.Running.resort {L : List (Fin 32)} (h : s.Running K []) (hs : t.Sorted L) (hw : t.water = s.water)
    (hm : t.movers = s.movers) (hl : t.lights = s.lights) (hst : t.store = s.store)
    (ho : ∀ e ∈ s.disp.owners, e ∈ t.disp.owners) : t.Running L [] :=
  ⟨hs, fun n b e => ho _ (h.inHand n b ((hands_congr hw hm hl hst n b).1 e)), fun n => by
    simp only [tagOf, mover, hm]; exact h.apart n, by simp, by simp, by simp⟩

theorem State.Sound.map_running {L : List (Fin 32)} (h : s.Sound K P) (hr : t.pins.reset = false) (hs : s.pins.reset = false)
    (hw : Mem.Wf 0 t.ram.slots) (f : s.Running K P → t.Running L Q) : t.Sound L Q :=
  ⟨hw, fun e => absurd (hr.symm.trans e) (by simp), fun _ => f (h.running hs)⟩

/-- R3: a stored slot word is no word of a waiting or taken order. -/
theorem State.Sorted.setSlotWord (h : s.Sorted K) {i : Nat} (v : Word) (hi : i < 16) (h0 : i ≠ 0) (hn : slotState s n ≠ .posted) :
    (setSlotWord n i v s).Sorted K where
  wf := setSlotWord_wf h.wf
  intakeOnce := h.intakeOnce
  heldOnce := h.heldOnce
  ownersOnce := h.ownersOnce
  intake m := by
    refine (h.intake m).trans ?_
    rw [slotState_setSlotWord h.wf n m v hi h0]
    by_cases e : m = n
    · simp [e, hn]
    · rw [follower_setSlotWord_other h.wf n m v hi e]
  held m := by
    refine (h.held m).trans ?_
    rw [slotState_setSlotWord h.wf n m v hi h0]
    by_cases e : m = n
    · simp [e, hn]
    · rw [follower_setSlotWord_other h.wf n m v hi e]
  owners m := by rw [slotState_setSlotWord h.wf n m v hi h0]; exact h.owners m

/-- A state word changes between two states of the same collection, or of none. -/
theorem State.Sorted.setSlotState (h : s.Sorted K) (x : SlotState) (hp : x = .posted ↔ slotState s n = .posted)
    (ht : (x = .taken ∨ x = .cancel) ↔ (slotState s n = .taken ∨ slotState s n = .cancel)) : (setSlotState n x s).Sorted K where
  wf := setSlotWord_wf h.wf
  intakeOnce := h.intakeOnce
  heldOnce := h.heldOnce
  ownersOnce := h.ownersOnce
  intake m := by
    refine (h.intake m).trans ?_
    rw [slotState_setSlotState h.wf, follower_setSlotState h.wf]
    by_cases e : m = n <;> simp [e, hp]
  held m := by
    refine (h.held m).trans ?_
    rw [slotState_setSlotState h.wf, follower_setSlotState h.wf]
    by_cases e : m = n <;> simp [e, hp]
  owners m := by
    refine (h.owners m).trans ?_
    rw [slotState_setSlotState h.wf]
    by_cases e : m = n <;> simp [e, ht]

theorem follower_post (hw : Mem.Wf 0 s.ram.slots) (n : Fin 32) : follower (setSlotState n .posted s) n = follower s n :=
  follower_setSlotState hw n n _

/-- R4: a posted slot joins the queue its FOLLOWER bit names. -/
theorem State.Sorted.post (h : s.Sorted []) (hn : slotState s n = .empty) : (post n s).Sorted [] := by
  have hi : n ∉ s.disp.intake := fun hc => by have := ((h.intake n).1 hc).2.1; simp [hn] at this
  have hh : n ∉ s.disp.held.map (·.slot) := fun hc => by have := ((h.held n).1 hc).2.1; simp [hn] at this
  have hstate : ∀ m, slotState (Machine.setSlotState n .posted s) m = if m = n then .posted else slotState s m :=
    fun m => slotState_setSlotState h.wf n m _
  have hown : ∀ m, m ∈ s.disp.owners.map (·.1) ↔
      m ∉ ([] : List (Fin 32)) ∧ (slotState (Machine.setSlotState n .posted s) m = .taken ∨
        slotState (Machine.setSlotState n .posted s) m = .cancel) := fun m => by
    rw [hstate, h.owners m]
    by_cases e : m = n <;> simp [e, hn]
  unfold Machine.post
  simp only
  split
  · next hf =>
    rw [follower_post h.wf] at hf
    refine ⟨setSlotWord_wf h.wf, h.intakeOnce, List.nodup_cons.2 ⟨hh, h.heldOnce⟩, h.ownersOnce, fun m => ?_, fun m => ?_, hown⟩
    · refine (h.intake m).trans ?_
      show _ ↔ _ ∧ slotState (Machine.setSlotState n .posted s) m = .posted ∧ follower (Machine.setSlotState n .posted s) m = false
      rw [hstate, follower_setSlotState h.wf]
      by_cases e : m = n <;> simp [e, hn, hf]
    · show m ∈ n :: s.disp.held.map (·.slot) ↔
        _ ∧ slotState (Machine.setSlotState n .posted s) m = .posted ∧ follower (Machine.setSlotState n .posted s) m = true
      rw [hstate, follower_setSlotState h.wf, List.mem_cons, h.held m]
      by_cases e : m = n <;> simp [e, hf]
  · next hf =>
    rw [follower_post h.wf] at hf
    refine ⟨setSlotWord_wf h.wf, ?_, h.heldOnce, h.ownersOnce, fun m => ?_, fun m => ?_, hown⟩
    · exact List.nodup_append.2 ⟨h.intakeOnce, by simp, fun a ha b hb => by
        obtain rfl := List.mem_singleton.1 hb
        exact fun e => hi (e ▸ ha)⟩
    · show m ∈ s.disp.intake ++ [n] ↔
        _ ∧ slotState (Machine.setSlotState n .posted s) m = .posted ∧ follower (Machine.setSlotState n .posted s) m = false
      rw [hstate, follower_setSlotState h.wf, List.mem_append, h.intake m]
      by_cases e : m = n <;> simp [e, hf]
    · refine (h.held m).trans ?_
      show _ ↔ _ ∧ slotState (Machine.setSlotState n .posted s) m = .posted ∧ follower (Machine.setSlotState n .posted s) m = true
      rw [hstate, follower_setSlotState h.wf]
      by_cases e : m = n <;> simp [e, hn, hf]

/-! ### Taking a slot out of the queues -/

theorem State.Sound.takeSlot (h : s.Sound K []) (hr : s.pins.reset = false) (hn : n ∉ s.disp.owners.map (·.1)) :
    (takeSlot n s).Sound (n :: K) [] :=
  h.map_running hr hr h.wf fun g =>
    g.resort (State.Sorted.takeSlot (K := K) (by simpa using g.sorted) hn) rfl rfl rfl rfl fun _ h => h

theorem State.Sound.service_loose (f : Finish) (h : s.Sound (n :: K) []) : (service n f s).Sound K [] :=
  h.map (t := service n f s) rfl (service_wf h.wf) (service_noQueues f) fun g => by
    have hn : n ∈ ([] : List Pledge).flatMap Pledge.loose ++ n :: K := by simp
    exact g.ended (g.sorted.service (g.sorted.not_intake hn) (g.sorted.not_held hn) f fun m hm => by simp [hm]) rfl rfl rfl rfl
      rfl (g.not_hands hn) (.refl _) (by simp)

theorem not_owners_of_state (h : s.Sound K []) (hr : s.pins.reset = false) (h1 : slotState s n ≠ .taken) (h2 : slotState s n ≠ .cancel) :
    n ∉ s.disp.owners.map (·.1) := fun ho => (((h.running hr).sorted.owners n).1 ho).2.elim h1 h2

/-! ### The write watch (R4 to R8) -/

theorem dropGroup_hand (g : Group) (s : State) : (dropGroup g s).hand = s.hand := by
  unfold dropGroup; simp only; split <;> rfl

theorem clearPending_hand (l : List Group) (s : State) : (clearPending l s).hand = s.hand := by
  have hfold : ∀ (l : List Group) (s : State), (l.foldl (fun s g => dropGroup g s) s).hand = s.hand := by
    intro l
    induction l with
    | nil => exact fun _ => rfl
    | cons g l ih => exact fun s => (ih _).trans (dropGroup_hand g s)
  cases l with
  | nil => rfl
  | cons g l => exact hfold (g :: l) s

theorem clearGroup_hand (g : Group) (s : State) : (clearGroup g s).hand = s.hand := clearPending_hand _ _
theorem clearGroups_hand (v : Word) (l : List Group) (s : State) : (clearGroups v l s).hand = s.hand := clearPending_hand _ _

end Sys2Proof.Machine
end

section
/-!
SUPPORT. RESET, its release and a power-on: what the start states of the blocks leave, and the sweep of the slots.
-/
namespace Sys2Proof.Machine

/-! ### The sweep (R27) -/

theorem sweepSlot_slots (n : Fin 32) (s : State) :
    (sweepSlot n s).ram.slots = if isSwept s n then (writeFinish n { outcome := .restart } 0 s).ram.slots else s.ram.slots := by
  unfold sweepSlot; split <;> rfl

theorem sweepSlot_wf {s : State} (n : Fin 32) (hw : Mem.Wf 0 s.ram.slots) : Mem.Wf 0 (sweepSlot n s).ram.slots := by
  rw [sweepSlot_slots]
  split
  · exact writeFinish_wf hw
  · exact hw

theorem slotWord_sweepSlot {s : State} (hw : Mem.Wf 0 s.ram.slots) (n m : Fin 32) (j : Nat) (hj : j < 16) :
    slotWord (sweepSlot n s) m j =
      if m = n ∧ isSwept s n = true then (finishWord { outcome := .restart } 0 j).getD (slotWord s m j) else slotWord s m j := by
  unfold slotWord
  rw [sweepSlot_slots]
  split
  · next h =>
    have := slotWord_writeFinish hw n m { outcome := .restart } 0 j hj
    simpa [h, slotWord] using this
  · next h => simp [h]

theorem isSwept_congr {s t : State} {m : Fin 32} (h : slotState t m = slotState s m) : isSwept t m = isSwept s m := by
  unfold isSwept; rw [h]

theorem isSwept_sweepSlot {s : State} (hw : Mem.Wf 0 s.ram.slots) (n m : Fin 32) :
    isSwept (sweepSlot n s) m = (isSwept s m && m != n) := by
  have hword := slotWord_sweepSlot hw n m 0 (by omega)
  by_cases h : m = n ∧ isSwept s n = true
  · rw [if_pos h] at hword
    have hf : slotState (sweepSlot n s) m = .failed := by rw [slotState, hword]; rfl
    rw [h.1] at hf ⊢
    simp [isSwept, hf]
  · rw [if_neg h] at hword
    rw [isSwept_congr (s := s) (by rw [slotState, slotState, hword])]
    by_cases e : m = n
    · subst e
      simpa using h
    · simp [e]

theorem sweepSlots_wf (l : List (Fin 32)) : ∀ {s : State}, Mem.Wf 0 s.ram.slots → Mem.Wf 0 (sweepSlots l s).ram.slots := by
  induction l with
  | nil => exact id
  | cons n l ih => exact fun hw => ih (sweepSlot_wf n hw)

theorem slotWord_sweepSlots (l : List (Fin 32)) : ∀ {s : State}, Mem.Wf 0 s.ram.slots → ∀ (m : Fin 32) (j : Nat), j < 16 →
    slotWord (sweepSlots l s) m j =
      if m ∈ l ∧ isSwept s m = true then (finishWord { outcome := .restart } 0 j).getD (slotWord s m j) else slotWord s m j := by
  induction l with
  | nil => exact fun _ _ _ _ => by simp [sweepSlots]
  | cons n l ih =>
    intro s hw m j hj
    rw [sweepSlots, ih (sweepSlot_wf n hw) m j hj, isSwept_sweepSlot hw, slotWord_sweepSlot hw n m j hj]
    by_cases e : m = n
    · subst e; simp
    · simp [e]

theorem sweep_slots (s : State) : (sweep s).ram.slots = (sweepSlots (List.finRange 32) s).ram.slots := by
  unfold sweep
  generalize List.finRange 32 = l
  simp only
  split <;> rfl

/-- R27: the sweep fails every POSTED, TAKEN and CANCEL slot with RESTART and leaves the words of the others. -/
theorem slotWord_sweep {s : State} (hw : Mem.Wf 0 s.ram.slots) (m : Fin 32) (j : Nat) (hj : j < 16) :
    slotWord (sweep s) m j =
      if isSwept s m = true then (finishWord { outcome := .restart } 0 j).getD (slotWord s m j) else slotWord s m j := by
  have h := slotWord_sweepSlots (List.finRange 32) hw m j hj
  simp only [List.mem_finRange, true_and] at h
  rw [← h, slotWord_congr (sweep_slots s)]

theorem sweep_wf {s : State} (hw : Mem.Wf 0 s.ram.slots) : Mem.Wf 0 (sweep s).ram.slots := by
  rw [sweep_slots]; exact sweepSlots_wf _ hw

theorem slotState_sweep {s : State} (hw : Mem.Wf 0 s.ram.slots) (m : Fin 32) :
    slotState (sweep s) m = if isSwept s m = true then .failed else slotState s m := by
  rw [slotState, slotWord_sweep hw m 0 (by omega)]
  split <;> rfl

/-- After the sweep no slot waits or is taken. -/
theorem sweep_none {s : State} (hw : Mem.Wf 0 s.ram.slots) (m : Fin 32) :
    slotState (sweep s) m ≠ .posted ∧ slotState (sweep s) m ≠ .taken ∧ slotState (sweep s) m ≠ .cancel := by
  rw [slotState_sweep hw]
  split
  · simp
  · next h => revert h; unfold isSwept; cases slotState s m <;> simp

theorem sweepSlot_sansOrders (n : Fin 32) (s : State) : (sweepSlot n s).sansOrders = s.sansOrders := by
  unfold sweepSlot; split
  · rw [markNotice_sansOrders, writeFinish_sansOrders]
  · rfl

theorem sweepSlots_sansOrders (l : List (Fin 32)) : ∀ s : State, (sweepSlots l s).sansOrders = s.sansOrders := by
  induction l with
  | nil => exact fun _ => rfl
  | cons n l ih => exact fun s => (ih _).trans (sweepSlot_sansOrders n s)

theorem sweep_sansOrders (s : State) : (sweep s).sansOrders = s.sansOrders := by
  have h := sweepSlots_sansOrders (List.finRange 32) s
  unfold sweep
  generalize List.finRange 32 = l at h ⊢
  simp only
  split
  · exact Eq.trans rfl h
  · exact h

theorem sweepSlots_disp (l : List (Fin 32)) : ∀ s : State, (sweepSlots l s).disp = s.disp := by
  induction l with
  | nil => exact fun _ => rfl
  | cons n l ih =>
    refine fun s => (ih _).trans ?_
    unfold sweepSlot; split <;> rfl

theorem sweep_disp (s : State) : (sweep s).disp = s.disp := by
  have h := sweepSlots_disp (List.finRange 32) s
  unfold sweep
  generalize List.finRange 32 = l at h ⊢
  simp only
  split <;> exact h

/-! ### The start states of the blocks -/

/-- t differs from s in the charge monitor, the outlets, the interlock, the water, climate and mover controllers and the retained
record at most. -/
structure SameFrame (s t : State) : Prop where
  ram : t.ram = s.ram
  port : t.port = s.port
  disp : t.disp = s.disp
  pins : t.pins = s.pins
  store : t.store = s.store
  pending : t.pending = s.pending
  overrun : t.overrun = s.overrun
  restarts : t.restarts = s.restarts
  time : t.time = s.time
  start : t.start = s.start
  lights : t.lights = s.lights
  link : t.link = s.link

theorem SameFrame.trans {s t u : State} (h : SameFrame s t) (g : SameFrame t u) : SameFrame s u :=
  ⟨g.ram.trans h.ram, g.port.trans h.port, g.disp.trans h.disp, g.pins.trans h.pins, g.store.trans h.store,
    g.pending.trans h.pending, g.overrun.trans h.overrun, g.restarts.trans h.restarts, g.time.trans h.time, g.start.trans h.start,
    g.lights.trans h.lights, g.link.trans h.link⟩

section
variable (k : StartKind) (s : State)

theorem setMover_frame (m : Mover) (x : MoverRec) : SameFrame s (setMover m x s) := by
  constructor <;> simp

theorem startCharge_frame : SameFrame s (startCharge k s) := by
  unfold startCharge firstLevels keepTally socEval
  exact ⟨rfl, rfl, rfl, rfl, rfl, rfl, rfl, rfl, rfl, rfl, rfl, rfl⟩

theorem startWater_frame : SameFrame s (startWater k s) := by
  unfold startWater setLatch setFrost
  constructor <;> simp

theorem startClimate_frame : SameFrame s (startClimate k s) := by
  unfold startClimate seqFlags
  constructor <;> simp

theorem startMover_frame (m : Mover) : SameFrame s (startMover k m s) := setMover_frame s m _

theorem startMovers_frame : SameFrame s (startMovers k s) :=
  have base : SameFrame s { s with movers := {} } := ⟨rfl, rfl, rfl, rfl, rfl, rfl, rfl, rfl, rfl, rfl, rfl, rfl⟩
  base.trans ((startMover_frame k _ .awning).trans (startMover_frame k _ .step))

theorem startInterlock_frame : SameFrame s (startInterlock s) := ⟨rfl, rfl, rfl, rfl, rfl, rfl, rfl, rfl, rfl, rfl, rfl, rfl⟩

/-- What the blocks start from: the link, the lighting and part time are fresh. -/
def startBase : State := { s with link := {}, lights := {}, start := k, time := 0 }

theorem startBlocks_eq : startBlocks k s =
    startInterlock (startMovers k (startClimate k (startWater k (startCharge k (startBase k s))))) := rfl

theorem startBlocks_frame : SameFrame (startBase k s) (startBlocks k s) := by
  rw [startBlocks_eq]
  exact (startCharge_frame k _).trans ((startWater_frame k _).trans ((startClimate_frame k _).trans
    ((startMovers_frame k _).trans (startInterlock_frame _))))

@[simp] theorem startMover_charge (m : Mover) : (startMover k m s).charge = s.charge := by simp [startMover]
@[simp] theorem startMover_outlets (m : Mover) : (startMover k m s).outlets = s.outlets := by simp [startMover]
@[simp] theorem startMover_water (m : Mover) : (startMover k m s).water = s.water := by simp [startMover]
@[simp] theorem startMover_climate (m : Mover) : (startMover k m s).climate = s.climate := by simp [startMover]
@[simp] theorem startMovers_charge : (startMovers k s).charge = s.charge := by simp [startMovers]
@[simp] theorem startMovers_outlets : (startMovers k s).outlets = s.outlets := by simp [startMovers]
@[simp] theorem startMovers_water : (startMovers k s).water = s.water := by simp [startMovers]
@[simp] theorem startMovers_climate : (startMovers k s).climate = s.climate := by simp [startMovers]
@[simp] theorem startClimate_charge : (startClimate k s).charge = s.charge := by simp [startClimate, seqFlags]
@[simp] theorem startClimate_water : (startClimate k s).water = s.water := by simp [startClimate, seqFlags]
@[simp] theorem startWater_charge : (startWater k s).charge = s.charge := by simp [startWater, setLatch, setFrost]

theorem startBlocks_charge : (startBlocks k s).charge = (startCharge k (startBase k s)).charge := by
  rw [startBlocks_eq, startInterlock]; simp

theorem startBlocks_water : (startBlocks k s).water = (startWater k (startCharge k (startBase k s))).water := by
  rw [startBlocks_eq, startInterlock]; simp

theorem startBlocks_climate :
    (startBlocks k s).climate = (startClimate k (startWater k (startCharge k (startBase k s)))).climate := by
  rw [startBlocks_eq, startInterlock]; simp

theorem startBlocks_outlets :
    (startBlocks k s).outlets = (startClimate k (startWater k (startCharge k (startBase k s)))).outlets := by
  rw [startBlocks_eq, startInterlock]; simp

theorem startBlocks_movers :
    (startBlocks k s).movers = (startMovers k (startClimate k (startWater k (startCharge k (startBase k s))))).movers := by
  rw [startBlocks_eq, startInterlock]

theorem startBlocks_power : (startBlocks k s).charge.power = .starting := by
  rw [startBlocks_charge]; rfl

theorem startBlocks_fill : (startBlocks k s).water.fill = none := by
  rw [startBlocks_water]; simp [startWater, setLatch, setFrost]

theorem startBlocks_owner : (startBlocks k s).movers.owner = none := by
  rw [startBlocks_movers]; rfl

theorem mover_setMover (m : Mover) (x : MoverRec) : mover (setMover m x s) m = x := by cases m <;> rfl

theorem mover_setMover_other {m m' : Mover} (x : MoverRec) (h : m' ≠ m) : mover (setMover m x s) m' = mover s m' := by
  cases m <;> cases m' <;> first | rfl | exact absurd rfl h

theorem startMover_move (m m' : Mover) (h : (mover s m').move = none) : (mover (startMover k m s) m').move = none := by
  unfold startMover
  by_cases e : m' = m
  · subst e
    rw [mover_setMover]
    cases k <;> simp only <;> (repeat' split) <;> rfl
  · rwa [mover_setMover_other _ _ e]

theorem startBlocks_move (m : Mover) : (mover (startBlocks k s) m).move = none := by
  have h : mover (startBlocks k s) m =
      mover (startMovers k (startClimate k (startWater k (startCharge k (startBase k s))))) m := by
    simp only [mover, startBlocks_movers]
  rw [h, startMovers]
  exact startMover_move _ _ _ _ (startMover_move _ _ _ _ (by cases m <;> rfl))
end
/-- After a start of the blocks nothing is in hand but what the store has. -/
theorem startBlocks_hands {k : StartKind} {s : State} (hst : s.store.slot = none) (n : Fin 32) (b : Block) :
    ¬ (startBlocks k s).hands n b := by
  intro h
  cases b with
  | water =>
    obtain ⟨f, hf, -⟩ := h
    rw [startBlocks_fill] at hf
    cases hf
  | movers =>
    obtain ⟨m, v, hv, -⟩ := h
    exact absurd (hv.symm.trans (startBlocks_move k s m)) (by simp)
  | lights =>
    rcases h with ⟨r, hr, -⟩ | ⟨c, hc⟩
    · rw [(startBlocks_frame k s).lights] at hr
      exact absurd hr (by simp [startBase])
    · unfold channel at hc
      rw [(startBlocks_frame k s).lights] at hc
      simp [startBase] at hc
  | store =>
    have h : (startBlocks k s).store.slot = some n := h
    rw [(startBlocks_frame k s).store] at h
    exact absurd (hst.symm.trans h) (by simp)

/-- A start with empty queues and no slot that waits or is taken. -/
theorem startBlocks_sound {k : StartKind} {s : State} (hw : Mem.Wf 0 s.ram.slots) (hq : s.NoQueues) (hst : s.store.slot = none)
    (hs : ∀ m, slotState s m ≠ .posted ∧ slotState s m ≠ .taken ∧ slotState s m ≠ .cancel) : (startBlocks k s).Sound [] [] := by
  have hslots : (startBlocks k s).ram.slots = s.ram.slots := congrArg Ram.slots (startBlocks_frame k s).ram
  obtain ⟨hi, hh, ho⟩ : (startBlocks k s).NoQueues := by unfold State.NoQueues; rw [(startBlocks_frame k s).disp]; exact hq
  have hsorted : (startBlocks k s).Sorted [] :=
    { wf := hslots ▸ hw
      intakeOnce := by rw [hi]; exact List.nodup_nil
      heldOnce := by rw [hh]; exact List.nodup_nil
      ownersOnce := by rw [ho]; exact List.nodup_nil
      intake := fun m => by rw [hi, slotState_congr hslots]; simp [(hs m).1]
      held := fun m => by rw [hh, slotState_congr hslots]; simp [(hs m).1]
      owners := fun m => by rw [ho, slotState_congr hslots]; simp [(hs m).2] }
  refine ⟨hslots ▸ hw, fun _ => ⟨hi, hh, ho⟩, fun _ => ⟨hsorted, fun n b e => absurd e (startBlocks_hands hst n b), fun n e => ?_,
    by simp, by simp, by simp⟩⟩
  have := e.1
  rw [tagOf, startBlocks_move] at this
  cases this

/-! ### RESET and power-on -/

section
variable (d : Bool) (s : State)

theorem resetAssert_ram : (resetAssert d s).ram = (resetBase d s).ram := by
  rw [resetAssert]; exact (startBlocks_frame .restart (resetBase d s)).ram

theorem resetAssert_disp : (resetAssert d s).disp = {} := by
  rw [resetAssert]; exact (startBlocks_frame .restart (resetBase d s)).disp

theorem resetAssert_pins : (resetAssert d s).pins = { s.pins with reset := true } := by
  rw [resetAssert]; exact (startBlocks_frame .restart (resetBase d s)).pins

theorem resetAssert_overrun : (resetAssert d s).overrun = s.overrun := by
  have h : (resetBase d s).overrun = s.overrun := by simp only [resetBase, tearDigest, restartOutlets]
  rw [resetAssert]
  simp only
  rw [(startBlocks_frame .restart (resetBase d s)).overrun, startBase]
  exact h

/-- R27: the assertion of RESET. -/
theorem resetAssert_sound (hw : Mem.Wf 0 s.ram.slots) : (resetAssert d s).Sound [] [] ∧ (resetAssert d s).pins.reset = true := by
  have hslots : (resetAssert d s).ram.slots = s.ram.slots := by rw [resetAssert_ram]; rfl
  have hreset : (resetAssert d s).pins.reset = true := by rw [resetAssert_pins]
  refine ⟨⟨hslots ▸ hw, fun _ => ?_, fun h => absurd (hreset.symm.trans h) (by simp)⟩, hreset⟩
  unfold State.NoQueues
  rw [resetAssert_disp]
  exact ⟨rfl, rfl, rfl⟩

/-- What the blocks are started from at a release of RESET. -/
def releaseBase : State := settlePins (loadSettings (sweep (freshSeconds { s with pins := { s.pins with reset := false } })))

theorem resetRelease_eq : resetRelease s = startBlocks .restart (releaseBase s) := rfl

theorem settlePins_loadSettings_ram : (settlePins (loadSettings s)).ram = s.ram := rfl
theorem settlePins_loadSettings_disp : (settlePins (loadSettings s)).disp = s.disp := rfl
theorem settlePins_loadSettings_overrun : (settlePins (loadSettings s)).overrun = s.overrun := rfl
theorem settlePins_loadSettings_slot : (settlePins (loadSettings s)).store.slot = none := rfl

/-- R27, R188: the release of RESET. -/
theorem resetRelease_sound {s : State} (h : s.Sound [] []) (hr : s.pins.reset = true) : (resetRelease s).Sound [] [] := by
  rw [resetRelease_eq, releaseBase]
  generalize hx : freshSeconds { s with pins := { s.pins with reset := false } } = x
  have hram : x.ram = s.ram := by rw [← hx]; rfl
  have hdisp : x.disp = s.disp := by rw [← hx]; rfl
  have hw : Mem.Wf 0 x.ram.slots := hram ▸ h.wf
  refine startBlocks_sound ?_ ?_ (settlePins_loadSettings_slot _) fun m => ?_
  · rw [settlePins_loadSettings_ram]
    exact sweep_wf hw
  · unfold State.NoQueues
    rw [settlePins_loadSettings_disp, sweep_disp, hdisp]
    exact h.inReset hr
  · rw [slotState_congr (s := sweep x) (by rw [settlePins_loadSettings_ram])]
    exact sweep_none hw m

/-- R26: a power-on. -/
theorem powerOn_sound : (powerOn s).Sound [] [] := by
  rw [powerOn]
  refine startBlocks_sound ?_ ⟨rfl, rfl, rfl⟩ (settlePins_loadSettings_slot _) fun m => ?_
  · rw [settlePins_loadSettings_ram]
    exact Mem.wf_nil
  · rw [slotState_congr (s := powerOnBase s) (by rw [settlePins_loadSettings_ram])]
    have hm : slotState (powerOnBase s) m = .empty := rfl
    simp [hm]

theorem resetRelease_overrun : (resetRelease s).overrun = s.overrun := by
  rw [resetRelease_eq, (startBlocks_frame _ _).overrun]
  change (releaseBase s).overrun = _
  rw [releaseBase, settlePins_loadSettings_overrun]
  generalize hx : freshSeconds { s with pins := { s.pins with reset := false } } = x
  have h : (sweep x).overrun = x.overrun := (congrArg State.overrun (sweep_sansOrders x) :)
  rw [h, ← hx]
  rfl

theorem restart_leads : Leads [] [] s (restart s) := by
  rw [restart]
  refine .of_sound ?_ fun h => ?_
  · rw [resetRelease_overrun, resetAssert_overrun]
  · have ha := resetAssert_sound (Config.restartCutsUpdate s.restarts) { s with restarts := s.restarts + 1 } h.wf
    exact resetRelease_sound ha.1 ha.2

end

end Sys2Proof.Machine
end

section
/-!
SUPPORT. The host writes, from invariant to invariant.
-/
namespace Sys2Proof.Machine

variable {K : List (Fin 32)} {P Q : List Pledge} {s t u : State} {n : Fin 32}

/-! ### The cancel of a taken order (R6) -/

theorem mem_owners_of_ownerBlock {b : Block} (h : ownerBlock s n = some b) : (n, b) ∈ s.disp.owners := by
  obtain ⟨e, he, hb⟩ := Option.map_eq_some_iff.1 h
  have hn : e.1 = n := by simpa using List.find?_some he
  have hm := List.mem_of_find?_eq_some he
  obtain ⟨m, c⟩ := e
  exact hn ▸ hb ▸ hm

theorem stopChannels_eases (l : List (Fin 6)) : ∀ s : State, s.Eases (stopChannels l s) := by
  induction l with
  | nil => exact .refl
  | cons c l ih =>
    intro s
    refine .trans ?_ (ih _)
    unfold stopChannel
    split
    · exact .refl s
    · exact setChannel_eases c _ s fun _ h => h

/-- An order that its one block lets go is pledged to end. -/
theorem State.Sound.let_go {b : Block} (h : s.Sound K []) (he : s.Eases t) (hn : (n, b) ∈ s.disp.owners) (ht : ¬ t.hands n b) :
    t.Sound K [.ends n] :=
  h.map_eases he fun g => g.pledge he (mem_owners hn) (by simp) fun c hc => by
    obtain rfl := g.hands_unique hn (he.hands hc)
    exact ht hc

theorem cancelRecall_state (n : Fin 32) (s : State) : (cancelRecall n s).1 =
    clearOwner (.host n) channels (dropRecalls [.host n] (stopChannels (ownedBy s (.host n)) s)) := by
  unfold cancelRecall
  simp only

theorem cancelRecall_eases (n : Fin 32) (s : State) : s.Eases (cancelRecall n s).1 :=
  cancelRecall_state n s ▸ (stopChannels_eases _ s).trans ((dropRecalls_eases _ _).trans (clearOwner_eases _ _ _))

theorem cancelRecall_pledges (n : Fin 32) (s : State) : pledgesOf (cancelRecall n s).2 = [.ends n] := by
  have hd : ∀ (t : State) (cs : List (Fin 6)), Plain (cs.flatMap (lightDemand t)) := fun t cs =>
    plain_of_forall fun a ha => by
      obtain ⟨c, -, hc⟩ := List.mem_flatMap.1 ha
      have hall : ∀ l : List Act, Plain l → ∀ a ∈ l, a.pledges = [] := fun l => by
        induction l with
        | nil => exact fun _ a h => absurd h (by simp)
        | cons b l ih => exact fun h => List.forall_mem_cons.2 ⟨(plain_cons.1 h).1, ih (plain_cons.1 h).2⟩
      exact hall _ (plain_lightDemand t c) a hc
  unfold cancelRecall
  simp only [pledgesOf_append]
  rw [show pledgesOf (List.flatMap _ _) = [] from hd _ _]
  simp only [pledgesOf, Act.pledges, List.nil_append, List.append_nil]

theorem cancelRecall_sound (h : s.Sound K []) (hn : (n, .lights) ∈ s.disp.owners) :
    (cancelRecall n s).1.Sound K (pledgesOf (cancelRecall n s).2) := by
  rw [cancelRecall_pledges]
  refine h.let_go (cancelRecall_eases n s) hn ?_
  rw [cancelRecall_state]
  exact dropped_not_lights n _

theorem cancelStore_sound (h : s.Sound K []) (hn : (n, .store) ∈ s.disp.owners) :
    (cancelStore n s).1.Sound K (pledgesOf (cancelStore n s).2) := by
  unfold cancelStore
  split
  · have he : s.Eases { s with store := { s.store with phase := .idle, slot := none } } :=
      ⟨rfl, rfl, rfl, rfl, id, nofun, fun _ h => h, fun _ _ h => h, fun _ h => h, fun _ _ h => h⟩
    exact h.let_go he hn nofun
  · exact h

theorem tellCancel_sound (h : s.Sound K []) : (tellCancel n s).1.Sound K (pledgesOf (tellCancel n s).2) := by
  unfold tellCancel
  split
  · exact h
  · split <;> exact h
  · next hb => exact cancelRecall_sound h (mem_owners_of_ownerBlock hb)
  · next hb => exact cancelStore_sound h (mem_owners_of_ownerBlock hb)
  · exact h

theorem tellCancel_overrun (n : Fin 32) (s : State) : (tellCancel n s).1.overrun = s.overrun := by
  unfold tellCancel
  split
  · rfl
  · split <;> rfl
  · exact (cancelRecall_eases n s).overrun
  · unfold cancelStore; split <;> rfl
  · rfl

theorem tellCancel_leads (n : Fin 32) (s : State) : Leads K K s (runReact (tellCancel n) s) :=
  run_leads_of (tellCancel_overrun n s) tellCancel_sound

/-- A state word that moves within its collection. -/
theorem setSlotState_leads (x : SlotState) (hr : s.pins.reset = false) (hp : x = .posted ↔ slotState s n = .posted)
    (ht : (x = .taken ∨ x = .cancel) ↔ (slotState s n = .taken ∨ slotState s n = .cancel)) :
    Leads K K s (setSlotState n x s) :=
  .of_sound rfl fun h => h.map_running hr hr (setSlotWord_wf h.wf) fun g =>
    g.resort (by simpa using g.sorted.setSlotState x hp ht) rfl rfl rfl rfl fun _ h => h

theorem cancelTaken_leads (hr : s.pins.reset = false) (hn : slotState s n = .taken) : Leads K K s (cancelTaken n s) :=
  (setSlotState_leads .cancel hr (by simp [hn]) (by simp [hn])).trans (tellCancel_leads n _)

/-! ### State words and slot words -/

theorem post_leads (hr : s.pins.reset = false) (hn : slotState s n = .empty) : Leads [] [] s (post n s) := by
  refine .of_sound (by unfold post; simp only; split <;> rfl) fun h => ?_
  have hpost : (post n s).pins = s.pins ∧ (post n s).water = s.water ∧ (post n s).movers = s.movers ∧
      (post n s).lights = s.lights ∧ (post n s).store = s.store ∧ (post n s).disp.owners = s.disp.owners := by
    unfold post; simp only; split <;> exact ⟨rfl, rfl, rfl, rfl, rfl, rfl⟩
  obtain ⟨hp, hw, hm, hl, hs, ho⟩ := hpost
  have hsort := State.Sorted.post (n := n) (by simpa using (h.running hr).sorted) hn
  exact h.map_running (hp ▸ hr) hr hsort.wf fun g => g.resort hsort hw hm hl hs (by rw [ho]; exact fun _ h => h)

theorem dropHeld_dropIntake_eq (n : Fin 32) (s : State) : dropHeld n (dropIntake n s) = takeSlot n s := rfl

theorem cancelPosted_leads (hr : s.pins.reset = false) (hn : slotState s n = .posted) : Leads K K s (cancelPosted n s) := by
  refine .of_sound rfl fun h => ?_
  have ho := not_owners_of_state h hr (n := n) (by simp [hn]) (by simp [hn])
  exact (h.takeSlot hr ho).service_loose _

theorem portFault_hand (k : PortFault) (a : BitVec 13) (s : State) : (portFault k a s).hand = s.hand := by
  unfold portFault; split <;> rfl

theorem giveBack_leads (hr : s.pins.reset = false) (hn : slotState s n = .done ∨ slotState s n = .failed) :
    Leads K K s (giveBack n s) := by
  have hset : Leads K K s (setSlotState n .empty s) := by
    rcases hn with hn | hn <;> exact setSlotState_leads .empty hr (by simp [hn]) (by simp [hn])
  unfold giveBack
  simp only
  split
  · exact hset.trans (.of_hand (clearGroup_hand _ _))
  · exact hset

theorem stateWrite_leads (v : Word) (a : BitVec 13) (hr : s.pins.reset = false) : Leads [] [] s (stateWrite n v a s) := by
  have hfault : Leads [] [] s (portFault .slotState a s) := .of_hand (portFault_hand _ _ _)
  unfold stateWrite
  split
  · next hn =>
    split
    · exact post_leads hr hn
    · exact hfault
  · next hn =>
    split
    · exact cancelPosted_leads hr hn
    · exact hfault
  · next hn =>
    split
    · exact cancelTaken_leads hr hn
    · exact hfault
  · exact hfault
  · next hn =>
    split
    · exact .refl s
    · split
      · exact giveBack_leads hr (.inl hn)
      · exact hfault
  · next hn =>
    split
    · exact .refl s
    · split
      · exact giveBack_leads hr (.inr hn)
      · exact hfault

theorem setSlotWord_leads {i : Nat} (v : Word) (hr : s.pins.reset = false) (hi : i < 16) (h0 : i ≠ 0) (hn : slotState s n ≠ .posted) :
    Leads K K s (setSlotWord n i v s) :=
  .of_sound rfl fun h => h.map_running hr hr (setSlotWord_wf h.wf) fun g =>
    g.resort (by simpa using g.sorted.setSlotWord v hi h0 hn) rfl rfl rfl rfl fun _ h => h

theorem slotWrite_leads {i : Nat} (v : Word) (a : BitVec 13) (hr : s.pins.reset = false) (hi : i < 16) (h0 : i ≠ 0) :
    Leads K K s (slotWrite n i v a s) := by
  unfold slotWrite
  split
  · next hn => exact setSlotWord_leads v hr hi h0 (by simp [hn])
  · next hn => exact setSlotWord_leads v hr hi h0 (by simp [hn])
  · next hn => exact setSlotWord_leads v hr hi h0 (by simp [hn])
  · exact .of_hand (portFault_hand _ _ _)

/-! ### Writes by region -/

theorem invalidate_hand (n : Fin 32) (s : State) : (invalidate n s).hand = s.hand := by
  unfold invalidate; split <;> rfl

theorem store_leads (a : BitVec 13) (v : Word) (hr : s.pins.reset = false) : Leads [] [] s (store a v s) := by
  unfold store
  simp only
  split
  · split
    · exact stateWrite_leads v a hr
    · next h => exact slotWrite_leads v a hr (Nat.mod_lt _ (by omega)) h
  split
  · exact .of_hand (portFault_hand _ _ s)
  split
  · exact .of_hand (invalidate_hand _ _)
  split
  · exact .of_hand rfl
  split
  · exact .of_hand (portFault_hand _ _ s)
  split
  · exact .of_hand rfl
  split
  · exact .of_hand rfl
  split
  · exact .of_hand (clearGroups_hand v groups s)
  split
  · exact .of_hand rfl
  split <;> exact .of_hand (portFault_hand _ _ s)

theorem hostWrite_leads (a : BitVec 13) (v : Word) (s : State) : Leads [] [] s (hostWrite a v s) := by
  unfold hostWrite
  split
  · exact .refl s
  · next hr =>
    split
    · exact restart_leads s
    · exact ((access_leads s).trans (store_leads a v (by rw [access_pins]; simpa using hr))).closeFrom

end Sys2Proof.Machine
end

section
/-!
SUPPORT. The dispatch of orders, from invariant to invariant.
-/
namespace Sys2Proof.Machine

variable {K : List (Fin 32)} {P Q : List Pledge} {s t u : State} {n : Fin 32}

/-! ### The slot that is taken (R12) -/

theorem slot_of_earliest {l : List Held} : ∀ {q : Nat} {n : Fin 32}, earliest l = some (q, n) →
    ∃ h ∈ l, h.slot = n ∧ h.released = some q := by
  induction l with
  | nil => exact nofun
  | cons h l ih =>
    intro q n e
    unfold earliest at e
    have tail : earliest l = some (q, n) → ∃ g ∈ h :: l, g.slot = n ∧ g.released = some q := fun e => by
      obtain ⟨g, hg, hs⟩ := ih e
      exact ⟨g, List.mem_cons_of_mem _ hg, hs⟩
    split at e
    · next p q' m hp he =>
      split at e
      · cases e
        exact ⟨h, List.mem_cons_self .., rfl, hp⟩
      · cases e
        exact tail he
    · next p hp he =>
      cases e
      exact ⟨h, List.mem_cons_self .., rfl, hp⟩
    · exact tail e

theorem mem_of_nextSlot (h : nextSlot s = some n) : n ∈ s.disp.intake ∨ n ∈ s.disp.held.map (·.slot) := by
  unfold nextSlot at h
  split at h
  · next q m he =>
    cases h
    obtain ⟨g, hg, hs, -⟩ := slot_of_earliest he
    exact .inr (List.mem_map.2 ⟨g, hg, hs⟩)
  · exact .inl (List.mem_of_mem_head? (by rw [h]; rfl))

theorem State.Sorted.posted_of_nextSlot (h : s.Sorted K) (hn : nextSlot s = some n) : slotState s n = .posted := by
  rcases mem_of_nextSlot hn with hi | hh
  · exact ((h.intake n).1 hi).2.1
  · exact ((h.held n).1 hh).2.1

theorem takeSlot_leads (hr : s.pins.reset = false) (hn : nextSlot s = some n) : Leads [] [n] s (takeSlot n s) :=
  .of_sound rfl fun h => by
    have hp := (h.running hr).sorted.posted_of_nextSlot hn
    exact h.takeSlot hr (not_owners_of_state h hr (by simp [hp]) (by simp [hp]))

theorem claimFollower_leads (f : Fin 32) (hr : s.pins.reset = false) : Leads K K s (claimFollower n f s) :=
  .of_sound rfl fun h => h.map_running hr hr h.wf fun g =>
    g.resort (by simpa using g.sorted.claimFollower n f) rfl rfl rfl rfl fun _ h => h

/-- An owner's part of a dispatch, or the slot's end at the checks. -/
theorem dispatchSlot_leads {k : Kind} {body : Fin 32 → State → State} (hr : s.pins.reset = false)
    (hb : ∀ n t, t.pins.reset = false → Leads [n] [] t (body n t)) : Leads [n] [] s (dispatchSlot k body n s) := by
  unfold dispatchSlot
  split
  · exact finish_leads n _ s
  · split
    · exact finish_leads n _ s
    · exact hb n s hr
    · exact (claimFollower_leads _ hr).trans (hb n _ hr)

theorem dispatch_leads {k : Kind} {body : Fin 32 → State → State} (hr : s.pins.reset = false)
    (hb : ∀ n t, t.pins.reset = false → Leads [n] [] t (body n t)) : Leads [] [] s (dispatch k body s) := by
  unfold dispatch
  split
  · next n hn =>
    split
    · exact (takeSlot_leads hr hn).trans (dispatchSlot_leads hr hb)
    · exact .refl s
  · exact .refl s

theorem dispatchBad_leads (hr : s.pins.reset = false) : Leads [] [] s (dispatchBad s) := by
  unfold dispatchBad
  split
  · next n hn =>
    split
    · exact (takeSlot_leads hr hn).trans (finish_leads n _ _)
    · exact .refl s
  · exact .refl s

/-! ### Orders that end at once -/

variable (n) (t) in
section

theorem chargeSet_ends : Ends n t (chargeSet n t) := by
  have hset : (setCharge (newCharge t n) t).hand = t.hand := rfl
  exact (Course.run_from t (by exact rfl) hset).ends n _

theorem shedFloor_ends : Ends n t (shedFloor n t) :=
  (Course.run_from t (t := { t with charge := { t.charge with hostFloor := p t n 0 } }) (by exact rfl) rfl).ends n _

theorem restNow_ends : Ends n t (restNow n t) := by
  unfold restNow
  split
  · exact .now n _ t
  · split
    · exact (enterRest_course t).ends n _
    · exact .now n _ t

theorem auxSet_ends : Ends n t (auxSet n t) := (Course.run (by exact rfl) t).ends n _

theorem termsLoad_ends : Ends n t (termsLoad n t) := by
  unfold termsLoad
  split
  · exact .now n _ t
  · generalize he : replaceTerms (stagedTerms t (p t n 0)) t = e
    have hhand : e.1.hand = t.hand := by rw [← he]; rfl
    exact ((Course.of_hand hhand).trans (Course.eval (plain_handOut _) _)).ends n _

theorem pumpModeSet_course (b : Bool) : Course t (pumpModeSet b t) := by
  unfold pumpModeSet
  split
  · exact .refl t
  · generalize hu : setPump (fun q => { q with auto := b }) t = u
    have hhand : u.hand = t.hand := by rw [← hu]; rfl
    simp only
    split
    · exact .of_hand hhand
    · split
      · split
        · exact Course.run_from t (by exact rfl) hhand
        · exact .of_hand hhand
      · exact Course.run_from t (by exact rfl) hhand

theorem pumpMode_ends : Ends n t (pumpMode n t) := (pumpModeSet_course t _).ends n _

theorem pumpReset_ends : Ends n t (pumpReset n t) := by
  unfold pumpReset
  split
  · exact .now n _ t
  · split
    · exact .now n _ t
    · exact (Course.react (pumpLeaveDry_mild t)).ends n _

theorem drainDump_ends : Ends n t (drainDump n t) := (Course.run (by exact rfl) t).ends n _

theorem closeDrain_course : Course t (closeDrain t) := by
  unfold closeDrain
  generalize h1 : run [.req (.withdraw 1)] t = t1
  have l1 : Course t t1 := h1 ▸ Course.run (by exact rfl) t
  simp only
  generalize h2 : run [.signal .drainOpen 0] (setHeld 1 false t1) = t2
  have l2 : Course t1 t2 := h2 ▸ Course.run_from t1 (by exact rfl) (setHeld_hand t1 1 false)
  generalize h3 : run [.signal .frostStage 0] (setFrost (fun f => { f with stage := .watch }) (setLatch false t2)) = t3
  have l3 : Course t2 t3 := h3 ▸ Course.run_from t2 (by exact rfl) (by rw [setFrost_hand, setLatch_hand])
  have l123 := (l1.trans l2).trans l3
  generalize h4 : showAction [.water] [] (raise .water (bit 1 ||| bit 6) t3) = t4
  have l4 : Course t t4 := l123.trans (.of_hand (by rw [← h4, showAction_hand, raise_hand]))
  split
  · exact l4.trans (Course.run (by exact rfl) t4)
  · exact l4

theorem drainClose_ends : Ends n t (drainClose n t) := by
  unfold drainClose
  split
  · exact .now n _ t
  · split
    · exact .now n _ t
    · split
      · exact .now n _ t
      · exact (closeDrain_course t).ends n _

theorem setMode_course (m : ClimateMode) : Course t (setMode m t) := by
  unfold setMode
  split
  · exact .refl t
  · have h : Course t (runReact (climateChange fun c => { c with mode := m }) t) := Course.react (climateChange_mild t _)
    simp only
    split
    · exact h.trans (Course.run (by exact rfl) _)
    · exact h

theorem climateMode_ends : Ends n t (climateMode n t) := (setMode_course t _).ends n _

theorem setHost_course (z : Fin 3) (x : Int) (b : Bool) : Course t (setHost z x b t) := by
  unfold setHost
  simp only
  split
  · exact .of_hand (setZone_hand _ _ _)
  · exact (Course.of_hand (setZone_hand t _ _)).trans (Course.react (zoneFollow_mild _ z))

theorem zoneSet_ends : Ends n t (zoneSet n t) := (setHost_course t _ _ _).ends n _

theorem heaterClear_ends : Ends n t (heaterClear n t) := by
  unfold heaterClear
  split
  · exact (Course.run_from t (by exact rfl) (setSeq_hand t _)).ends n _
  · exact .now n _ t

theorem moverStop_ends : Ends n t (moverStop n t) := by
  have h1 : Course t (run [.moveEnd (moverArg t n) .stopped 0] (setPending (moverArg t n) false t)) :=
    Course.run_from t (by exact rfl) (setPending_hand _ _ _)
  exact (h1.trans (.of_hand (setPending_hand _ _ _))).ends n _

theorem settingsFetch_ends : Ends n t (settingsFetch n t) := by
  have h : Course t { t with ram := { t.ram with window := fetchWindow (Image.fetchForm (cfg t)) t.ram.window } } :=
    .of_hand rfl
  exact h.ends n _

/-- R83: the order's end is one of the acts. -/
theorem tripClear_leads : Leads [n] [] t (tripClear n t) := by
  unfold tripClear
  simp only
  split
  · refine run_leads_of rfl fun h => h.map rfl h.wf (fun hq => hq) fun g => ?_
    exact ⟨by simpa [pledgesOf, Act.pledges, Pledge.loose] using g.sorted, g.inHand, g.apart,
      by simp [pledgesOf, Act.pledges, Pledge.slots], by simp [pledgesOf, Act.pledges],
      by simp [pledgesOf, Act.pledges, Pledge.Holds]⟩
  · exact finish_leads n _ t

end

/-! ### Orders that a block takes in hand (R16) -/

theorem slotState_takeLong (hw : Mem.Wf 0 s.ram.slots) (n : Fin 32) (b : Block) (m : Fin 32) :
    slotState (takeLong n b s) m = if m = n then .taken else slotState s m := slotState_setSlotState hw n m .taken

theorem follower_takeLong (hw : Mem.Wf 0 s.ram.slots) (n : Fin 32) (b : Block) (m : Fin 32) :
    follower (takeLong n b s) m = follower s m := follower_setSlotState hw n m .taken

theorem State.Sorted.takeLong (h : s.Sorted [n]) (b : Block) : (takeLong n b s).Sorted [] where
  wf := setSlotWord_wf h.wf
  intakeOnce := h.intakeOnce
  heldOnce := h.heldOnce
  ownersOnce := List.nodup_cons.2 ⟨h.not_owners (by simp), h.ownersOnce⟩
  intake m := by
    refine (h.intake m).trans ?_
    rw [slotState_takeLong h.wf, follower_takeLong h.wf]
    by_cases e : m = n <;> simp [e]
  held m := by
    refine (h.held m).trans ?_
    rw [slotState_takeLong h.wf, follower_takeLong h.wf]
    by_cases e : m = n <;> simp [e]
  owners m := by
    have hm := h.owners m
    rw [slotState_takeLong h.wf]
    show m ∈ n :: s.disp.owners.map (·.1) ↔ _
    rw [List.mem_cons, hm]
    by_cases e : m = n <;> simp [e]

/-- The slot the dispatcher has taken is in no hand. -/
theorem State.Running.loose_not_hands (h : s.Running [n] []) (b : Block) : ¬ s.hands n b := h.not_hands (by simp) b

/-- A block takes the order in hand: it is TAKEN, in the owner table, and in no other hand. -/
theorem State.Running.take_up {b : Block} (h : s.Running [n] []) (hslots : t.ram.slots = (takeLong n b s).ram.slots)
    (hdisp : t.disp = (takeLong n b s).disp) (hands : ∀ m c, t.hands m c → s.hands m c ∨ (m = n ∧ c = b))
    (apart : ∀ m, ¬ (tagOf t .awning = some (.host m) ∧ tagOf t .step = some (.host m))) : t.Running [] [] where
  sorted := State.Sorted.congr (s := takeLong n b s) (State.Sorted.takeLong (by simpa using h.sorted) b) hslots
    (by rw [hdisp]) (by rw [hdisp]) (by rw [hdisp])
  inHand m c e := by
    rw [hdisp]
    rcases hands m c e with e | ⟨rfl, rfl⟩
    · exact List.mem_cons_of_mem _ (h.inHand m c e)
    · exact List.mem_cons_self ..
  apart := apart
  once := by simp
  oneRecall := by simp
  holds := by simp

theorem acceptFill_leads (n : Fin 32) (hr : s.pins.reset = false) : Leads [n] [] s (acceptFill n s) := by
  have htake : Leads [n] [] s (setFill { slot := n, target := newCharge s n } (takeLong n .water s)) :=
    .of_sound rfl fun h => h.map_running hr hr (setSlotWord_wf h.wf) fun g =>
      g.take_up (b := .water) rfl rfl (fun m c e => by
        cases c with
        | water =>
          obtain ⟨f, hf, hm⟩ := e
          exact .inr ⟨by rw [← hm, ← Option.some.inj hf], rfl⟩
        | movers => exact .inl e
        | lights => exact .inl e
        | store => exact .inl e) g.apart
  unfold acceptFill
  simp only
  split
  · exact htake.trans (run_leads (by exact rfl) _)
  · exact htake.trans (run_leads (by exact rfl) _)

theorem fill_leads (n : Fin 32) (hr : s.pins.reset = false) : Leads [n] [] s (fill n s) := by
  unfold fill
  split
  · exact finish_leads n _ s
  · split
    · exact finish_leads n _ s
    · split
      · exact finish_leads n _ s
      · exact acceptFill_leads n hr

theorem acceptStore_leads (n : Fin 32) (hr : s.pins.reset = false) : Leads [n] [] s (acceptStore n s) :=
  .of_sound rfl fun h => h.map_running hr hr (setSlotWord_wf h.wf) fun g =>
    g.take_up (b := .store) rfl rfl (fun m c e => by
      cases c with
      | water => exact .inl e
      | movers => exact .inl e
      | lights => exact .inl e
      | store => exact .inr ⟨(Option.some.inj e).symm, rfl⟩) g.apart

theorem settingsStore_leads (n : Fin 32) (hr : s.pins.reset = false) : Leads [n] [] s (settingsStore n s) := by
  unfold settingsStore
  split
  · exact finish_leads n _ s
  · split
    · exact acceptStore_leads n hr
    · exact finish_leads n _ s

/-- A move of this slot is begun on a mover. -/
def beginMove (n : Fin 32) (m : Mover) (v : Move) (s : State) : State :=
  setMover m { mover (leaveStalled m (takeLong n .movers s)) m with move := some v } (leaveStalled m (takeLong n .movers s))

theorem beginMove_tag {m k : Mover} {v : Move} : tagOf (beginMove n m v s) k = if k = m then some v.tag else tagOf s k := by
  have hl : tagOf (leaveStalled m (takeLong n .movers s)) k = tagOf s k := by
    unfold leaveStalled
    simp only
    split
    · cases m <;> cases k <;> rfl
    · rfl
  unfold beginMove
  by_cases e : k = m
  · subst e
    rw [tagOf, mover_setMover]
    simp
  · rw [tagOf, mover_setMover_other _ _ e, if_neg e]
    exact hl

theorem hands_movers_iff {m : Fin 32} : s.hands m .movers ↔ ∃ k, tagOf s k = some (.host m) := by
  constructor
  · rintro ⟨k, v, hv, ht⟩
    exact ⟨k, by rw [tagOf, hv, Option.map_some, ht]⟩
  · rintro ⟨k, hk⟩
    obtain ⟨v, hv, ht⟩ := Option.map_eq_some_iff.1 hk
    exact ⟨k, v, hv, ht⟩

theorem beginMove_leads {m : Mover} {v : Move} (hv : v.tag = .host n) (hr : s.pins.reset = false) :
    Leads [n] [] s (beginMove n m v s) := by
  have heq : (beginMove n m v s).ram = (takeLong n .movers s).ram ∧ (beginMove n m v s).disp = (takeLong n .movers s).disp ∧
      (beginMove n m v s).pins = s.pins ∧ (beginMove n m v s).water = s.water ∧ (beginMove n m v s).lights = s.lights ∧
      (beginMove n m v s).store = s.store ∧ (beginMove n m v s).overrun = s.overrun := by
    unfold beginMove leaveStalled
    simp only
    split <;> cases m <;> exact ⟨rfl, rfl, rfl, rfl, rfl, rfl, rfl⟩
  obtain ⟨hram, hdisp, hpins, hw, hl, hst, hover⟩ := heq
  refine .of_sound hover fun h => h.map_running (hpins ▸ hr) hr (hram ▸ setSlotWord_wf h.wf) fun g => ?_
  refine g.take_up (b := .movers) (by rw [hram]) hdisp (fun k c e => ?_) fun k hk => ?_
  · cases c with
    | water => left; simpa only [State.hands, hw] using e
    | lights => left; simpa only [State.hands, channel, hl] using e
    | store => left; simpa only [State.hands, hst] using e
    | movers =>
      obtain ⟨m', hm'⟩ := hands_movers_iff.1 e
      rw [beginMove_tag] at hm'
      split at hm'
      · rw [hv] at hm'
        cases hm'
        exact .inr ⟨rfl, rfl⟩
      · exact .inl (hands_movers_iff.2 ⟨m', hm'⟩)
  · have hother : ∀ m', m' ≠ m → tagOf s m' ≠ some (.host n) := fun m' _ ht =>
      g.loose_not_hands .movers (hands_movers_iff.2 ⟨m', ht⟩)
    obtain ⟨ha, hs⟩ := hk
    rw [beginMove_tag] at ha hs
    cases m with
    | awning =>
      simp only [if_true, hv, Option.some.injEq, MoveTag.host.injEq] at ha
      subst ha
      exact hother .step (by simp) (by simpa using hs)
    | step =>
      simp only [if_true, hv, Option.some.injEq, MoveTag.host.injEq] at hs
      subst hs
      exact hother .awning (by simp) (by simpa using ha)

theorem acceptMove_leads (n : Fin 32) (hr : s.pins.reset = false) : Leads [n] [] s (acceptMove n s) := by
  have hbegin : Leads [n] [] s (beginMove n (moverArg s n) (hostMove n s) s) := beginMove_leads rfl hr
  have hstow : Leads [n] [] s (run [.stowSignal (moverArg s n)] (beginMove n (moverArg s n) (hostMove n s) s)) :=
    hbegin.trans (run_leads (by exact rfl) _)
  unfold acceptMove
  simp only
  split
  · exact hstow.trans (run_leads (by exact rfl) _)
  · exact hstow.trans (run_leads (by exact rfl) _)

theorem move_leads (n : Fin 32) (hr : s.pins.reset = false) : Leads [n] [] s (move n s) := by
  unfold move
  simp only
  split
  · exact finish_leads n _ s
  · split
    · exact finish_leads n _ s
    · split
      · exact finish_leads n _ s
      · split
        · exact finish_leads n _ s
        · exact acceptMove_leads n hr

/-- R171, R172: the order is TAKEN and its recall is applied. -/
theorem recall_leads (l : List Word) (hit : Bool) (n : Fin 32) (hr : s.pins.reset = false) :
    Leads [n] [] s (runReact (applyRecall l (.host n) hit) (takeLong n .lights s)) := by
  have hover : (takeLong n .lights s).overrun = s.overrun := rfl
  refine run_leads_of hover fun h => h.map_running (t := takeLong n .lights s) hr hr (setSlotWord_wf h.wf) fun g => ?_
  have base : (takeLong n .lights s).Running [] [] := g.take_up (b := .lights) rfl rfl (fun _ _ e => .inl e) g.apart
  have hrec : ∀ r ∈ s.lights.recalls, r.owner ≠ .host n := fun r hr e => g.loose_not_hands .lights (.inl ⟨r, hr, e⟩)
  refine ⟨base.sorted, base.inHand, base.apart, ?_, ?_, ?_⟩
  · simp [applyRecall, pledgesOf, Act.pledges, Pledge.slots, hostsOf]
  · simp [applyRecall, pledgesOf, Act.pledges]
  · intro p hp
    simp only [applyRecall, pledgesOf, Act.pledges, List.append_nil, List.mem_singleton, List.map_nil] at hp
    subst hp
    intro m hm
    obtain rfl : m = n := by simpa [hostsOf] using hm
    exact ⟨List.mem_cons_self .., hrec⟩

theorem lightSet_leads (n : Fin 32) (hr : s.pins.reset = false) : Leads [n] [] s (lightSet n s) := by
  unfold lightSet
  split
  · exact finish_leads n _ s
  · exact recall_leads _ _ n hr

theorem lookup_pins (n : Fin 32) (s : State) : (lookup n s).1.pins = s.pins := by
  unfold lookup
  simp only
  (repeat' split) <;> rfl

theorem sceneRecall_leads (n : Fin 32) (hr : s.pins.reset = false) : Leads [n] [] s (sceneRecall n s) := by
  have hhand := lookup_hand s (Fin.ofNat 32 (p s n 0))
  have hpins := lookup_pins (Fin.ofNat 32 (p s n 0)) s
  unfold sceneRecall
  split
  · exact finish_leads n _ s
  · generalize lookup (Fin.ofNat 32 (p s n 0)) s = x at hhand hpins
    obtain ⟨t, r⟩ := x
    have h0 : Leads [n] [n] s t := .of_hand hhand
    cases r with
    | invalid w => exact h0.trans (finish_leads n _ t)
    | found l hit => exact h0.trans (recall_leads l hit n ((congrArg Pins.reset hpins).trans hr))

end Sys2Proof.Machine
end

section
/-!
SUPPORT. The commands beside the host's and the orders, from invariant to invariant.
-/
namespace Sys2Proof.Machine

variable {K : List (Fin 32)} {P Q : List Pledge} {n : Fin 32}

variable (s t : State)

/-! ### Store events (R183, R184) -/

theorem endStore_leads (f : Finish) : Leads [] [] s (endStore f s) := by
  have he : s.Eases { s with store := { s.store with phase := .idle, slot := none } } :=
    ⟨rfl, rfl, rfl, rfl, id, nofun, fun _ h => h, fun _ _ h => h, fun _ h => h, fun _ _ h => h⟩
  unfold endStore
  simp only
  split
  · next n hn =>
    refine .of_sound (finish_overrun n f _) fun h => ?_
    have hl : State.Sound [] [.ends n] { s with store := { s.store with phase := .idle, slot := none } } :=
      h.map_eases he fun g => g.pledge he (mem_owners (g.inHand n .store hn)) (by simp) fun c hc => by
        obtain rfl := g.hands_unique (g.inHand n .store hn) (he.hands hc)
        exact absurd (show none = some n from hc) (by simp)
    exact hl.finish_ends f
  · exact .of_eases he

theorem validateEnd_leads : Leads [] [] s (validateEnd s) := by
  unfold validateEnd
  split
  · split
    · exact endStore_leads s _
    · split
      · exact .of_hand rfl
      · exact endStore_leads s _
  · exact .refl s

theorem eraseEnd_leads (ok : Bool) : Leads [] [] s (eraseEnd ok s) := by
  unfold eraseEnd
  split
  · split
    · exact .of_hand rfl
    · exact endStore_leads s _
  · exact .refl s

theorem setFlash_hand (f : Flash) : (setFlash f s).hand = s.hand := rfl
theorem setPhase_hand (x : StorePhase) : (setPhase x s).hand = s.hand := rfl

theorem programEnd_leads (ok : Bool) : Leads [] [] s (programEnd ok s) := by
  unfold programEnd
  split
  · split
    · exact .of_hand (by rw [setPhase_hand, setFlash_hand])
    · exact endStore_leads s _
  · exact .refl s

theorem verifyEnd_leads (l : List FlashCell) : Leads [] [] s (verifyEnd l s) := by
  unfold verifyEnd
  split
  · split
    · exact endStore_leads s _
    · exact (Leads.of_hand (setFlash_hand s _)).trans (endStore_leads _ _)
  · exact .refl s

theorem timeoutIn_leads (x : StorePhase) (r : Nat) : Leads [] [] s (timeoutIn x r s) := by
  unfold timeoutIn
  split
  · exact endStore_leads s _
  · exact .refl s

/-! ### The start's commands -/

theorem serviceInput_leads (b : Bool) : Leads K K s (if s.pins.reset then setService b s else closeFrom s (setService b s)) := by
  have h : (setService b s).hand = s.hand := rfl
  split
  · exact .of_hand h
  · exact (Leads.of_hand h).closeFrom

theorem startDue_hand (k : Nat) : (startDue k s).hand = s.hand := overNodes_hand _ _ s

theorem linkBegins_hand (k : Nat) : (linkBegins k s).hand = s.hand := by
  unfold linkBegins
  simp only
  split
  · rw [linkChoose_hand, startDue_hand]
  · exact startDue_hand s k

theorem quietEnd_hand (k : Nat) : (quietEnd k s).hand = s.hand := by
  unfold quietEnd
  split
  · simp only
    split
    · rfl
    · rw [linkBegins_hand, setLink_hand]
  · rfl

theorem initialEvaluation_leads : Leads K K s (initialEvaluation s) := by
  unfold initialEvaluation
  generalize he : evaluate (fun _ => true) (fun _ => true) { s with interlock := { s.interlock with evaluated := true } } = e
  have hhand : e.1.hand = s.hand := by rw [← he]; rfl
  exact (Leads.of_hand hhand).trans (runEval_leads (plain_handOut _) _)

theorem fullUpdate_hand : (fullUpdate s).hand = s.hand := rfl

theorem becomeActive_eases : s.Eases (becomeActive s) :=
  have h : (becomeActive s).hand = (setPower .active s).hand := rfl
  (setPower_eases .active s).trans (.of_hand h)

theorem recordsDue_hand : (recordsDue s).hand = s.hand := by
  unfold recordsDue
  split
  · rfl
  · exact linkBegins_hand s _

theorem clearStop_hand : (clearStop s).hand = s.hand := rfl

theorem plain_activeActs : Plain (activeActs s) := by
  unfold activeActs
  simp only [plain_append, plain_ite, plain_cons, plain_nil, Act.pledges, and_self, implies_true]

theorem startComplete_leads : Leads K K s (startComplete s) := by
  unfold startComplete
  split
  · exact .refl s
  · have h0 := (initialEvaluation_leads (K := K) s).trans (.of_hand (fullUpdate_hand _))
    have h := (h0.trans (.of_eases (becomeActive_eases _))).trans (.of_hand (recordsDue_hand _))
    generalize recordsDue (becomeActive (fullUpdate (initialEvaluation s))) = u at h ⊢
    exact ((h.trans (.of_hand (clearStop_hand u))).trans (runEach_plain (plain_activeActs u) _)).close

/-! ### The second close -/

theorem moveSecond_tag (m : Mover) (x : MoverRec) : (moveSecond s m x).move.map (·.tag) = x.move.map (·.tag) := by
  unfold moveSecond
  cases x.move with
  | none => rfl
  | some v => simp only [Option.map_some]; split <;> rfl

theorem moversSecond_hand : (moversSecond s).hand = s.hand := by
  simp only [State.hand, moversSecond, moveSecond_tag]

theorem waterSecond_hand : (waterSecond s).hand = s.hand := by
  simp only [State.hand, waterSecond, Option.map_map]
  rfl

theorem seqSecond_hand : (seqSecond s).hand = s.hand := rfl

theorem tick_hand : (tick s).hand = s.hand := by
  rw [tick, moversSecond_hand, waterSecond_hand, seqSecond_hand]
  rfl

theorem fullSecond_mild (v : Nat) (a : Int) : Mild s (fullSecond v a s) := by
  unfold fullSecond; simp only; split <;> exact .of_hand rfl rfl
theorem emptySecond_mild (v : Nat) (a : Int) : Mild s (emptySecond v a s) := by
  unfold emptySecond; simp only; split <;> exact .of_hand rfl rfl
theorem floorSecond_mild (v : Nat) : Mild s (floorSecond v s) := by
  unfold floorSecond; simp only; (repeat' split) <;> exact .of_hand rfl rfl

theorem chargeSecond_leads (v : Nat) (a : Int) : Leads K K s (chargeSecond v a s) := by
  have htally : (tallySecond a (setBank v a s)).hand = s.hand := rfl
  unfold chargeSecond
  simp only
  generalize tallySecond a (setBank v a s) = s1 at htally ⊢
  have hfull : Leads K K s1 (runReact (fullSecond v a) s1) := runReact_leads (fullSecond_mild s1 v a)
  generalize runReact (fullSecond v a) s1 = s2 at hfull ⊢
  have hempty : Leads K K s2 (runReact (emptySecond v a) s2) := runReact_leads (emptySecond_mild s2 v a)
  generalize runReact (emptySecond v a) s2 = s3 at hempty ⊢
  have hkeep : (keepTally s3).hand = s3.hand := rfl
  generalize keepTally s3 = s4 at hkeep ⊢
  have hfloor : Leads K K s4 (runReact (floorSecond v) s4) := runReact_leads (floorSecond_mild s4 v)
  exact ((((Leads.of_hand htally).trans hfull).trans hempty).trans (.of_hand hkeep)).trans
    (hfloor.trans (run_leads (by exact rfl) _))

theorem idleSecond_leads : Leads K K s (idleSecond s) := by
  unfold idleSecond
  split
  · have h : Leads K K s (setIdle (s.charge.idle + 1) s) := setIdle_leads _ s
    simp only
    split
    · exact h.trans (enterRest_leads _)
    · exact h
  · exact .refl s

theorem windSecond_mild : Mild s (windSecond s) := by
  unfold windSecond
  simp only
  split
  · split <;> exact .of_hand rfl rfl
  · split
    · exact .of_hand rfl (by simp [Act.pledges])
    · exact .of_hand rfl rfl

theorem windClose_leads : Leads K K s (windClose s) := by
  have h : Leads K K s (if windCrossed s && s.charge.power != .starting then wakeEvent s else s) := by
    split
    · exact wakeEvent_leads s
    · exact .refl s
  exact h.trans (runReact_leads (windSecond_mild _))

theorem setFresh_mild : Mild s (setFresh s) := .of_hand rfl rfl
theorem setGrey_mild : Mild s (setGrey s) := .of_hand rfl rfl
theorem setZoneMeasured_mild (i : Fin 12) : Mild s (setZoneMeasured s i) := .of_hand rfl rfl

theorem handReading_mild (i : Fin 12) (b : Bool) : Mild s (handReading i b s) := by
  unfold handReading
  split
  · exact setFresh_mild s
  · exact setGrey_mild s
  · exact .of_hand rfl rfl
  · exact setZoneMeasured_mild s i
  · exact .of_hand rfl rfl
  · exact .of_hand rfl rfl
  · exact mild_nil s

theorem handStale_mild (i : Fin 12) : Mild s (handStale i s) := by
  unfold handStale
  split
  · exact .of_hand rfl rfl
  · exact handReading_mild s i false

theorem handLoss_mild (i : Fin 12) : Mild s (handLoss i s) := by unfold handLoss; split <;> exact .of_hand rfl rfl

theorem testStale_mild (i : Fin 12) : Mild s (testStale i s) := by
  unfold testStale
  simp only
  split
  · have hset : s.Eases (setNode i { node s i with stale := true } s) := .of_hand rfl
    split
    · have h := handStale_mild (setNode i { node s i with stale := true } s) i
      exact ⟨hset.trans h.1, h.2⟩
    · exact ⟨hset, rfl⟩
  · exact mild_nil s

theorem ageNodes_leads (l : List (Fin 12)) : ∀ s : State, Leads K K s (ageNodes l s) := by
  induction l with
  | nil => exact .refl
  | cons i l ih =>
    intro s
    have h : Leads K K s (setNode i { node s i with age := min ((node s i).age + 1) Config.ageMax } s) := .of_hand (setNode_hand s i _)
    exact (h.trans (runReact_leads (testStale_mild _ i))).trans (ih _)

theorem measureOutlets_hand : (measureOutlets s).hand = s.hand := rfl

theorem secondClose_leads (l : List Sample) : Leads K K s (secondClose l s) := by
  unfold secondClose
  have h1 : Leads K K s (tick s) := .of_hand (tick_hand s)
  have h2 := h1.trans (chargeSecond_leads (K := K) (tick s) (meanVolts l) (meanAmps l))
  generalize chargeSecond (meanVolts l) (meanAmps l) (tick s) = s2 at h2 ⊢
  have h3 := (h2.trans (idleSecond_leads s2)).trans (windClose_leads _)
  generalize windClose (idleSecond s2) = s3 at h3 ⊢
  have h4 := h3.trans (ageNodes_leads (roster s3) s3)
  simp only
  generalize ageNodes (roster s3) s3 = s4 at h4 ⊢
  refine h4.trans (.of_hand ?_)
  rw [measure, digestUpdate_hand, measureOutlets_hand]

theorem thresholdClose_leads (f : State → Bool) (l : List Sample) : Leads K K s (thresholdClose f l s) := by
  unfold thresholdClose
  split
  · exact secondClose_leads s l
  · exact .refl s

/-! ### Inputs -/

theorem setLine_hand (i : FilteredInput) (x : Line) : (setLine i x s).hand = s.hand := by
  unfold setLine
  simp only
  split <;> rfl

theorem takeLine_hand (i : FilteredInput) (b : Bool) : (takeLine i b s).hand = s.hand := setLine_hand s i _

theorem signalTaken_leads (i : VehicleInput) (b : Bool) : Leads K K s (signalTaken i b s) :=
  run_leads_from s (by exact rfl) (takeLine_hand s _ b)

theorem sourceTaken_leads (i : VehicleInput) (b : Bool) : Leads K K s (sourceTaken i b s) := by
  have h : (setSource i b s).hand = s.hand := by unfold setSource; split <;> rfl
  have hp : Plain (sourceActs i) := by cases i <;> rfl
  exact (Leads.of_hand h).trans (runEach_plain hp _)

theorem inputActs_leads (i : VehicleInput) (b : Bool) : Leads [] [] s (runEach (inputActs i b) s) := by
  have hscene : ∀ s : State, Leads [] [] s (run [.doorScene] s) := fun s =>
    run_leads_of rfl fun h => by simpa [pledgesOf, Act.pledges] using h.begin_entry 0
  refine runEach_leads (fun a ha s => ?_) s
  unfold inputActs at ha
  split at ha
  · obtain rfl := List.mem_singleton.1 ha
    exact run_leads (by exact rfl) s
  · rcases List.mem_cons.1 ha with rfl | ha
    · exact run_leads (by exact rfl) s
    · obtain rfl := List.mem_singleton.1 ha
      exact hscene s
  · exact absurd ha (by simp)

theorem relayActs_plain (i : VehicleInput) (b : Bool) : Plain (relayActs i b s) := by unfold relayActs; split <;> rfl

theorem inputTaken_leads (i : VehicleInput) (b : Bool) : Leads [] [] s (inputTaken i b s) := by
  unfold inputTaken
  have h1 : Leads [] [] s (if wakesBy i b && s.charge.power == .rest then wake s else s) := by
    split
    · exact wake_leads s
    · exact .refl s
  simp only
  generalize (if wakesBy i b && s.charge.power == .rest then wake s else s) = s1 at h1 ⊢
  have h2 := ((h1.trans (signalTaken_leads s1 i b)).trans (inputActs_leads _ i b)).trans (sourceTaken_leads _ i b)
  generalize sourceTaken i b (runEach (inputActs i b) (signalTaken i b s1)) = s2 at h2 ⊢
  have h3 := h2.trans (runEach_plain (relayActs_plain s2 i b) s2)
  generalize runEach (relayActs i b s2) s2 = s3 at h3 ⊢
  refine h3.trans (.of_eases (.trans ?_ (idleCheck_eases _)))
  split
  · exact setIdle_eases s3
  · exact .refl s3

theorem vehicleTaken_leads (i : VehicleInput) (b : Bool) : Leads [] [] s (vehicleTaken i b s) := by
  unfold vehicleTaken
  split
  · split
    · exact (signalTaken_leads s i b).trans (sourceTaken_leads _ i b)
    · exact inputTaken_leads s i b
  · exact .refl s

/-! ### Outlets -/

theorem pullInEnd_hand (o : Fin 16) : (pullInEnd o s).hand = s.hand := by unfold pullInEnd; split <;> rfl

theorem stallStep_tag (x : MoverRec) : (stallStep x).move.map (·.tag) = x.move.map (·.tag) := by
  unfold stallStep
  cases x.move with
  | none => rfl
  | some v => simp only [Option.map_some]; split <;> rfl

theorem recordSample_hand (o : Fin 16) (k : Nat) : (recordSample o k s).hand = s.hand := by
  have h : (stallTick o s).hand = s.hand := by
    unfold stallTick
    split
    · simp only [State.hand, stallStep_tag]
    · rfl
  rw [recordSample, setOutlet_hand, h]

theorem currentSample_leads (o : Fin 16) (k : Nat) : Leads K K s (currentSample o k s) := by
  unfold currentSample
  split
  · have h : Leads K K s (recordSample o k s) := .of_hand (recordSample_hand s o k)
    simp only
    split
    · exact h.trans (run_leads (by exact rfl) _)
    · exact h
  · exact .refl s

theorem tripIf_leads (b : Bool) (o : Fin 16) (k : Nat) : Leads K K s (tripIf b o k s) := by
  unfold tripIf
  split
  · exact currentSample_leads s o k
  · exact .refl s

/-! ### Node link -/

theorem endTxn_hand : (endTxn s).hand = s.hand := rfl
theorem setDue_hand (i : Fin 12) (k : Nat) : (setDue i k s).hand = s.hand := rfl

theorem resultActs_mild (c : LinkCmd) (r : CmdResult) : Mild s (resultActs c r s) := by
  unfold resultActs
  split
  · exact mild_nil s
  · exact .of_hand rfl rfl
  · split <;> exact .of_hand rfl rfl
  · exact .of_hand rfl rfl

theorem goodEnd_leads (t : Txn) (r : Role) (w : Word) (l : List Word) (k : Nat) : Leads K K s (goodEnd t r w l k s) := by
  unfold goodEnd
  simp only
  generalize hs1 : endTxn (setDue t.record k (setNode t.record (goodNode r w l (resting s) (node s t.record)) s)) = s1
  have h1 : Leads K K s s1 := .of_hand (by rw [← hs1, endTxn_hand, setDue_hand, setNode_hand])
  have h2 : Leads K K s1 (if ((node s1 t.record).faulty && !(node s t.record).faulty) = true then raise .link (bit 13) s1 else s1) := by
    split
    · exact .of_hand (raise_hand s1 _ _)
    · exact .refl s1
  generalize (if ((node s1 t.record).faulty && !(node s t.record).faulty) = true then raise .link (bit 13) s1 else s1) = s2 at h2 ⊢
  have h3 : Leads K K s2 (runReact (handReading t.record ((node s t.record).state == .missing)) s2) :=
    runReact_leads (handReading_mild s2 _ _)
  generalize runReact (handReading t.record ((node s t.record).state == .missing)) s2 = s3 at h3 ⊢
  have h4 : Leads K K s3 (if (node s t.record).state = .missing then raise .link (bit 12) s3 else s3) := by
    split
    · exact .of_hand (raise_hand s3 _ _)
    · exact .refl s3
  generalize (if (node s t.record).state = .missing then raise .link (bit 12) s3 else s3) = s4 at h4 ⊢
  exact (((h1.trans h2).trans h3).trans h4).trans (runReact_leads (resultActs_mild s4 _ _))

theorem goodReply_leads (w : Word) (l : List Word) (k : Nat) : Leads K K s (goodReply w l k s) := by
  unfold goodReply
  split
  · split
    · split
      · exact goodEnd_leads s _ _ _ _ _
      · exact .refl s
    · exact .refl s
  · exact .refl s

/-- R31: the node is lost or its reading judged anew. -/
theorem missHanded_leads (i : Fin 12) (c stale : Prop) [Decidable c] [Decidable stale] :
    Leads K K s (if c then
        if stale then runReact (handLoss i) (raise .link (bit i.val) s)
        else runReact (handStale i) (runReact (handLoss i) (raise .link (bit i.val) s))
      else runReact (testStale i) s) := by
  have hloss : Leads K K s (runReact (handLoss i) (raise .link (bit i.val) s)) :=
    (Leads.of_hand (raise_hand s _ _)).trans (runReact_leads (handLoss_mild _ i))
  split
  · split
    · exact hloss
    · exact hloss.trans (runReact_leads (handStale_mild _ i))
  · exact runReact_leads (testStale_mild s i)

theorem missEnd_leads (m : MissKind) (k : Nat) : Leads K K s (missEnd m k s) := by
  unfold missEnd
  split
  · exact .refl s
  · next t ht =>
    simp only
    generalize hs1 : endTxn (setDue t.record k (setNode t.record (missNode m (resting s) (node s t.record)) s)) = s1
    have h1 : Leads K K s s1 := .of_hand (by rw [← hs1, endTxn_hand, setDue_hand, setNode_hand])
    exact (h1.trans (missHanded_leads s1 _ _ _)).trans (runReact_leads (resultActs_mild _ _ _))

theorem replyWordFault_hand (k : Nat) (w : Word) (a b : Bool) : (replyWordFault k w a b s).hand = s.hand := by
  unfold replyWordFault
  split
  · split <;> rfl
  · rfl

theorem replyGap_hand : (replyGap s).hand = s.hand := by unfold replyGap; split <;> rfl
theorem requestSent_hand : (requestSent s).hand = s.hand := by unfold requestSent; split <;> rfl

theorem ackExpiry_leads (k : Nat) : Leads K K s (ackExpiry k s) := by
  unfold ackExpiry
  split
  · exact missEnd_leads s _ _
  · exact .refl s

theorem quietAfter_leads (k : Nat) : Leads K K s (quietAfter k s) := by
  unfold quietAfter
  split
  · exact missEnd_leads s _ _
  · exact .refl s

theorem turnaround_hand (k : Nat) : (turnaround k s).hand = s.hand := by
  unfold turnaround
  split
  · exact linkChoose_hand s _
  · rfl

theorem pollDue_hand (i : Fin 12) (k : Nat) : (pollDue i k s).hand = s.hand := by
  unfold pollDue
  split
  · exact linkChoose_hand s _
  · rfl

/-! ### Water, climate, movers, lighting -/

theorem pressureTaken_mild (b : Bool) : Mild s (pressureTaken b s) := by
  unfold pressureTaken
  split
  · exact mild_nil s
  · split
    · exact pumpStart_mild s
    · exact .of_hand rfl rfl

theorem pressureLow_leads (b : Bool) : Leads K K s (pressureLow b s) := by
  unfold pressureLow
  split
  · have h : Leads K K s (takeLine .pressureLow b s) := .of_hand (takeLine_hand s _ b)
    simp only
    split
    · exact h
    · exact h.trans (runReact_leads (pressureTaken_mild _ b))
  · exact .refl s

theorem pumpRunLimit_leads : Leads K K s (pumpRunLimit s) := by
  unfold pumpRunLimit
  split
  · exact run_leads (by exact rfl) s
  · exact .refl s

theorem fillPulse_mild : Mild s (fillPulse s) := by
  unfold fillPulse
  split
  · exact mild_nil s
  · next f hf =>
    generalize hg : ({ f with pulses := f.pulses + 1, flow := if f.valve = .on then 0 else f.flow } : Fill) = g
    have hset : s.Eases (setFill g s) := setFill_keeps g f s hf (by rw [← hg])
    simp only
    split
    · have h := fillEnd_mild (setFill g s) (.done false)
      exact ⟨hset.trans h.1, h.2⟩
    · exact ⟨hset, rfl⟩

theorem fillTimeout_leads (x : OutletState) (f : Fill → Nat) (k : Nat) (o : Outcome) : Leads K K s (fillTimeout x f k o s) := by
  unfold fillTimeout
  split
  · split
    · exact run_leads (by exact rfl) s
    · exact .refl s
  · exact .refl s

theorem blindGrace_hand : (blindGrace s).hand = s.hand := by
  unfold blindGrace
  simp only
  split
  · split <;> rfl
  · rfl

theorem padTimeout_leads : Leads K K s (padTimeout s) := by
  unfold padTimeout
  simp only
  split
  · exact run_leads (by exact rfl) s
  · exact .refl s

theorem heatTimeout_leads : Leads K K s (heatTimeout s) := by
  unfold heatTimeout
  simp only
  split
  · exact run_leads (by exact rfl) s
  · exact .refl s

theorem seqExpiry_leads (x : SeqState) (f : State → Bool) {l : List Act} (h : Plain l) : Leads K K s (seqExpiry x f l s) := by
  unfold seqExpiry
  split
  · exact run_leads h s
  · exact .refl s

theorem grantTimeout_leads : Leads K K s (grantTimeout s) := by
  unfold grantTimeout
  split
  · exact run_leads_from s (plain_toOff _) (setSeq_hand s _)
  · exact .refl s

theorem supplyHoldEnd_leads : Leads K K s (supplyHoldEnd s) := by
  unfold supplyHoldEnd
  split
  · exact run_leads_from s (by exact rfl) (setSeq_hand s _)
  · exact .refl s

theorem stopAsserted_mild (e : EndStop) : Mild s (stopAsserted e s) := by
  unfold stopAsserted
  simp only
  split
  · exact ⟨setMover_keeps _ _ s rfl, by simp [Act.pledges]⟩
  · exact ⟨setMover_keeps _ _ s rfl, rfl⟩

theorem stopReleased_mild (e : EndStop) : Mild s (stopReleased e s) := by
  unfold stopReleased
  simp only
  split
  · exact mild_nil s
  · exact ⟨setMover_keeps _ _ s rfl, rfl⟩

theorem endStopTaken_leads (e : EndStop) (b : Bool) : Leads K K s (endStopTaken e b s) := by
  unfold endStopTaken
  split
  · refine (Leads.of_hand (takeLine_hand s _ b)).trans (runReact_leads ?_)
    split
    · exact stopAsserted_mild _ e
    · exact stopReleased_mild _ e
  · exact .refl s

theorem drivePulse_mild (m : Mover) (v : Move) (hv : (mover s m).move = some v) : Mild s (drivePulse m v s) := by
  unfold drivePulse
  simp only
  split
  · exact ⟨setMover_keeps_move s hv rfl, rfl⟩
  · split
    · exact ⟨(setMover_keeps_move s hv rfl).trans (.of_hand rfl), rfl⟩
    · exact ⟨setMover_keeps_move s hv rfl, rfl⟩

theorem restPulse_mild (m : Mover) : Mild s (restPulse m s) := by
  unfold restPulse
  simp only
  split
  · exact mild_nil s
  · refine ⟨setMover_keeps m _ s ?_, rfl⟩
    split <;> rfl

theorem hallPulse_mild (m : Mover) : Mild s (hallPulse m s) := by
  unfold hallPulse
  split
  · next v hv =>
    split
    · exact drivePulse_mild s m v hv
    · exact restPulse_mild s m
  · exact restPulse_mild s m

theorem moveExpiry_leads (m : Mover) (f : Move → Bool) (g : Move → Outcome) : Leads K K s (moveExpiry m f g s) := by
  unfold moveExpiry
  split
  · split
    · exact run_leads (by exact rfl) s
    · exact .refl s
  · exact .refl s

theorem windPulse_hand : (windPulse s).hand = s.hand := rfl

theorem rampTick_leads : Leads K K s (runEach (channels.map Act.ramp) s) :=
  runEach_plain (plain_of_forall fun a ha => by obtain ⟨c, -, rfl⟩ := List.mem_map.1 ha; rfl) s

end Sys2Proof.Machine
end

section
/-!
SUPPORT. Every command from invariant to invariant, and the step.
-/
namespace Sys2Proof.Machine

variable {s : State}

/-- The cascade's invariant between two commands is the dispatcher's. -/
theorem sound_iff : s.Sound [] [] ↔ Mem.Wf 0 s.ram.slots ∧ s.QueuesInv ∧ s.InHandInv := by
  constructor
  · intro h
    refine ⟨h.wf, ⟨h.inReset, fun hr => ?_⟩, fun hr => ?_⟩
    · have g : s.Sorted [] := by simpa using (h.running hr).sorted
      refine ⟨g.intakeOnce, g.heldOnce, g.ownersOnce, fun n => ⟨?_, ?_, ?_⟩⟩
      · simpa using g.intake n
      · simpa using g.held n
      · simpa using g.owners n
    · obtain ⟨-, hin, hap, -, -, -⟩ := h.running hr
      refine ⟨fun f hf => hin _ .water ⟨f, hf, rfl⟩, fun m v n hv ht => hin n .movers ⟨m, v, hv, ht⟩,
        fun v w n hv hw ht e => hap n ⟨?_, ?_⟩, fun r hr n e => hin n .lights (.inl ⟨r, hr, e⟩),
        fun c n e => hin n .lights (.inr ⟨c, e⟩), fun n e => hin n .store e⟩
      · rw [tagOf_of_move s (m := .awning) hv, ht]
      · rw [tagOf_of_move s (m := .step) hw, e]
  · rintro ⟨hw, ⟨hq, hs⟩, hh⟩
    refine ⟨hw, hq, fun hr => ?_⟩
    obtain ⟨hi, hl, ho, hslots⟩ := hs hr
    obtain ⟨hfill, hmove, hap, hrec, hchan, hstore⟩ := hh hr
    refine ⟨⟨hw, hi, hl, ho, fun n => ?_, fun n => ?_, fun n => ?_⟩, fun n b e => ?_, fun n e => ?_, by simp, by simp, by simp⟩
    · simpa using (hslots n).1
    · simpa using (hslots n).2.1
    · simpa using (hslots n).2.2
    · cases b with
      | water =>
        obtain ⟨f, hf, rfl⟩ := e
        exact hfill f hf
      | movers =>
        obtain ⟨m, v, hv, ht⟩ := e
        exact hmove m v n hv ht
      | lights =>
        rcases e with ⟨r, hr, hn⟩ | ⟨c, hc⟩
        · exact hrec r hr n hn
        · exact hchan c n hc
      | store => exact hstore n e
    · obtain ⟨v, hv, htv⟩ := Option.map_eq_some_iff.1 e.1
      obtain ⟨w, hw, htw⟩ := Option.map_eq_some_iff.1 e.2
      exact hap v w n hv hw htv htw

/-- What a command does to the invariant, if the cascade does not overrun the model's bound. -/
def KeepsSound (i : Instr) (s : State) : Prop :=
  ∀ t, exec i s = .next t → t.overrun = false → s.Sound [] [] → t.Sound [] []

theorem KeepsSound.of_leads {i : Instr} {t : State} (h : Leads [] [] s t) (he : exec i s = .next t := by rfl) : KeepsSound i s :=
  fun u hu ho hs => by
    obtain rfl : t = u := by simpa using he.symm.trans hu
    exact (h ho).2 hs

theorem resetAssert_step (d : Bool) (s : State) : Leads [] [] s (if s.pins.reset then s else resetAssert d s) := by
  split
  · exact .refl s
  · exact .of_sound (resetAssert_overrun d s) fun h => (resetAssert_sound d s h.wf).1

theorem resetRelease_step (s : State) : Leads [] [] s (if s.pins.reset then resetRelease s else s) := by
  split
  · next hr => exact .of_sound (resetRelease_overrun s) fun h => resetRelease_sound h hr
  · exact .refl s

variable (s) in
/-- An order's row, its body kept from the slot taken on. -/
theorem order_leads {k : Kind} {body : Fin 32 → State → State} (hb : ∀ n t, t.pins.reset = false → Leads [n] [] t (body n t)) :
    Leads [] [] s (inRun (dispatch k body) s) := inRun_leads fun hr => dispatch_leads hr hb

theorem exec_keepsSound (i : Instr) (s : State) : KeepsSound i s := by
  cases i
  case hostRead a => exact .of_leads (hostRead_leads a s)
  case slotWordWrite n i v => exact .of_leads (hostWrite_leads (slotAddr n i.val) v s)
  case slotPost n => exact .of_leads (hostWrite_leads (slotAddr n 0) SlotState.posted.code s)
  case slotCancelPosted n => exact .of_leads (hostWrite_leads (slotAddr n 0) SlotState.cancel.code s)
  case slotCancelTaken n => exact .of_leads (hostWrite_leads (slotAddr n 0) SlotState.cancel.code s)
  case slotCancelLate n => exact .of_leads (hostWrite_leads (slotAddr n 0) SlotState.cancel.code s)
  case slotGiveBack n => exact .of_leads (hostWrite_leads (slotAddr n 0) SlotState.empty.code s)
  case slotStateFault n v => exact .of_leads (hostWrite_leads (slotAddr n 0) v s)
  case sceneWrite n i v => exact .of_leads (hostWrite_leads (sceneAddr n i.val) v s)
  case stagingWrite a v => exact .of_leads (hostWrite_leads a v s)
  case digestWrite a v => exact .of_leads (hostWrite_leads a v s)
  case unmappedWrite a v => exact .of_leads (hostWrite_leads a v s)
  case registerWrite a v => exact .of_leads (hostWrite_leads a v s)
  case restart v => exact .of_leads (hostWrite_leads 0x1001 v s)
  case attnEn v => exact .of_leads (hostWrite_leads 0x1001 v s)
  case ordAutoclr v => exact .of_leads (hostWrite_leads 0x1001 v s)
  case noticeClear v => exact .of_leads (hostWrite_leads 0x1002 v s)
  case noticeMask v => exact .of_leads (hostWrite_leads 0x1003 v s)
  case badKind => exact .of_leads (inRun_leads dispatchBad_leads)
  case chargeSet => exact .of_leads (order_leads s fun n t _ => (chargeSet_ends t n).leads)
  case shedFloor => exact .of_leads (order_leads s fun n t _ => (shedFloor_ends t n).leads)
  case restNow => exact .of_leads (order_leads s fun n t _ => (restNow_ends t n).leads)
  case auxSet => exact .of_leads (order_leads s fun n t _ => (auxSet_ends t n).leads)
  case tripClear => exact .of_leads (order_leads s fun n t _ => tripClear_leads t n)
  case termsLoad => exact .of_leads (order_leads s fun n t _ => (termsLoad_ends t n).leads)
  case pumpMode => exact .of_leads (order_leads s fun n t _ => (pumpMode_ends t n).leads)
  case pumpReset => exact .of_leads (order_leads s fun n t _ => (pumpReset_ends t n).leads)
  case fill => exact .of_leads (order_leads s fun n t hr => fill_leads n hr)
  case drainDump => exact .of_leads (order_leads s fun n t _ => (drainDump_ends t n).leads)
  case drainClose => exact .of_leads (order_leads s fun n t _ => (drainClose_ends t n).leads)
  case climateMode => exact .of_leads (order_leads s fun n t _ => (climateMode_ends t n).leads)
  case zoneSet => exact .of_leads (order_leads s fun n t _ => (zoneSet_ends t n).leads)
  case heaterClear => exact .of_leads (order_leads s fun n t _ => (heaterClear_ends t n).leads)
  case move => exact .of_leads (order_leads s fun n t hr => move_leads n hr)
  case moverStop => exact .of_leads (order_leads s fun n t _ => (moverStop_ends t n).leads)
  case sceneRecall => exact .of_leads (order_leads s fun n t hr => sceneRecall_leads n hr)
  case lightSet => exact .of_leads (order_leads s fun n t hr => lightSet_leads n hr)
  case settingsFetch => exact .of_leads (order_leads s fun n t _ => (settingsFetch_ends t n).leads)
  case settingsStore => exact .of_leads (order_leads s fun n t hr => settingsStore_leads n hr)
  case validateEnd => exact .of_leads (inRun_leads fun _ => validateEnd_leads s)
  case eraseEnd ok => exact .of_leads (inRun_leads fun _ => eraseEnd_leads s ok)
  case eraseTimeout => exact .of_leads (inRun_leads fun _ => timeoutIn_leads s .erase 1)
  case programEnd ok => exact .of_leads (inRun_leads fun _ => programEnd_leads s ok)
  case programTimeout => exact .of_leads (inRun_leads fun _ => timeoutIn_leads s .program 2)
  case verifyEnd l => exact .of_leads (inRun_leads fun _ => verifyEnd_leads s l)
  case serviceInput b => exact .of_leads (serviceInput_leads s b)
  case powerOn =>
    intro t ht _ _
    obtain rfl : powerOn s = t := by simpa using (show exec .powerOn s = .next (powerOn s) from rfl).symm.trans ht
    exact powerOn_sound s
  case resetAssert d => exact .of_leads (resetAssert_step d s)
  case resetRelease => exact .of_leads (resetRelease_step s)
  case linkStartQuiet k => exact .of_leads (live_leads fun _ => .of_hand (quietEnd_hand s k))
  case startComplete => exact .of_leads (startComplete_leads s)
  case secondClose l => exact .of_leads (live_leads fun _ => secondClose_leads s l)
  case fullSync l => exact .of_leads (live_leads fun _ => thresholdClose_leads s (meetsFull l) l)
  case emptySync l => exact .of_leads (live_leads fun _ => thresholdClose_leads s (meetsEmpty l) l)
  case voltageFloorEntry l => exact .of_leads (live_leads fun _ => thresholdClose_leads s (meetsFloorEntry l) l)
  case voltageFloorExit l => exact .of_leads (live_leads fun _ => thresholdClose_leads s (meetsFloorExit l) l)
  case restEntry l => exact .of_leads (live_leads fun _ => thresholdClose_leads s meetsRest l)
  case filteredInputEdge i b => exact .of_leads (.of_hand (setLine_hand s i { lineOf s i with raw := b }))
  case vehicleInput i b => exact .of_leads (live_leads fun _ => vehicleTaken_leads s i b)
  case valvePullInEnd o => exact .of_leads (.of_hand (pullInEnd_hand s o))
  case immediateTrip o k => exact .of_leads (tripIf_leads s (above300 s o k) o k).closeFrom
  case sustainedTrip o k =>
    exact .of_leads (tripIf_leads s (decide (Config.sustainedTripMs ≤ overAfter s o k)) o k).closeFrom
  case turnaroundEnd k => exact .of_leads (inRun_leads fun _ => .of_hand (turnaround_hand s k))
  case pollDue i k => exact .of_leads (inRun_leads fun _ => .of_hand (pollDue_hand s i k))
  case requestSent => exact .of_leads (inRun_leads fun _ => .of_hand (requestSent_hand s))
  case ackWindowExpiry k => exact .of_leads (inRun_leads fun _ => ackExpiry_leads s k)
  case replyGapExpiry => exact .of_leads (inRun_leads fun _ => .of_hand (replyGap_hand s))
  case replyWordFault k w a b => exact .of_leads (inRun_leads fun _ => .of_hand (replyWordFault_hand s k w a b))
  case replyQuietEnd k => exact .of_leads (inRun_leads fun _ => quietAfter_leads s k)
  case goodReply w l k => exact .of_leads (inRun_leads fun _ => goodReply_leads s w l k)
  case readingStale i l => exact .of_leads (live_leads fun _ => thresholdClose_leads s (meetsStale i) l)
  case pressureLow b => exact .of_leads (live_leads fun _ => pressureLow_leads s b)
  case pumpRunLimit => exact .of_leads (inRun_leads fun _ => pumpRunLimit_leads s)
  case fillFlowPulse => exact .of_leads (inRun_leads fun _ => runReact_leads (fillPulse_mild s))
  case fillWaitTimeout =>
    exact .of_leads (inRun_leads fun _ => fillTimeout_leads s .waiting (·.wait) Config.fillWaitTimeout .noBudget)
  case fillFlowTimeout =>
    exact .of_leads (inRun_leads fun _ => fillTimeout_leads s .on (·.flow) Config.fillFlowTimeout .timeout)
  case frostBlindGrace => exact .of_leads (inRun_leads fun _ => .of_hand (blindGrace_hand s))
  case padTimeout => exact .of_leads (inRun_leads fun _ => padTimeout_leads s)
  case heatTimeout => exact .of_leads (inRun_leads fun _ => heatTimeout_leads s)
  case retryHoldEnd => exact .of_leads (inRun_leads fun _ => seqExpiry_leads s .off _ (l := [.heaterTest]) rfl)
  case grantWaitTimeout => exact .of_leads (inRun_leads fun _ => grantTimeout_leads s)
  case ignitionLimit => exact .of_leads (inRun_leads fun _ => seqExpiry_leads s .igniting _ (l := [.startFail 0]) rfl)
  case runOnEnd => exact .of_leads (inRun_leads fun _ => seqExpiry_leads s .running _ (l := [.enter .stopping 0, .stopping false]) rfl)
  case cooldownMinimum => exact .of_leads (inRun_leads fun _ => seqExpiry_leads s .stopping _ (l := [.cooldownEnd]) rfl)
  case cooldownMaximum => exact .of_leads (inRun_leads fun _ => seqExpiry_leads s .stopping _ (l := [.cooldownEnd]) rfl)
  case supplyHoldEnd => exact .of_leads (inRun_leads fun _ => supplyHoldEnd_leads s)
  case hallPulse m => exact .of_leads (live_leads fun _ => runReact_leads (hallPulse_mild s m))
  case endStop e b => exact .of_leads (live_leads fun _ => endStopTaken_leads s e b)
  case grantWindowExpiry m => exact .of_leads (inRun_leads fun _ => moveExpiry_leads s m _ _)
  case stallWindowExpiry m => exact .of_leads (inRun_leads fun _ => moveExpiry_leads s m _ _)
  case moveTimeout m => exact .of_leads (inRun_leads fun _ => moveExpiry_leads s m _ _)
  case windPulse => exact .of_leads (live_leads fun _ => .of_hand (windPulse_hand s))
  case windHighSet l => exact .of_leads (live_leads fun _ => thresholdClose_leads s meetsWindSet l)
  case windHighClear l => exact .of_leads (live_leads fun _ => thresholdClose_leads s meetsWindClear l)
  case rampTick => exact .of_leads (inRun_leads fun _ => rampTick_leads s)
  case currentSample o k => exact .of_leads (currentSample_leads s o k).closeFrom

/-- Settles O6: the step's command keeps the cascade's invariant, which between commands is the dispatcher's. -/
theorem stepKeepsQueues : Obligations.StepKeepsQueues := by
  intro s t hw hq hh hstep ho
  have hs : s.Sound [] [] := sound_iff.2 ⟨hw.1, hq, hh⟩
  suffices h : t.Sound [] [] from ⟨(sound_iff.1 h).2.1, (sound_iff.1 h).2.2⟩
  unfold step at hstep
  split at hstep
  · obtain rfl : s = t := by simpa using hstep
    exact hs
  · next c l hp =>
    have he : s.Eases { s with pending := l } := .of_hand rfl
    exact exec_keepsSound c _ t hstep ho (hs.eases he)

end Sys2Proof.Machine
end

section
/-!
SUPPORT. The host port: what an access, a read and a write to each region leave, the digest apart.
-/
namespace Sys2Proof.Machine

variable {s t u : State} {n : Fin 32}

/-! ### The pins -/

theorem attn_iff (s : State) : attn s = true ↔
    s.port.attnEn = true ∧ ∃ g : Fin 10, s.port.notice.getLsbD g.val = true ∧ s.port.mask.getLsbD g.val = true := by
  unfold attn
  rw [Bool.and_eq_true, bne_iff_ne]
  refine and_congr_right fun _ => ⟨fun h => ?_, fun ⟨g, hn, hm⟩ h => ?_⟩
  · by_contra hno
    refine h (BitVec.eq_of_getLsbD_eq fun i hi => ?_)
    rw [BitVec.getLsbD_and, show BitVec.getLsbD 0 i = false from BitVec.getLsbD_zero]
    by_contra hb
    rw [Bool.not_eq_false, Bool.and_eq_true] at hb
    exact hno ⟨⟨i, hi⟩, hb⟩
  · have hg := congrArg (·.getLsbD g.val) h
    simp only [BitVec.getLsbD_and, hn, hm, Bool.and_self] at hg
    exact absurd (hg.trans BitVec.getLsbD_zero) (by simp)

theorem drive_of_not_on {o : Fin 16} (h : (outlet s o).state ≠ .on) : drive s o = 0 := by
  unfold drive; rw [if_pos h]

theorem drive_of_on {o : Fin 16} (h : (outlet s o).state = .on) : drive s o =
    if o = 1 ∨ o = 7 then (if (outlet s o).pullIn then 1000 else 400)
    else if o = 5 then s.outlets.duty
    else match channelOf o with
      | some c => (channel s c).output
      | none => 1000 := by
  unfold drive
  rw [if_neg (not_not.2 h)]
  rfl

theorem drive_channel {o : Fin 16} {c : Fin 6} (h : (outlet s o).state = .on) (ho : o.val = 10 + c.val) :
    drive s o = (channel s c).output := by
  have h1 : ¬ (o = 1 ∨ o = 7) := by rintro (rfl | rfl) <;> simp at ho <;> omega
  have h5 : o ≠ 5 := by rintro rfl; simp at ho; omega
  have hc : channelOf o = some c := by
    unfold channelOf
    rw [dif_pos (by omega)]
    exact congrArg some (Fin.ext (by simp only; omega))
  rw [drive_of_on h, if_neg h1, if_neg h5, hc]

theorem drive_switched {o : Fin 16} (h : (outlet s o).state = .on) (h1 : o ≠ 1) (h7 : o ≠ 7) (h5 : o ≠ 5) (ho : o.val < 10) :
    drive s o = 1000 := by
  have hc : channelOf o = none := by
    unfold channelOf
    rw [dif_neg (by omega)]
  rw [drive_of_on h, if_neg (not_or.2 ⟨h1, h7⟩), if_neg h5, hc]

theorem closeFrom_sansDigest (old s : State) : (closeFrom old s).sansDigest = s.sansDigest := by
  obtain ⟨d, h⟩ := closeFrom_digest old s
  rw [h]
  rfl

theorem lineOf_setLine (i : FilteredInput) (x : Line) (s : State) (j : FilteredInput) :
    lineOf (setLine i x s) j = if j = i then x else lineOf s j := by
  split
  · next h =>
    subst h
    cases j with
    | vehicle v => cases v <;> rfl
    | pressureLow => rfl
    | endStop e => cases e <;> rfl
  · next h =>
    cases i with
    | vehicle v => cases v <;> cases j with
      | vehicle w => cases w <;> first | rfl | exact absurd rfl h
      | pressureLow => rfl
      | endStop e => cases e <;> rfl
    | pressureLow => cases j with
      | vehicle w => cases w <;> rfl
      | pressureLow => exact absurd rfl h
      | endStop e => cases e <;> rfl
    | endStop e => cases e <;> cases j with
      | vehicle w => cases w <;> rfl
      | pressureLow => rfl
      | endStop f => cases f <;> first | rfl | exact absurd rfl h

theorem setLine_outside (i : FilteredInput) (x : Line) (s : State) :
    { setLine i x s with pins := s.pins } = s ∧ (setLine i x s).pins.service = s.pins.service ∧
      (setLine i x s).pins.reset = s.pins.reset := by
  unfold setLine
  refine ⟨rfl, ?_, ?_⟩ <;> simp only <;> split <;> rfl

theorem serviceInput_sansDigest (b : Bool) (s : State) :
    (if s.pins.reset then setService b s else closeFrom s (setService b s)).sansDigest = (setService b s).sansDigest := by
  split
  · rfl
  · exact closeFrom_sansDigest _ _

theorem live_sansDigest {f : State → State} (hr : s.pins.reset = false) : (live f s).sansDigest = (f s).sansDigest := by
  unfold live
  rw [if_neg (by simp [hr])]
  exact closeFrom_sansDigest _ _

/-- Settles O9. -/
theorem pinsFollowAndAreRecorded : Obligations.PinsFollowAndAreRecorded := by
  refine ⟨⟨attn_iff, fun s o => ⟨drive_of_not_on, fun h => ⟨fun ho => ?_, fun ho => ?_, fun c => drive_channel h,
    drive_switched h⟩, ?_, ?_⟩⟩, fun s => ⟨fun b => ⟨_, rfl, serviceInput_sansDigest b s⟩, fun i b => ?_, fun hr =>
    ⟨_, rfl, live_sansDigest hr⟩⟩⟩
  · rw [drive_of_on h, if_pos ho]
  · rw [drive_of_on h, if_neg (by subst ho; decide), if_pos ho]
  · simp [driveBra]
  · simp [driveBrb]
  · obtain ⟨hpins, hservice, hreset⟩ := setLine_outside i { lineOf s i with raw := b } s
    exact ⟨_, rfl, by rw [lineOf_setLine, if_pos rfl], fun j hj => by rw [lineOf_setLine, if_neg hj], hpins, hservice, hreset⟩

/-! ### The chain effect -/

theorem chainEffect_of_ok {f : Fin 32} (h : claimedBy s n = some f) : chainEffect n .ok s = release f s := by
  simp only [chainEffect, h, if_true]

theorem chainEffect_of_fail {f : Fin 32} {o : Outcome} (h : claimedBy s n = some f) (ho : o ≠ .ok) :
    chainEffect n o s = chainBreak 32 f s := by
  simp only [chainEffect, h, if_neg ho]

/-- R19: the follower of a failed leader is FAILED and leaves the held set. -/
theorem chainEffect_breaks {f : Fin 32} {o : Outcome} (hw : Mem.Wf 0 s.ram.slots) (h : claimedBy s n = some f) (ho : o ≠ .ok) :
    Finished (chainEffect n o s) f { outcome := .chainBroken } ∧ heldOf (chainEffect n o s) f = none := by
  obtain ⟨hf, hn⟩ := chainBreak_finished hw 31 f
  rw [chainEffect_of_fail h ho]
  exact ⟨hf, heldOf_eq_none.2 hn⟩

/-- Settles O10: a release by the definition, a broken chain by its induction. -/
theorem finishedLeaderActsOnFollower : Obligations.FinishedLeaderActsOnFollower := by
  intro s n f o hw hc
  refine ⟨?_, fun ho => ?_⟩
  · rintro rfl
    exact chainEffect_of_ok hc
  · obtain ⟨hf, hn⟩ := chainEffect_breaks hw.1 hc ho
    exact ⟨hf, hn, chainEffect_sansOrders n o s⟩

end Sys2Proof.Machine
end

section
/-!
SUPPORT. Accesses, reads, and writes to slots and regions.
-/
namespace Sys2Proof.Machine

variable {s t u : State} {n : Fin 32}

/-! ### Port accesses (R58, R61) -/

theorem overNodes_charge (f : Fin 12 → Node → Node) (l : List (Fin 12)) : ∀ s : State, (overNodes f l s).charge = s.charge := by
  induction l with
  | nil => exact fun _ => rfl
  | cons i l ih => exact fun s => (ih _).trans rfl

theorem node_setNode (i j : Fin 12) (x : Node) (s : State) : node (setNode i x s) j = if j = i then x else node s j := by
  unfold node setNode
  by_cases h : j = i
  · subst h; simp
  · have hne : i.val ≠ j.val := fun e => h (Fin.ext e.symm)
    simp [h, Vector.getElem_set_ne, hne]

theorem node_overNodes_of_not_mem (f : Fin 12 → Node → Node) {i : Fin 12} (l : List (Fin 12)) :
    ∀ s : State, i ∉ l → node (overNodes f l s) i = node s i := by
  induction l with
  | nil => exact fun _ _ => rfl
  | cons j l ih =>
    intro s hi
    obtain ⟨hj, hl⟩ := not_or.1 (mt List.mem_cons.2 hi)
    rw [overNodes, ih _ hl, node_setNode, if_neg hj]

theorem node_overNodes (f : Fin 12 → Node → Node) {i : Fin 12} (l : List (Fin 12)) :
    ∀ s : State, l.Nodup → i ∈ l → node (overNodes f l s) i = f i (node s i) := by
  induction l with
  | nil => exact fun _ _ h => absurd h (by simp)
  | cons j l ih =>
    intro s hd hi
    obtain ⟨hj, hd⟩ := List.nodup_cons.1 hd
    rw [overNodes]
    by_cases e : i = j
    · subst e
      rw [node_overNodes_of_not_mem f l _ hj, node_setNode, if_pos rfl]
    · rw [ih _ hd (by simpa [e] using hi), node_setNode, if_neg e]

theorem roster_nodup (s : State) : (roster s).Nodup := (List.nodup_finRange 12).filter _

theorem roster_congr (h : t.store = s.store) : roster t = roster s := by unfold roster cfg; rw [h]

theorem run_store (l : List Act) (s : State) : (run l s).store = s.store := congrArg Steady.store (run_steady l s)
theorem run_power (l : List Act) (s : State) : (run l s).charge.power = s.charge.power := congrArg Steady.power (run_steady l s)

theorem close_eq (s : State) : ∃ d, close s = { s with ram := { s.ram with digest := d } } := syncAll_digest parts s

/-- R61: what a wake leaves of the power state, the idle timer, ENERGY and the records. -/
theorem wake_wakes (s : State) : (wake s).charge.power = .active ∧ (wake s).charge.idle = 0 ∧ Noticed (wake s) .energy 3 ∧
    ∀ i ∈ roster s, (node (wake s) i).due = some (s.time * 1000) := by
  have hpower : (run [.signal .rest 0] (setPower .active s)).charge.power = .active := run_power _ _
  have hidle : (run [.signal .rest 0] (setPower .active s)).charge.idle = 0 := (run_drains _ _).idle rfl
  have hstore : (run [.signal .rest 0] (setPower .active s)).store = s.store := run_store _ _
  unfold wake
  generalize run [.signal .rest 0] (setPower .active s) = w at hpower hidle hstore ⊢
  have hcharge : (allDue (nowMs s 0) w).charge = w.charge := overNodes_charge _ _ _
  have hnodes : ∀ i ∈ roster s, (node (allDue (nowMs s 0) w) i).due = some (s.time * 1000) := fun i hi => by
    rw [← roster_congr hstore] at hi
    rw [allDue, node_overNodes _ _ _ (roster_nodup w) hi, nowMs, Nat.add_zero]
  generalize allDue (nowMs s 0) w = x at hcharge hnodes ⊢
  have hraise : (raise .energy (bit 3) (syncPart .charge x)).charge = w.charge := by rw [raise_charge, syncPart_charge, hcharge]
  have hbit : (bit 3).getLsbD 3 = true := bit_getLsbD 3
  refine ⟨by rw [hraise, hpower], by rw [hraise, hidle], ⟨markNotice_notice .energy _ _, ?_⟩, hnodes⟩
  · show ((markNotice .energy (bit 3) (syncPart .charge x)).port.causes[Group.energy.index]).getLsbD 3 = true
    rw [markNotice_causes, BitVec.getLsbD_or, hbit, Bool.or_true]

/-- A host write under RESET. -/
theorem hostWrite_of_reset (a : BitVec 13) (v : Word) (hr : s.pins.reset = true) : hostWrite a v s = s := by
  unfold hostWrite; rw [if_pos hr]

/-- Settles O11. -/
theorem accessSetsIdleAndWakes : Obligations.AccessSetsIdleAndWakes := by
  refine ⟨fun s => ⟨fun h => ?_, fun h => ?_⟩, fun s c hr hc => ?_⟩
  · unfold access; rw [if_neg h]; rfl
  · have hw := wake_wakes s
    obtain ⟨d, hd⟩ := close_eq (wake s)
    unfold access
    rw [if_pos h, hd]
    generalize wake s = w at hw ⊢
    exact hw
  · have dropped : ∀ a v, Host.Outcome.next (hostWrite a v s) = (.next s : Host.Outcome State Fault Refusal) :=
      fun a v => by rw [hostWrite_of_reset a v hr]
    rcases hc with ⟨n, i, v, rfl | rfl⟩ | ⟨n, rfl | rfl | rfl | rfl | rfl⟩ | ⟨n, v, rfl⟩ | ⟨a, v, rfl | rfl | rfl | rfl⟩ |
      ⟨v, rfl | rfl | rfl | rfl | rfl⟩ <;> exact dropped _ _

/-! ### Reads (R1) -/

theorem hostRead_eq (addr : BitVec 13) (hr : s.pins.reset = false) :
    ∃ d, hostReadOf addr s = { access s with ram := { (access s).ram with digest := d }
                                             port := { (access s).port with bus := readWord (access s) addr } } := by
  unfold hostReadOf
  rw [if_neg (by simp [hr])]
  obtain ⟨d, hd⟩ := closeFrom_digest s (setBus (readWord (access s) addr) (access s))
  exact ⟨d, hd⟩

section
variable (u) (addr : BitVec 13)

theorem readWord_slots (h : addr.toNat < 0x200) : readWord u addr = Mem.read 0 u.ram.slots addr.toNat := if_pos h

theorem readWord_digest (h : 0x200 ≤ addr.toNat) (h' : addr.toNat < 0x400) : readWord u addr = Mem.read 0 u.ram.digest addr.toNat :=
  (if_neg (Nat.not_lt.2 h)).trans (if_pos h')

theorem readWord_from_scenes (h : 0x400 ≤ addr.toNat) : readWord u addr =
    if addr.toNat < 0x600 then Mem.read 0 u.ram.scenes addr.toNat
    else if addr.toNat < 0x700 then Mem.read 0 u.ram.staging addr.toNat
    else if addr.toNat < 0x800 then 0
    else if addr.toNat < 0x1000 then Mem.read 0 u.ram.window addr.toNat
    else if addr.toNat = 0x1000 then 0x4302
    else if addr.toNat = 0x1001 then controlWord u
    else if addr.toNat = 0x1002 then u.port.notice.setWidth 16
    else if addr.toNat = 0x1003 then u.port.mask.setWidth 16
    else if addr.toNat = 0x1004 then portFaultWord u
    else if addr.toNat = 0x1005 then u.port.addr.setWidth 16
    else 0 :=
  (if_neg (by have : Config.digestBase = 0x200 := rfl; omega)).trans (if_neg (by have : Config.sceneBase = 0x400 := rfl; omega))

end

/-- Settles O12. -/
theorem hostReadReturnsWord : Obligations.HostReadReturnsWord := by
  intro s addr
  refine ⟨fun hr => ?_, fun hr => ?_⟩
  · show Host.Outcome.next (hostReadOf addr s) = _
    unfold hostReadOf
    rw [if_pos hr]
    rfl
  · obtain ⟨d, hd⟩ := hostRead_eq addr hr
    have hexec : exec (.hostRead addr) s = .next (hostReadOf addr s) := rfl
    intro u
    have from_scenes := readWord_from_scenes u addr
    simp only
    refine ⟨_, hexec.trans (congrArg _ hd), rfl, readWord_slots u addr, readWord_digest u addr, fun h h' => ?_, fun h h' => ?_,
      fun h h' => ?_, fun h => ?_, fun h => ?_, fun h => ?_, fun h => ?_, fun h => ?_, fun h => ?_, fun h => ?_⟩
    · exact (from_scenes h).trans (if_pos h')
    · rw [from_scenes (by omega), if_neg (by omega), if_pos h']
    · rw [from_scenes (by omega), if_neg (by omega), if_neg (by omega), if_neg (by omega), if_pos h']
    · exact (from_scenes (by omega)).trans (by simp [h])
    · exact (from_scenes (by omega)).trans (by simp [h, controlWord])
    · exact (from_scenes (by omega)).trans (by simp [h])
    · exact (from_scenes (by omega)).trans (by simp [h])
    · exact (from_scenes (by omega)).trans (by simp [h, portFaultWord])
    · exact (from_scenes (by omega)).trans (by simp [h])
    · rw [from_scenes (by omega)]
      rcases h with ⟨h, h'⟩ | h
      · rw [if_neg (by omega), if_neg (by omega), if_pos h']
      · rw [if_neg (by omega), if_neg (by omega), if_neg (by omega), if_neg (by omega), if_neg (by omega), if_neg (by omega),
          if_neg (by omega), if_neg (by omega), if_neg (by omega), if_neg (by omega)]

end Sys2Proof.Machine
end

section
/-!
SUPPORT. Host writes, the digest apart: by region, and to a slot's words by the state they meet.
-/
namespace Sys2Proof.Machine

variable {s t u : State} {n : Fin 32}

/-! ### The write as a whole -/

theorem hostWrite_eq {a : BitVec 13} {v : Word} (hr : s.pins.reset = false) (hq : requestsRestart a v = false) :
    ∃ d, hostWrite a v s =
      { store a v (access s) with ram := { (store a v (access s)).ram with digest := d } } := by
  unfold hostWrite
  rw [if_neg (by simp [hr]), if_neg (by simp [hq])]
  exact closeFrom_digest s _

theorem hostWrite_sansDigest {a : BitVec 13} {v : Word} (hr : s.pins.reset = false) (hq : requestsRestart a v = false) :
    (hostWrite a v s).sansDigest = (store a v (access s)).sansDigest := by
  obtain ⟨d, hd⟩ := hostWrite_eq hr hq
  rw [hd]
  generalize store a v (access s) = w
  rfl

theorem requestsRestart_of_ne {a : BitVec 13} {v : Word} (h : a ≠ 0x1001) : requestsRestart a v = false := by
  rw [requestsRestart, beq_eq_false_iff_ne.2 h, Bool.false_and]

theorem requestsRestart_of_clear {a : BitVec 13} {v : Word} (h : v.getLsbD 15 = false) : requestsRestart a v = false := by
  rw [requestsRestart, h, Bool.and_false]

/-! ### Addresses -/

theorem slotAddr_toNat (n : Fin 32) {i : Nat} (hi : i < 16) : (slotAddr n i).toNat = 16 * n.val + i := by
  rw [slotAddr, BitVec.toNat_ofNat, Nat.mod_eq_of_lt (by omega)]

theorem sceneAddr_toNat (n : Fin 32) {i : Nat} (hi : i < 16) : (sceneAddr n i).toNat = 0x400 + 16 * n.val + i := by
  rw [sceneAddr, BitVec.toNat_ofNat, Nat.mod_eq_of_lt (by have : Config.sceneBase = 0x400 := rfl; omega)]
  rfl

theorem slotAddr_ne (n : Fin 32) {i : Nat} (hi : i < 16) : slotAddr n i ≠ 0x1001 := fun h => by
  have := congrArg BitVec.toNat h
  rw [slotAddr_toNat n hi] at this
  simp at this
  omega

theorem sceneAddr_ne (n : Fin 32) {i : Nat} (hi : i < 16) : sceneAddr n i ≠ 0x1001 := fun h => by
  have := congrArg BitVec.toNat h
  rw [sceneAddr_toNat n hi] at this
  simp at this
  omega

section
variable (a : BitVec 13) (v : Word) (u : State)

theorem store_slotAddr_zero (n : Fin 32) : store (slotAddr n 0) v u = stateWrite n v (slotAddr n 0) u := by
  have hn : Fin.ofNat 32 (16 * n.val / 16) = n := Fin.ext (by simp)
  simp only [store, slotAddr_toNat n (show 0 < 16 by omega), Nat.add_zero, Nat.mul_mod_right, if_true, hn]
  exact if_pos (show 16 * n.val < 0x200 by omega)

theorem store_slotAddr (n : Fin 32) {i : Nat} (hi : i < 16) (h0 : i ≠ 0) :
    store (slotAddr n i) v u = slotWrite n i v (slotAddr n i) u := by
  have hmod : (16 * n.val + i) % 16 = i := by omega
  have hn : Fin.ofNat 32 ((16 * n.val + i) / 16) = n := Fin.ext (by simp; omega)
  simp only [store, slotAddr_toNat n hi, hmod, if_neg h0, hn]
  exact if_pos (show 16 * n.val + i < 0x200 by omega)

theorem store_digest (h : 0x200 ≤ a.toNat) (h' : a.toNat < 0x400) : store a v u = portFault .readOnly a u := by
  unfold store
  simp only
  exact (if_neg (Nat.not_lt.2 h)).trans (if_pos h')

theorem store_from_scenes (h : 0x400 ≤ a.toNat) : store a v u =
    if a.toNat < 0x600 then sceneStore a.toNat v u
    else if a.toNat < 0x700 then stagingStore a.toNat v u
    else if a.toNat < 0x800 then portFault .unmapped a u
    else if a.toNat < 0x1000 then windowStore a.toNat v u
    else if a.toNat = 0x1001 then controlWrite v u
    else if a.toNat = 0x1002 then clearGroups v groups u
    else if a.toNat = 0x1003 then maskWrite v u
    else if a.toNat = 0x1000 ∨ a.toNat = 0x1004 ∨ a.toNat = 0x1005 then portFault .readOnly a u
    else portFault .unmapped a u := by
  unfold store
  simp only
  exact (if_neg (by have : Config.digestBase = 0x200 := rfl; omega)).trans
    (if_neg (by have : Config.sceneBase = 0x400 := rfl; omega))

end

/-! ### The capture of a rejected write (R24) -/

theorem portFault_sansDigest (k : PortFault) (a : BitVec 13) (u : State) : (portFault k a u).sansDigest = (captured k a u).sansDigest := by
  unfold portFault captured
  split <;> rfl

/-! ### Slot words (R3) -/

theorem slotWordWrite_sansDigest {i : Fin 16} {v : Word} (hr : s.pins.reset = false) (h0 : i ≠ 0) :
    (hostWrite (slotAddr n i.val) v s).sansDigest = (slotWrite n i.val v (slotAddr n i.val) (access s)).sansDigest := by
  rw [hostWrite_sansDigest hr (requestsRestart_of_ne (slotAddr_ne n i.isLt)),
    store_slotAddr _ _ n i.isLt (fun e => h0 (Fin.ext e))]

/-- Settles O13. -/
theorem slotWordIsStoredOrLocked : Obligations.SlotWordIsStoredOrLocked := by
  intro s n i v hr h0 u
  have hw : (hostWrite (slotAddr n i.val) v s).sansDigest = (slotWrite n i.val v (slotAddr n i.val) u).sansDigest :=
    slotWordWrite_sansDigest hr h0
  refine ⟨_, rfl, fun hn => hw.trans ?_, fun hn => hw.trans ?_⟩
  · have : slotWrite n i.val v (slotAddr n i.val) u = setSlotWord n i.val v u := by
      unfold slotWrite
      rcases hn with hn | hn | hn <;> rw [hn]
    rw [this]
    rfl
  · have : slotWrite n i.val v (slotAddr n i.val) u = portFault .slotLocked (slotAddr n i.val) u := by
      unfold slotWrite
      rcases hn with hn | hn | hn <;> rw [hn]
    rw [this]
    exact portFault_sansDigest _ _ u

/-! ### State words (R4 to R8) -/

theorem stateWord_sansDigest {v : Word} (hr : s.pins.reset = false) :
    (hostWrite (slotAddr n 0) v s).sansDigest = (stateWrite n v (slotAddr n 0) (access s)).sansDigest := by
  rw [hostWrite_sansDigest hr (requestsRestart_of_ne (slotAddr_ne n (by omega))), store_slotAddr_zero]

theorem stateWord_eq {v : Word} (hr : s.pins.reset = false) : ∃ d, hostWrite (slotAddr n 0) v s =
    { stateWrite n v (slotAddr n 0) (access s) with ram := { (stateWrite n v (slotAddr n 0) (access s)).ram with digest := d } } := by
  have h := hostWrite_eq (v := v) hr (requestsRestart_of_ne (slotAddr_ne n (show 0 < 16 by omega)))
  rwa [store_slotAddr_zero] at h

section
variable (u : State) (a : BitVec 13)

theorem stateWrite_post (h : slotState u n = .empty) : stateWrite n 1 a u = post n u := by
  unfold stateWrite; rw [h]; rfl

theorem stateWrite_cancelPosted (h : slotState u n = .posted) : stateWrite n 3 a u = cancelPosted n u := by
  unfold stateWrite; rw [h]; rfl

theorem stateWrite_cancelTaken (h : slotState u n = .taken) : stateWrite n 3 a u = cancelTaken n u := by
  unfold stateWrite; rw [h]; rfl

theorem stateWrite_cancelLate (h : slotState u n = .done ∨ slotState u n = .failed) : stateWrite n 3 a u = u := by
  unfold stateWrite; rcases h with h | h <;> rw [h] <;> rfl

theorem stateWrite_giveBack (h : slotState u n = .done ∨ slotState u n = .failed) : stateWrite n 0 a u = giveBack n u := by
  unfold stateWrite; rcases h with h | h <;> rw [h] <;> rfl

/-- R8. -/
theorem stateWrite_fault {v : Word} (he : ¬ (slotState u n = .empty ∧ v = 1)) (hp : ¬ (slotState u n = .posted ∧ v = 3))
    (ht : ¬ (slotState u n = .taken ∧ v = 3)) (hd : ¬ ((slotState u n = .done ∨ slotState u n = .failed) ∧ (v = 3 ∨ v = 0))) :
    stateWrite n v a u = portFault .slotState a u := by
  unfold stateWrite
  split
  · next h => exact if_neg fun hv => he ⟨h, hv⟩
  · next h => exact if_neg fun hv => hp ⟨h, hv⟩
  · next h => exact if_neg fun hv => ht ⟨h, hv⟩
  · rfl
  · next h => exact (if_neg fun hv => hd ⟨.inl h, .inl hv⟩).trans (if_neg fun hv => hd ⟨.inl h, .inr hv⟩)
  · next h => exact (if_neg fun hv => hd ⟨.inr h, .inl hv⟩).trans (if_neg fun hv => hd ⟨.inr h, .inr hv⟩)

end

/-- Settles O14. -/
theorem postingEntersIntakeOrHeldSet : Obligations.PostingEntersIntakeOrHeldSet := by
  intro s n hr u hw he
  refine ⟨_, rfl, (stateWord_sansDigest hr).trans ?_⟩
  have hstate : stateWrite n SlotState.posted.code (slotAddr n 0) u = post n u := stateWrite_post u _ he
  have hf : follower (setSlotState n .posted u) n = (slotWord u n 1).getLsbD 15 := follower_setSlotState hw.1 n n _
  rw [hstate]
  unfold post
  simp only [hf]
  split <;> rfl

/-- Settles O15. -/
theorem cancelOfPostedFinishesSlot : Obligations.CancelOfPostedFinishesSlot := by
  intro s n hr u hw hp
  have hstate : stateWrite n SlotState.cancel.code (slotAddr n 0) u = cancelPosted n u := stateWrite_cancelPosted u _ hp
  obtain ⟨d, hd⟩ := stateWord_eq (n := n) (v := SlotState.cancel.code) hr
  have hexec : exec (.slotCancelPosted n) s = .next (hostWrite (slotAddr n 0) SlotState.cancel.code s) := rfl
  refine ⟨_, hexec.trans (congrArg _ hd), ?_⟩
  rw [show access s = u from rfl, hstate]
  have hfin : Finished (cancelPosted n u) n { outcome := .cancelled } := service_finished (s := dropHeld n (dropIntake n u)) hw.1 n _
  have hother : OtherSlotsKept u (cancelPosted n u) n := fun m i hm hi => by
    rw [cancelPosted, slotWord_service (s := dropHeld n (dropIntake n u)) hw.1 n m _ i hi, if_neg hm]
    rfl
  have hsans : (cancelPosted n u).sansOrders = u.sansOrders := by
    rw [cancelPosted, service_sansOrders, dropHeld_sansOrders, dropIntake_sansOrders]
  exact ⟨hfin, rfl, rfl, hother, hsans⟩

/-- Settles O18. -/
theorem otherStateWritesAreFaults : Obligations.OtherStateWritesAreFaults := by
  intro s n v hr u he hp ht hd
  refine ⟨_, rfl, (stateWord_sansDigest hr).trans ?_⟩
  rw [show access s = u from rfl, stateWrite_fault u _ he hp ht hd]
  exact portFault_sansDigest _ _ u

end Sys2Proof.Machine
end

section
/-!
SUPPORT. Slots given back, writes by region and to the registers.
-/
namespace Sys2Proof.Machine

variable {s t u : State} {n : Fin 32}

/-! ### Groups that are cleared (R21, R23) -/

/-- Groups are dropped one after the other. -/
def dropGroups (l : List Group) (s : State) : State := l.foldl (fun s g => dropGroup g s) s

theorem dropGroups_cons (g : Group) (l : List Group) (s : State) : dropGroups (g :: l) s = dropGroups l (dropGroup g s) := rfl

theorem clearPending_sansDigest (l : List Group) (s : State) : (clearPending l s).sansDigest = (dropGroups l s).sansDigest := by
  cases l <;> rfl

theorem dropGroup_notice (g : Group) (s : State) (i : Fin 10) :
    (dropGroup g s).port.notice.getLsbD i.val = (s.port.notice.getLsbD i.val && g.index != i) := by
  have h : (dropGroup g s).port.notice = s.port.notice &&& ~~~(BitVec.ofNat 10 (2 ^ g.index.val)) := by
    unfold dropGroup; simp only; split <;> rfl
  have hbit : (BitVec.ofNat 10 (2 ^ g.index.val)).getLsbD i.val = decide (g.index = i) := by
    rw [BitVec.getLsbD_ofNat, Nat.testBit_two_pow]
    simp [Fin.ext_iff]
  rw [h, BitVec.getLsbD_and, BitVec.getLsbD_not, hbit]
  simp [bne, Bool.beq_eq_decide_eq]

theorem dropGroup_causes (g : Group) (s : State) (i : Fin 10) :
    (dropGroup g s).port.causes[i] = if g.index = i then 0 else s.port.causes[i] := by
  have h : (dropGroup g s).port.causes = s.port.causes.set g.index 0 := by unfold dropGroup; simp only; split <;> rfl
  have hv : g.index.val = i.val ↔ g.index = i := Fin.ext_iff.symm
  rw [h]
  simp only [Fin.getElem_fin, Vector.getElem_set, hv]

/-- The capture and what no clearing touches. -/
theorem dropGroup_port (g : Group) (s : State) :
    ((dropGroup g s).port.valid, (dropGroup g s).port.further, (dropGroup g s).port.kind, (dropGroup g s).port.addr) =
      (if g = .port then (false, false, 0, 0) else (s.port.valid, s.port.further, s.port.kind, s.port.addr)) ∧
    (dropGroup g s).port.attnEn = s.port.attnEn ∧ (dropGroup g s).port.autoClr = s.port.autoClr ∧
      (dropGroup g s).port.mask = s.port.mask ∧ (dropGroup g s).port.bus = s.port.bus := by
  unfold dropGroup
  simp only
  split <;> exact ⟨rfl, rfl, rfl, rfl, rfl⟩

theorem dropGroup_outside (g : Group) (s : State) (p : Port) : { dropGroup g s with port := p } = { s with port := p } := by
  unfold dropGroup
  simp only
  split <;> rfl

theorem dropGroups_notice (l : List Group) (i : Fin 10) : ∀ s : State,
    (dropGroups l s).port.notice.getLsbD i.val = (s.port.notice.getLsbD i.val && !l.any (·.index == i)) := by
  induction l with
  | nil => exact fun s => by simp [dropGroups]
  | cons g l ih =>
    intro s
    rw [dropGroups_cons, ih, dropGroup_notice, List.any_cons, Bool.not_or, Bool.and_assoc]
    rfl

theorem dropGroups_causes (l : List Group) (i : Fin 10) : ∀ s : State,
    (dropGroups l s).port.causes[i] = if l.any (·.index == i) then 0 else s.port.causes[i] := by
  induction l with
  | nil => exact fun s => by simp [dropGroups]
  | cons g l ih =>
    intro s
    rw [dropGroups_cons, ih, dropGroup_causes, List.any_cons]
    by_cases h : g.index = i <;> simp [h]

theorem dropGroups_capture (l : List Group) : ∀ s : State,
    ((dropGroups l s).port.valid, (dropGroups l s).port.further, (dropGroups l s).port.kind, (dropGroups l s).port.addr) =
      if .port ∈ l then (false, false, 0, 0) else (s.port.valid, s.port.further, s.port.kind, s.port.addr) := by
  induction l with
  | nil => exact fun s => by simp [dropGroups]
  | cons g l ih =>
    intro s
    rw [dropGroups_cons, ih, (dropGroup_port g s).1]
    by_cases h : g = .port
    · simp [h]
    · simp [h, Ne.symm h]

theorem dropGroups_kept (l : List Group) : ∀ s : State,
    (dropGroups l s).port.attnEn = s.port.attnEn ∧ (dropGroups l s).port.autoClr = s.port.autoClr ∧
      (dropGroups l s).port.mask = s.port.mask ∧ (dropGroups l s).port.bus = s.port.bus := by
  induction l with
  | nil => exact fun _ => ⟨rfl, rfl, rfl, rfl⟩
  | cons g l ih =>
    intro s
    obtain ⟨h1, h2, h3, h4⟩ := ih (dropGroup g s)
    obtain ⟨-, g1, g2, g3, g4⟩ := dropGroup_port g s
    exact ⟨h1.trans g1, h2.trans g2, h3.trans g3, h4.trans g4⟩

theorem dropGroups_outside (l : List Group) (p : Port) : ∀ s : State, { dropGroups l s with port := p } = { s with port := p } := by
  induction l with
  | nil => exact fun _ => rfl
  | cons g l ih => exact fun s => (ih _).trans (dropGroup_outside g s p)

/-- Every notice bit is some group's. -/
theorem exists_group (i : Fin 10) : ∃ g ∈ groups, g.index = i := by revert i; decide

theorem mem_groups (g : Group) : g ∈ groups := by cases g <;> decide

/-- The groups a write to NOTICE clears, by their bits. -/
theorem cleared_any (v : Word) (s : State) (i : Fin 10) :
    (groups.filter fun g => v.getLsbD g.index.val && isPending s g).any (·.index == i) =
      (v.getLsbD i.val && s.port.notice.getLsbD i.val) := by
  rw [Bool.eq_iff_iff, List.any_eq_true]
  constructor
  · rintro ⟨g, hg, hi⟩
    have := (List.mem_filter.1 hg).2
    rw [beq_iff_eq] at hi
    rwa [isPending, hi] at this
  · intro h
    obtain ⟨g, hg, rfl⟩ := exists_group i
    exact ⟨g, List.mem_filter.2 ⟨hg, h⟩, by simp⟩

theorem cleared_port (v : Word) (s : State) :
    .port ∈ (groups.filter fun g => v.getLsbD g.index.val && isPending s g) ↔
      v.getLsbD 9 = true ∧ s.port.notice.getLsbD 9 = true := by
  rw [List.mem_filter, Bool.and_eq_true]
  exact and_iff_right (mem_groups .port)

/-! ### Registers (R21, R22, R25) -/

theorem store_control (v : Word) (u : State) : store 0x1001 v u = controlWrite v u := by
  rw [store_from_scenes _ _ _ (by decide)]; rfl

theorem store_notice (v : Word) (u : State) : store 0x1002 v u = clearGroups v groups u := by
  rw [store_from_scenes _ _ _ (by decide)]; rfl

theorem store_mask (v : Word) (u : State) : store 0x1003 v u = maskWrite v u := by
  rw [store_from_scenes _ _ _ (by decide)]; rfl

/-- Settles O20. -/
theorem registerWritesAct : Obligations.RegisterWritesAct := by
  refine ⟨?_, ?_⟩ <;> intro s v hr u
  · refine ⟨fun hv => ?_, ?_⟩
    · have h : (hostWrite 0x1001 v s).sansDigest = (controlWrite v u).sansDigest := by
        rw [hostWrite_sansDigest hr (requestsRestart_of_clear hv), store_control]
      exact ⟨⟨_, rfl, h⟩, ⟨_, rfl, h⟩⟩
    · have h : (hostWrite 0x1003 v s).sansDigest = (maskWrite v u).sansDigest := by
        rw [hostWrite_sansDigest hr (requestsRestart_of_ne (by decide)), store_mask]
      exact ⟨_, rfl, h⟩
  · generalize hl : (groups.filter fun g => v.getLsbD g.index.val && isPending u g) = l
    have h : (hostWrite 0x1002 v s).sansDigest = (dropGroups l u).sansDigest := by
      rw [hostWrite_sansDigest hr (requestsRestart_of_ne (by decide)), store_notice, ← clearPending_sansDigest, ← hl]
      rfl
    have hport : (hostWrite 0x1002 v s).port = (dropGroups l u).port := (congrArg State.port h :)
    refine ⟨_, rfl, ?_, fun g => ?_, ?_, ?_⟩
    · refine BitVec.eq_of_getLsbD_eq fun i hi => ?_
      have hn := dropGroups_notice l ⟨i, hi⟩ u
      rw [← hl, cleared_any, hl] at hn
      rw [hport, hn, BitVec.getLsbD_and, BitVec.getLsbD_not, BitVec.getLsbD_setWidth]
      cases v.getLsbD i <;> cases u.port.notice.getLsbD i <;> simp [hi]
    · rw [hport, dropGroups_causes, ← hl, cleared_any]
      simp only [Bool.and_eq_true]
    · rw [hport, dropGroups_capture, ← hl]
      simp only [cleared_port]
    · obtain ⟨h1, h2, h3, h4⟩ := dropGroups_kept l u
      refine ⟨hport ▸ h1, hport ▸ h2, hport ▸ h3, hport ▸ h4, ?_⟩
      have hout : { hostWrite 0x1002 v s with port := u.port }.sansDigest = { dropGroups l u with port := u.port }.sansDigest :=
        (congrArg (fun x : State => { x with port := u.port }) h :)
      rw [hout, dropGroups_outside]

/-! ### Slots given back (R7, R23) -/

theorem clearGroup_sansDigest (g : Group) (s : State) :
    (clearGroup g s).sansDigest = (if isPending s g then dropGroup g s else s).sansDigest := by
  unfold clearGroup
  rw [clearPending_sansDigest]
  cases h : isPending s g <;> simp [h, dropGroups]

theorem finishedSlot_iff (s : State) (m : Fin 32) : finishedSlot s m = true ↔ slotState s m = .done ∨ slotState s m = .failed := by
  simp [finishedSlot]

/-- No slot but `n`, which is EMPTY, is finished. -/
theorem no_finishedSlot_iff (hw : Mem.Wf 0 u.ram.slots) (n : Fin 32) :
    (List.finRange 32).any (finishedSlot (setSlotState n .empty u)) = false ↔
      ∀ m, m ≠ n → slotState u m ≠ .done ∧ slotState u m ≠ .failed := by
  rw [List.any_eq_false]
  refine ⟨fun h m hm => ?_, fun h m _ => ?_⟩
  · have := h m (List.mem_finRange m)
    rw [finishedSlot_iff, slotState_setSlotState hw, if_neg hm, not_or] at this
    exact this
  · rw [finishedSlot_iff, slotState_setSlotState hw]
    by_cases hm : m = n
    · simp [hm]
    · rw [if_neg hm, not_or]
      exact h m hm

theorem giveBack_sansDigest (hw : Mem.Wf 0 u.ram.slots) (n : Fin 32) : (giveBack n u).sansDigest = ({ u with
    ram := { u.ram with slots := Mem.write 0 u.ram.slots (16 * n.val) 0 }
    port :=
      if u.port.autoClr = true ∧ u.port.notice.getLsbD 1 = true ∧ ∀ m, m ≠ n → slotState u m ≠ .done ∧ slotState u m ≠ .failed then
        { u.port with notice := u.port.notice &&& 0x3FD, causes := u.port.causes.set 1 0 }
      else u.port } : State).sansDigest := by
  have hany := no_finishedSlot_iff hw n
  have hcond : (u.port.autoClr && !(List.finRange 32).any (finishedSlot (setSlotState n .empty u))) = true ↔
      u.port.autoClr = true ∧ ∀ m, m ≠ n → slotState u m ≠ .done ∧ slotState u m ≠ .failed := by
    rw [Bool.and_eq_true, Bool.not_eq_true', hany]
  have hport : (setSlotState n .empty u).port = u.port := rfl
  unfold giveBack
  simp only [hport]
  by_cases hc : u.port.autoClr = true ∧ ∀ m, m ≠ n → slotState u m ≠ .done ∧ slotState u m ≠ .failed
  · rw [if_pos (hcond.2 hc), clearGroup_sansDigest]
    by_cases hp : u.port.notice.getLsbD 1 = true
    · rw [if_pos (show isPending (setSlotState n .empty u) .orders = true from hp), if_pos ⟨hc.1, hp, hc.2⟩]
      rfl
    · rw [if_neg (show ¬ isPending (setSlotState n .empty u) .orders = true from hp), if_neg (fun h => hp h.2.1)]
      rfl
  · rw [if_neg (mt hcond.1 hc), if_neg (fun h => hc ⟨h.1, h.2.2⟩)]
    rfl

/-- Settles O17. -/
theorem finishedSlotIsGivenBack : Obligations.FinishedSlotIsGivenBack := by
  intro s n hr u hw hn
  refine ⟨⟨_, rfl, (stateWord_sansDigest hr).trans ?_⟩, ⟨_, rfl, (stateWord_sansDigest hr).trans ?_⟩⟩
  · exact congrArg State.sansDigest (stateWrite_cancelLate u _ hn)
  · exact (congrArg State.sansDigest (stateWrite_giveBack u _ hn)).trans (giveBack_sansDigest hw.1 n)

end Sys2Proof.Machine
end

section
/-!
SUPPORT. Writes to the scene table, the staging area, the window, and to addresses that take none.
-/
namespace Sys2Proof.Machine

variable {s t u : State} {n : Fin 32}

section
variable (a : BitVec 13) (v : Word) (u : State)

theorem store_scene (n : Fin 32) {i : Nat} (hi : i < 16) : store (sceneAddr n i) v u =
    invalidate n { u with ram := { u.ram with scenes := Mem.write 0 u.ram.scenes (0x400 + 16 * n.val + i) v } } := by
  have ha := sceneAddr_toNat n hi
  have hn : Fin.ofNat 32 ((0x400 + 16 * n.val + i - Config.sceneBase) / 16) = n := by
    have : Config.sceneBase = 0x400 := rfl
    exact Fin.ext (by simp only [Fin.val_ofNat]; omega)
  rw [store_from_scenes _ _ _ (by omega), if_pos (by omega), ha, sceneStore, hn]

theorem store_staging (h : 0x600 ≤ a.toNat) (h' : a.toNat < 0x700) : store a v u = stagingStore a.toNat v u := by
  rw [store_from_scenes _ _ _ (by omega), if_neg (by omega), if_pos h']

theorem store_window (h : 0x800 ≤ a.toNat) (h' : a.toNat < 0x1000) : store a v u = windowStore a.toNat v u := by
  rw [store_from_scenes _ _ _ (by omega), if_neg (by omega), if_neg (by omega), if_neg (by omega), if_pos h']

theorem store_unmapped (h : (0x700 ≤ a.toNat ∧ a.toNat < 0x800) ∨ 0x1006 ≤ a.toNat) : store a v u = portFault .unmapped a u := by
  rw [store_from_scenes _ _ _ (by omega), if_neg (by omega), if_neg (by omega)]
  rcases h with ⟨h, h'⟩ | h
  · rw [if_pos h']
  · rw [if_neg (by omega), if_neg (by omega), if_neg (by omega), if_neg (by omega), if_neg (by omega), if_neg (by omega)]

theorem store_readOnly (h : a = 0x1000 ∨ a = 0x1004 ∨ a = 0x1005) : store a v u = portFault .readOnly a u := by
  rcases h with rfl | rfl | rfl <;> rw [store_from_scenes _ _ _ (by decide)] <;> rfl

end

/-! ### The cache of scenes (R170) -/

theorem invalidate_outside (n : Fin 32) (s : State) (c : Vector CacheEntry 8) :
    { invalidate n s with lights := { (invalidate n s).lights with cache := c } } = { s with lights := { s.lights with cache := c } } := by
  unfold invalidate
  split <;> rfl

theorem invalidate_ram (n : Fin 32) (s : State) : (invalidate n s).ram = s.ram := by
  unfold invalidate
  split <;> rfl

theorem cacheEntry_invalidate (n : Fin 32) (s : State) (k : Fin 8) : cacheEntry (invalidate n s) k =
    if cacheOf s n = some k then { cacheEntry s k with valid := false } else cacheEntry s k := by
  unfold invalidate
  split
  · next j hj =>
    rw [hj]
    by_cases h : j = k
    · subst h
      simp [cacheEntry]
    · have hne : j.val ≠ k.val := fun e => h (Fin.ext e)
      simp [cacheEntry, Vector.getElem_set_ne, hne, h]
  · next hj => simp [hj]

theorem ne_control_of_toNat {a : BitVec 13} (h : a.toNat ≠ 0x1001) : a ≠ 0x1001 := fun e => h (e ▸ rfl)

/-- What a write to a word outside the slots and the registers leaves, by what it stores. -/
theorem regionWrite_sansDigest {a : BitVec 13} {v : Word} (hr : s.pins.reset = false) (ha : a.toNat ≠ 0x1001) {w : State}
    (h : store a v (access s) = w) : (hostWrite a v s).sansDigest = w.sansDigest := by
  rw [hostWrite_sansDigest hr (requestsRestart_of_ne (ne_control_of_toNat ha)), h]

theorem sceneWrite_eq (n : Fin 32) (i : Fin 16) (v : Word) (hr : s.pins.reset = false) : ∃ d, hostWrite (sceneAddr n i.val) v s =
    (let w := invalidate n { access s with ram := { (access s).ram with
        scenes := Mem.write 0 (access s).ram.scenes (0x400 + 16 * n.val + i.val) v } }
     { w with ram := { w.ram with digest := d } }) := by
  have h := hostWrite_eq (v := v) hr (requestsRestart_of_ne (sceneAddr_ne n i.isLt))
  rwa [store_scene _ _ n i.isLt] at h

/-- Settles O19. -/
theorem writesAreHandledByRegion : Obligations.WritesAreHandledByRegion := by
  intro s hr u
  refine ⟨fun n i v => ?_, fun a v h h' => ⟨_, rfl, ?_⟩, fun a v h h' => ⟨_, rfl, ?_⟩, fun a v h h' => ⟨_, rfl, ?_⟩,
    fun a v h => ⟨_, rfl, ?_⟩, fun a v h => ⟨_, rfl, ?_⟩⟩
  · obtain ⟨d, hd⟩ := sceneWrite_eq n i v hr
    have hexec : exec (.sceneWrite n i v) s = .next (hostWrite (sceneAddr n i.val) v s) := rfl
    have hu : access s = u := rfl
    rw [hu] at hd
    clear_value u
    refine ⟨_, hexec.trans (congrArg _ hd), ?_, fun k => ?_, ?_⟩
    · exact congrArg Ram.scenes (invalidate_ram n _)
    · exact cacheEntry_invalidate n _ k
    · have hout := invalidate_outside n { u with ram := { u.ram with
        scenes := Mem.write 0 u.ram.scenes (0x400 + 16 * n.val + i.val) v } } u.lights.cache
      exact (congrArg (fun x : State => ({ x with ram := { x.ram with scenes := [] } } : State).sansDigest) hout :)
  · exact regionWrite_sansDigest hr (by omega) (store_staging a v u h h')
  · exact regionWrite_sansDigest hr (by omega) (store_window a v u h h')
  · rw [regionWrite_sansDigest hr (by omega) (store_digest a v u h h')]
    exact portFault_sansDigest _ _ u
  · rw [regionWrite_sansDigest hr (by omega) (store_unmapped a v u h)]
    exact portFault_sansDigest _ _ u
  · have ha : a.toNat ≠ 0x1001 := by rcases h with rfl | rfl | rfl <;> decide
    rw [regionWrite_sansDigest hr ha (store_readOnly a v u h)]
    exact portFault_sansDigest _ _ u

end Sys2Proof.Machine
end

section
/-!
SUPPORT. What RESET, its release and a power-on leave of the blocks, the outlets, the settings and the slots.
-/
namespace Sys2Proof.Machine

variable {s t u : State} {n : Fin 32}

/-! ### Outlets through a start -/

theorem outlet_setOutlet (o q : Fin 16) (x : Outlet) (s : State) : outlet (setOutlet o x s) q = if q = o then x else outlet s q := by
  unfold outlet setOutlet
  by_cases h : q = o
  · subst h; simp
  · have hne : o.val ≠ q.val := fun e => h (Fin.ext e.symm)
    simp [h, Vector.getElem_set_ne, hne]

/-- Outlet `q` differs in its held flag at most. -/
def SameButHeld (s t : State) (q : Fin 16) : Prop := ∃ b, outlet t q = { outlet s q with held := b }

theorem SameButHeld.trans {q : Fin 16} (h : SameButHeld s t q) (g : SameButHeld t u q) : SameButHeld s u q := by
  obtain ⟨b, hb⟩ := h
  obtain ⟨c, hc⟩ := g
  exact ⟨c, by rw [hc, hb]⟩

theorem SameButHeld.of_outlets {q : Fin 16} (h : t.outlets.table = s.outlets.table) : SameButHeld s t q :=
  ⟨(outlet s q).held, by unfold outlet; rw [h]⟩

theorem setHeld_sameButHeld (o : Fin 16) (b : Bool) (s : State) (q : Fin 16) : SameButHeld s (setHeld o b s) q := by
  unfold SameButHeld setHeld
  rw [outlet_setOutlet]
  by_cases h : q = o
  · subst h
    exact ⟨b, if_pos rfl⟩
  · exact ⟨(outlet s q).held, if_neg h⟩

section
variable (k : StartKind) (s : State) (q : Fin 16)

theorem startCharge_sameButHeld : SameButHeld s (startCharge k s) q := .of_outlets rfl

theorem startWater_sameButHeld : SameButHeld s (startWater k s) q := by
  unfold startWater
  exact SameButHeld.trans (.of_outlets rfl) (setHeld_sameButHeld _ _ _ _)

theorem seqFlags_sameButHeld : SameButHeld s (seqFlags s) q := by
  unfold seqFlags
  exact SameButHeld.trans (setHeld_sameButHeld _ _ _ _) (.of_outlets rfl)

theorem startClimate_sameButHeld : SameButHeld s (startClimate k s) q := by
  unfold startClimate
  exact SameButHeld.trans (.of_outlets rfl) (seqFlags_sameButHeld _ q)

theorem startBlocks_sameButHeld : SameButHeld s (startBlocks k s) q := by
  have hbase : SameButHeld s (startBase k s) q := .of_outlets rfl
  have hlast : SameButHeld (startClimate k (startWater k (startCharge k (startBase k s)))) (startBlocks k s) q :=
    .of_outlets (congrArg Outlets.table (startBlocks_outlets k s))
  exact hbase.trans ((startCharge_sameButHeld k _ q).trans ((startWater_sameButHeld k _ q).trans
    ((startClimate_sameButHeld k _ q).trans hlast)))

/-! ### The blocks at a start -/

theorem startBlocks_evaluated : (startBlocks k s).interlock.evaluated = false := by rw [startBlocks_eq]; rfl

theorem startInterlock_effects : activeEffects (startInterlock s) = [] := by
  have hterms : ((startInterlock s).interlock.terms.filter (·.active)) = [] := by
    rw [List.filter_eq_nil_iff]
    intro t ht
    obtain ⟨r, -, rfl⟩ := List.mem_map.1 ht
    simp
  unfold activeEffects
  rw [hterms]
  rfl

theorem startBlocks_effects : activeEffects (startBlocks k s) = [] := by rw [startBlocks_eq]; exact startInterlock_effects _

theorem startCharge_tally : (startCharge k s).charge.tally = startTally k s := rfl

theorem startBlocks_tally : (startBlocks k s).charge.tally = startTally k s := by
  rw [startBlocks_charge, startCharge_tally]
  rfl

theorem startTally_powerOn : (startTally .powerOn s).charge = (startTally .powerOn s).capacity / 2 ∧
    (startTally .powerOn s).synced = false := ⟨rfl, rfl⟩

theorem startTally_restart : (startTally .restart s).synced =
    (decide (s.retained.charge ≤ (startTally .restart s).capacity) && s.retained.synced) := by
  unfold startTally
  simp only
  split
  · next h => simp [Nat.not_le.2 h]
  · next h => simp [Nat.not_lt.1 h]

theorem startBlocks_seq_powerOn : (seq (startBlocks .powerOn s)).state = .off := by
  unfold seq
  rw [startBlocks_climate, startClimate, seqFlags]
  simp

theorem startBlocks_latch_powerOn : (startBlocks .powerOn s).water.frost.latch = false := by
  rw [startBlocks_water, startWater]
  simp [setLatch, setFrost]

end

/-! ### RESET asserted -/

theorem outlet_resetBase (d : Bool) (s : State) (o : Fin 16) : outlet (resetBase d s) o = restartOutlet o (outlet s o) := by
  show (Vector.ofFn fun o => restartOutlet o (outlet s o))[o] = _
  simp

/-- What the blocks start from at an assertion of RESET. -/
theorem resetBase_eq (d : Bool) (s : State) : (startBase .restart (resetBase d s)).pins = { s.pins with reset := true } ∧
    (startBase .restart (resetBase d s)).disp = {} ∧ (startBase .restart (resetBase d s)).port = { bus := s.port.bus } ∧
    (startBase .restart (resetBase d s)).ram.slots = s.ram.slots ∧ (startBase .restart (resetBase d s)).ram.scenes = s.ram.scenes ∧
    (startBase .restart (resetBase d s)).ram.staging = s.ram.staging ∧
    (startBase .restart (resetBase d s)).ram.window = s.ram.window ∧
    (startBase .restart (resetBase d s)).store.flash = s.store.flash ∧ (startBase .restart (resetBase d s)).store.slot = none ∧
    (startBase .restart (resetBase d s)).time = 0 ∧ (startBase .restart (resetBase d s)).lights = {} ∧
    (startBase .restart (resetBase d s)).link = {} := by
  simp only [startBase, resetBase, tearDigest, restartOutlets, and_self]

/-- Settles O22. -/
theorem resetAssertStopsTheBlocks : Obligations.ResetAssertStopsTheBlocks := by
  intro s d
  have hexec : exec (.resetAssert d) s = .next (if s.pins.reset then s else resetAssert d s) := rfl
  refine ⟨fun hr => hexec.trans (by rw [if_pos hr]), fun hr => ⟨_, hexec.trans (by rw [if_neg (by simp [hr])]), ?_⟩⟩
  have frame := startBlocks_frame .restart (resetBase d s)
  have hpower := startBlocks_power .restart (resetBase d s)
  have hfill := startBlocks_fill .restart (resetBase d s)
  have hmove := startBlocks_move .restart (resetBase d s)
  have howner := startBlocks_owner .restart (resetBase d s)
  have heval := startBlocks_evaluated .restart (resetBase d s)
  have heffects := startBlocks_effects .restart (resetBase d s)
  have houtlets := startBlocks_sameButHeld .restart (resetBase d s)
  unfold resetAssert
  obtain ⟨bpins, bdisp, bport, bslots, bscenes, bstaging, bwindow, bflash, bslot, btime, blights, blink⟩ := resetBase_eq d s
  generalize startBlocks .restart (resetBase d s) = b at *
  generalize startBase .restart (resetBase d s) = x at *
  obtain ⟨hram, hport, hdisp, hpins, hstore, -, -, -, htime, -, hlights, hlink⟩ := frame
  refine ⟨hpins.trans bpins, hpower, hdisp.trans bdisp, hport.trans bport, (congrArg Ram.slots hram).trans bslots,
    (congrArg Ram.scenes hram).trans bscenes, (congrArg Ram.staging hram).trans bstaging,
    (congrArg Ram.window hram).trans bwindow, (congrArg Store.flash hstore).trans bflash, (congrArg Store.slot hstore).trans bslot,
    rfl, htime.trans btime, hlights.trans blights, hlink.trans blink, hfill, hmove .awning, hmove .step, howner, heval, heffects,
    fun o => ?_⟩
  obtain ⟨h, hb⟩ := houtlets o
  have ho : outlet ({ b with retained := s.retained } : State) o = { restartOutlet o (outlet s o) with held := h } := by
    rw [← outlet_resetBase d, ← hb]
    rfl
  have hheld : isHeld o (outlet s o) = true ↔ (o = 1 ∨ o = 2) ∧ (outlet s o).held = true ∧ (outlet s o).state = .on := by
    simp [isHeld, and_assoc]
  rw [ho]
  unfold restartOutlet
  by_cases hc : (o = 1 ∨ o = 2) ∧ (outlet s o).held = true ∧ (outlet s o).state = .on
  · rw [if_pos hc, if_pos (hheld.2 hc)]
    exact ⟨hc.2.2, rfl, rfl⟩
  · rw [if_neg hc, if_neg (mt hheld.1 hc)]
    exact ⟨rfl, rfl, rfl⟩

/-! ### Power-on -/

/-- Settles O24. -/
theorem powerOnClears : Obligations.PowerOnClears := by
  intro s
  have hexec : exec .powerOn s = .next (powerOn s) := rfl
  refine ⟨_, hexec, ?_⟩
  rw [powerOn]
  generalize hx : settlePins (loadSettings (powerOnBase s)) = x
  have hram : x.ram = {} := by rw [← hx]; rfl
  have hport : x.port = {} := by rw [← hx]; rfl
  have hdisp : x.disp = {} := by rw [← hx]; rfl
  have hpins : x.pins.reset = false := by rw [← hx]; rfl
  have hflash : x.store.flash = s.store.flash := by rw [← hx]; rfl
  have hpending : x.pending = s.pending := by rw [← hx]; rfl
  have houtlet : ∀ o, outlet x o = {} := fun o => by
    rw [← hx]
    show (Vector.replicate 16 ({} : Outlet))[o] = {}
    simp
  have frame := startBlocks_frame .powerOn x
  have htally := startTally_powerOn x
  rw [← startBlocks_tally] at htally
  have hpower := startBlocks_power .powerOn x
  have hseq := startBlocks_seq_powerOn x
  have hmove := startBlocks_move .powerOn x
  have hlatch := startBlocks_latch_powerOn x
  have hheld := startBlocks_sameButHeld .powerOn x
  generalize startBlocks .powerOn x = b at *
  refine ⟨frame.ram.trans hram, frame.port.trans hport, frame.disp.trans hdisp, (congrArg Pins.reset frame.pins).trans hpins, hpower,
    frame.time, frame.start, (congrArg Store.flash frame.store).trans hflash, frame.pending.trans hpending, htally.1, htally.2,
    fun o => ?_, hseq, hmove .awning, hmove .step, hlatch⟩
  obtain ⟨h, hb⟩ := hheld o
  rw [hb, houtlet]
  exact ⟨rfl, rfl, rfl⟩

/-! ### RESET released -/

theorem sweepSlots_keeps_noticed (l : List (Fin 32)) (k : Nat) :
    ∀ s : State, Noticed s .orders k → Noticed (sweepSlots l s) .orders k := by
  induction l with
  | nil => exact fun _ h => h
  | cons m l ih =>
    refine fun s h => ih _ ?_
    unfold sweepSlot
    split
    · have hw : Noticed (writeFinish m { outcome := .restart } 0 s) .orders k := h
      exact hw.markNotice .orders (bit m.val)
    · exact h

theorem sweepSlot_noticed (h : isSwept s n = true) : Noticed (sweepSlot n s) .orders n.val := by
  unfold sweepSlot
  rw [if_pos h]
  refine ⟨markNotice_notice .orders _ _, ?_⟩
  rw [markNotice_causes, BitVec.getLsbD_or, bit_getLsbD, Bool.or_true]

theorem sweepSlots_noticed (l : List (Fin 32)) : ∀ {s : State}, Mem.Wf 0 s.ram.slots → n ∈ l → isSwept s n = true →
    Noticed (sweepSlots l s) .orders n.val := by
  induction l with
  | nil => exact fun _ h => absurd h (by simp)
  | cons m l ih =>
    intro s hw hn hs
    by_cases e : n = m
    · subst e
      exact sweepSlots_keeps_noticed l n.val _ (sweepSlot_noticed hs)
    · exact ih (sweepSlot_wf m hw) (by simpa [e] using hn) (by rw [isSwept_sweepSlot hw]; simp [hs, e])

theorem sweep_port (s : State) : (sweep s).port = (sweepSlots (List.finRange 32) s).port := by
  unfold sweep
  generalize List.finRange 32 = l
  simp only
  split <;> rfl

/-- R27: a swept slot is noticed. -/
theorem sweep_noticed (hw : Mem.Wf 0 s.ram.slots) (h : isSwept s n = true) : Noticed (sweep s) .orders n.val := by
  have hn := sweepSlots_noticed (List.finRange 32) hw (List.mem_finRange n) h
  unfold Noticed at hn ⊢
  rwa [sweep_port]

theorem isSwept_iff (s : State) (n : Fin 32) :
    isSwept s n = true ↔ slotState s n = .posted ∨ slotState s n = .taken ∨ slotState s n = .cancel := by
  unfold isSwept
  cases slotState s n <;> simp

/-- The words of a swept slot (R27). -/
theorem slotWord_sweep_swept (hw : Mem.Wf 0 s.ram.slots) (h : isSwept s n = true) :
    slotWord (sweep s) n 0 = 5 ∧ slotWord (sweep s) n 11 = 23 ∧ slotWord (sweep s) n 12 = 0 ∧ slotWord (sweep s) n 13 = 0 ∧
      slotWord (sweep s) n 14 = 0 ∧ slotWord (sweep s) n 15 = 0 := by
  have hword : ∀ j v, j < 16 → finishWord { outcome := .restart } 0 j = some v → slotWord (sweep s) n j = v := fun j v hj e => by
    rw [slotWord_sweep hw n j hj, if_pos h, e]
    rfl
  exact ⟨hword 0 _ (by omega) rfl, hword 11 _ (by omega) rfl, hword 12 _ (by omega) rfl, hword 13 _ (by omega) rfl,
    hword 14 _ (by omega) rfl, hword 15 _ (by omega) rfl⟩

theorem slotWord_sweep_kept (hw : Mem.Wf 0 s.ram.slots) (h : ¬ isSwept s n = true) {i : Nat} (hi : i < 16) :
    slotWord (sweep s) n i = slotWord s n i := by
  rw [slotWord_sweep hw n i hi, if_neg h]

/-- The state a release sweeps: RESET is off, and part time begins anew for the outlets that were held. -/
def releaseStart (s : State) : State := freshSeconds { s with pins := { s.pins with reset := false } }

theorem releaseBase_eq_sweep (s : State) : releaseBase s = settlePins (loadSettings (sweep (releaseStart s))) := rfl

theorem outlet_releaseStart (o : Fin 16) : outlet (releaseStart s) o = freshSecond (outlet s o) := by
  show (s.outlets.table.map freshSecond)[o] = _
  simp [outlet]

/-- The sector's settings are loaded (R186). -/
theorem settlePins_loadSettings_store (s : State) : (settlePins (loadSettings s)).store.result = Image.judge (flashImage s.store.flash) ∧
    ((settlePins (loadSettings s)).store.result = .valid →
      (settlePins (loadSettings s)).store.active = flashImage s.store.flash ∧ (settlePins (loadSettings s)).store.defaults = false) ∧
    ((settlePins (loadSettings s)).store.result ≠ .valid →
      (settlePins (loadSettings s)).store.active = Image.default ∧ (settlePins (loadSettings s)).store.defaults = true) := by
  unfold settlePins loadSettings
  generalize flashImage s.store.flash = i
  refine ⟨rfl, fun h => ⟨if_pos h, ?_⟩, fun h => ⟨if_neg h, ?_⟩⟩
  · have h : Image.judge i = .valid := h
    simp [h]
  · have h : Image.judge i ≠ .valid := h
    simp [h]

theorem settlePins_loadSettings_outside (s : State) : (settlePins (loadSettings s)).pins.reset = s.pins.reset ∧
    (settlePins (loadSettings s)).port = s.port ∧ (settlePins (loadSettings s)).retained = s.retained ∧
    (settlePins (loadSettings s)).outlets = s.outlets := ⟨rfl, rfl, rfl, rfl⟩

theorem sweep_outside (s : State) : (sweep s).pins = s.pins ∧ (sweep s).store = s.store ∧ (sweep s).retained = s.retained ∧
    (sweep s).outlets = s.outlets := by
  have h := sweep_sansOrders s
  exact ⟨(congrArg State.pins h :), (congrArg State.store h :), (congrArg State.retained h :), (congrArg State.outlets h :)⟩

/-- The sweep raises notices alone of what the port holds. -/
theorem sweep_registers (s : State) : (sweep s).port.attnEn = s.port.attnEn ∧ (sweep s).port.autoClr = s.port.autoClr ∧
    (sweep s).port.mask = s.port.mask := by
  have h := sweep_sansOrders s
  exact ⟨(congrArg (fun x : State => x.port.attnEn) h :), (congrArg (fun x : State => x.port.autoClr) h :),
    (congrArg (fun x : State => x.port.mask) h :)⟩

/-- What a release leaves of RESET, the registers and the dispatcher. -/
theorem resetRelease_outside (s : State) : (resetRelease s).pins.reset = false ∧ (resetRelease s).port.attnEn = s.port.attnEn ∧
    (resetRelease s).port.autoClr = s.port.autoClr ∧ (resetRelease s).port.mask = s.port.mask ∧ (resetRelease s).disp = s.disp := by
  have xpins : (releaseStart s).pins.reset = false := rfl
  have xport : (releaseStart s).port = s.port := rfl
  have xdisp : (releaseStart s).disp = s.disp := rfl
  rw [resetRelease_eq, releaseBase_eq_sweep]
  generalize releaseStart s = x at *
  obtain ⟨wpins, -, -, -⟩ := sweep_outside x
  obtain ⟨wattn, wauto, wmask⟩ := sweep_registers x
  have wdisp := sweep_disp x
  obtain ⟨ypins, yport, -, -⟩ := settlePins_loadSettings_outside (sweep x)
  have ydisp := settlePins_loadSettings_disp (sweep x)
  generalize settlePins (loadSettings (sweep x)) = y at *
  have frame := startBlocks_frame .restart y
  generalize startBlocks .restart y = t at *
  have tport : t.port = (sweep x).port := frame.port.trans yport
  refine ⟨?_, ?_, ?_, ?_, ?_⟩
  · rw [frame.pins]
    exact ypins.trans ((congrArg Pins.reset wpins).trans xpins)
  · rw [tport, wattn, xport]
  · rw [tport, wauto, xport]
  · rw [tport, wmask, xport]
  · rw [frame.disp]
    exact ydisp.trans (wdisp.trans xdisp)

theorem resetAssert_port (d : Bool) (s : State) : (resetAssert d s).port = { bus := s.port.bus } := by
  rw [resetAssert]; exact (startBlocks_frame .restart (resetBase d s)).port

/-- Settles O23. -/
theorem resetReleaseSweepsAndLoads : Obligations.ResetReleaseSweepsAndLoads := by
  intro s
  have hexec : exec .resetRelease s = .next (if s.pins.reset then resetRelease s else s) := rfl
  refine ⟨fun hr => hexec.trans (by rw [if_neg (by simp [hr])]), fun hr hw => ⟨resetRelease s, hexec.trans (by rw [if_pos hr]), ?_⟩⟩
  rw [resetRelease_eq, releaseBase_eq_sweep]
  have xslots : (releaseStart s).ram.slots = s.ram.slots := rfl
  have xpins : (releaseStart s).pins.reset = false := rfl
  have xflash : (releaseStart s).store.flash = s.store.flash := rfl
  have xretained : (releaseStart s).retained = s.retained := rfl
  have xoutlet : ∀ o, outlet (releaseStart s) o = freshSecond (outlet s o) := fun o => outlet_releaseStart o
  have xw : Mem.Wf 0 (releaseStart s).ram.slots := hw.1
  generalize releaseStart s = x at *
  obtain ⟨wpins, wstore, wretained, woutlets⟩ := sweep_outside x
  have yram := settlePins_loadSettings_ram (sweep x)
  obtain ⟨ypins, yport, yretained, youtlets⟩ := settlePins_loadSettings_outside (sweep x)
  obtain ⟨yresult, yvalid, yinvalid⟩ := settlePins_loadSettings_store (sweep x)
  rw [wstore, xflash] at yresult yvalid
  generalize settlePins (loadSettings (sweep x)) = y at *
  have frame := startBlocks_frame .restart y
  have hpower := startBlocks_power .restart y
  have htally := startBlocks_tally .restart y
  have hsynced := startTally_restart y
  have hheld := startBlocks_sameButHeld .restart y
  generalize startBlocks .restart y = t at *
  have tstore : t.store = y.store := frame.store
  have tslots : t.ram.slots = (sweep x).ram.slots := congrArg Ram.slots (frame.ram.trans yram)
  have tport : t.port = (sweep x).port := frame.port.trans yport
  have tword : ∀ n i, slotWord t n i = slotWord (sweep x) n i := slotWord_congr tslots
  have xstate : ∀ n, slotState x n = slotState s n := slotState_congr xslots
  refine ⟨?_, hpower, frame.time, frame.start, fun n => ?_, ?_, ?_, ?_, ?_, fun o ho => ?_⟩
  · rw [frame.pins]
    exact ypins.trans ((congrArg Pins.reset wpins).trans xpins)
  · have hn := isSwept_iff x n
    rw [xstate] at hn
    by_cases hc : slotState s n = .posted ∨ slotState s n = .taken ∨ slotState s n = .cancel
    · rw [if_pos hc]
      obtain ⟨h0, h11, h12, h13, h14, h15⟩ := slotWord_sweep_swept xw (hn.2 hc)
      obtain ⟨hnotice, hcause⟩ := sweep_noticed xw (hn.2 hc)
      simp only [tword, tport]
      exact ⟨h0, h11, h12, h13, h14, h15, hnotice, hcause⟩
    · rw [if_neg hc]
      intro i hi
      rw [tword, slotWord_sweep_kept xw (mt hn.1 hc) hi, slotWord_congr xslots]
  · rw [tstore]; exact yresult
  · rw [tstore]; exact yvalid
  · rw [tstore]; exact yinvalid
  · rw [htally, hsynced, yretained, wretained, xretained]
  · obtain ⟨b, hb⟩ := hheld o
    have hy : outlet y o = freshSecond (outlet s o) := by
      rw [← xoutlet, outlet, outlet, youtlets, woutlets]
    rw [hb, hy, freshSecond, if_pos ho]
    exact ⟨ho, rfl, rfl, rfl, rfl⟩

/-- Settles O21. -/
theorem restartIsReset : Obligations.RestartIsReset := by
  intro s v hr hv
  generalize hx : ({ s with restarts := s.restarts + 1 } : State) = x
  have xr : x.pins.reset = false := by rw [← hx]; exact hr
  have hassert : exec (.resetAssert (Config.restartCutsUpdate s.restarts)) x =
      .next (resetAssert (Config.restartCutsUpdate s.restarts) x) :=
    (show exec (.resetAssert (Config.restartCutsUpdate s.restarts)) x = .next (if x.pins.reset then x else _) from rfl).trans
      (by rw [if_neg (by simp [xr])])
  have hwrite : exec (.restart v) s = .next (restart s) := by
    have hq : requestsRestart 0x1001 v = true := by simp [requestsRestart, hv]
    show Host.Outcome.next (hostWrite 0x1001 v s) = _
    rw [hostWrite, if_neg (by simp [hr]), if_pos hq]
  rw [restart, hx] at hwrite
  have upins := resetAssert_pins (Config.restartCutsUpdate s.restarts) x
  have uport := resetAssert_port (Config.restartCutsUpdate s.restarts) x
  have udisp := resetAssert_disp (Config.restartCutsUpdate s.restarts) x
  generalize resetAssert (Config.restartCutsUpdate s.restarts) x = u at *
  have ur : u.pins.reset = true := by rw [upins]
  have hrelease : exec .resetRelease u = .next (resetRelease u) :=
    (show exec .resetRelease u = .next (if u.pins.reset then resetRelease u else u) from rfl).trans (by rw [if_pos ur])
  obtain ⟨hreset, hattn, hauto, hmask, hdisp⟩ := resetRelease_outside u
  have hpower : (resetRelease u).charge.power = .starting := startBlocks_power .restart (releaseBase u)
  refine ⟨_, u, hassert, hrelease, hwrite, hreset, hpower, ?_, ?_, ?_, ?_⟩
  · rw [hattn, uport]
  · rw [hauto, uport]
  · rw [hmask, uport]
  · rw [hdisp, udisp]
    exact ⟨rfl, rfl, rfl⟩

end Sys2Proof.Machine
end

section
/-!
SUPPORT. The dispatch of orders: the slot taken, the rejections, the follower that is claimed.
-/
namespace Sys2Proof.Machine

variable {s t u : State} {n : Fin 32}

/-! ### The rows of the orders -/

/-- What the owner of an order of kind `k` does. -/
def bodyOf : Kind → Fin 32 → State → State
  | .chargeSet => chargeSet | .shedFloor => shedFloor | .restNow => restNow | .auxSet => auxSet | .tripClear => tripClear
  | .termsLoad => termsLoad | .pumpMode => pumpMode | .pumpReset => pumpReset | .fill => fill | .drainDump => drainDump
  | .drainClose => drainClose | .climateMode => climateMode | .zoneSet => zoneSet | .heaterClear => heaterClear | .move => move
  | .moverStop => moverStop | .sceneRecall => sceneRecall | .lightSet => lightSet | .settingsFetch => settingsFetch
  | .settingsStore => settingsStore

theorem exec_order {c : Instr} {k : Kind} (h : orderKind c = some k) (s : State) :
    exec c s = .next (inRun (dispatch k (bodyOf k)) s) := by
  cases c <;> cases h <;> rfl

theorem inRun_eq {f : State → State} (hb : blocksRun s = true) :
    ∃ d, inRun f s = { f s with ram := { (f s).ram with digest := d } } := by
  unfold inRun
  rw [if_pos hb]
  exact close_eq (f s)

theorem dispatch_eq {k : Kind} {body : Fin 32 → State → State} (hn : nextSlot s = some n) (hk : kindOf s n = some k) :
    dispatch k body s = dispatchSlot k body n (takeSlot n s) := by
  simp only [dispatch, hn, hk, if_true]

theorem dispatchBad_eq (hn : nextSlot s = some n) (hk : kindOf s n = none) :
    dispatchBad s = finish n { outcome := .badKind } (takeSlot n s) := by
  simp only [dispatchBad, hn, hk, if_true]

theorem badParam_takeSlot (k : Kind) (s : State) (n m : Fin 32) : badParam k (takeSlot n s) m = badParam k s m := by
  cases k <;> rfl

section
variable {k : Kind} {body : Fin 32 → State → State}

theorem dispatchSlot_badParam {i : Nat} (h : badParam k s n = some i) :
    dispatchSlot k body n s = finish n { outcome := .badParam, r0 := Word.nat i } s := by
  simp only [dispatchSlot, h]

theorem dispatchSlot_bad {r : Nat} (h : badParam k s n = none) (hf : followCheck s n = .bad r) :
    dispatchSlot k body n s = finish n { outcome := .chainInvalid, r0 := Word.nat r } s := by
  simp only [dispatchSlot, h, hf]

theorem dispatchSlot_claim {f : Fin 32} (h : badParam k s n = none) (hf : followCheck s n = .claim f) :
    dispatchSlot k body n s = body n (claimFollower n f s) := by
  simp only [dispatchSlot, h, hf]

end

/-! ### Rejections (R13, R14) -/

/-- A slot taken and finished at once. -/
theorem takenFinish_finished (hw : Mem.Wf 0 s.ram.slots) (n : Fin 32) (f : Finish) :
    Finished (finish n f (takeSlot n s)) n f ∧ (finish n f (takeSlot n s)).sansOrders = s.sansOrders :=
  ⟨finish_finished (s := takeSlot n s) hw (not_mem_held_dropHeld n _) f, by rw [finish_sansOrders, takeSlot_sansOrders]⟩

/-- The digest is no part of what an end leaves. -/
theorem rejected_of_eq {f : State → State} {x : Finish} (hw : Mem.Wf 0 s.ram.slots) (hb : blocksRun s = true)
    (h : f s = finish n x (takeSlot n s)) : Finished (inRun f s) n x ∧ (inRun f s).sansOrders = s.sansOrders := by
  obtain ⟨d, hd⟩ := inRun_eq (f := f) hb
  have hx := takenFinish_finished hw n x
  rw [hd, h]
  generalize finish n x (takeSlot n s) = w at hx ⊢
  exact hx

/-- Settles O27. -/
theorem dispatchRejectsBadOrders : Obligations.DispatchRejectsBadOrders := by
  intro s n hw hb hn
  refine ⟨fun hk => ⟨_, rfl, rejected_of_eq hw.1 hb (dispatchBad_eq hn hk)⟩, fun c k hc hk => ⟨fun i hi => ?_, fun hp r hr => ?_⟩⟩
  · have hbad : dispatch k (bodyOf k) s = finish n { outcome := .badParam, r0 := Word.nat i } (takeSlot n s) := by
      rw [dispatch_eq hn hk, dispatchSlot_badParam (by rw [badParam_takeSlot, hi])]
    exact ⟨_, exec_order hc s, rejected_of_eq hw.1 hb hbad⟩
  · have hbad : dispatch k (bodyOf k) s = finish n { outcome := .chainInvalid, r0 := Word.nat r } (takeSlot n s) := by
      rw [dispatch_eq hn hk, dispatchSlot_bad (by rw [badParam_takeSlot, hp]) hr]
    exact ⟨_, exec_order hc s, rejected_of_eq hw.1 hb hbad⟩

/-! ### The slot taken next (R12) -/

theorem earliest_eq_none {l : List Held} (h : ∀ x ∈ l, x.released = none) : earliest l = none := by
  induction l with
  | nil => rfl
  | cons x l ih =>
    rw [earliest, h x (List.mem_cons_self ..), ih fun y hy => h y (List.mem_cons_of_mem _ hy)]

/-- The earliest release is found, and none is earlier. -/
theorem exists_earliest {l : List Held} : ∀ {x : Held} {k : Nat}, x ∈ l → x.released = some k →
    ∃ q m, earliest l = some (q, m) ∧ q ≤ k := by
  induction l with
  | nil => exact fun h => absurd h (by simp)
  | cons y l ih =>
    intro x k hx hk
    unfold earliest
    rcases List.mem_cons.1 hx with rfl | hx
    · rw [hk]
      cases earliest l with
      | none => exact ⟨k, _, rfl, le_refl k⟩
      | some e =>
        obtain ⟨q, m⟩ := e
        by_cases hq : k ≤ q
        · exact ⟨k, _, if_pos hq, le_refl k⟩
        · exact ⟨q, m, if_neg hq, by omega⟩
    · obtain ⟨q, m, he, hq⟩ := ih hx hk
      rw [he]
      cases y.released with
      | none => exact ⟨q, m, rfl, hq⟩
      | some p =>
        by_cases hp : p ≤ q
        · exact ⟨p, _, if_pos hp, by omega⟩
        · exact ⟨q, m, if_neg hp, hq⟩

theorem nextSlot_of_unreleased (h : ∀ x ∈ s.disp.held, x.released = none) : nextSlot s = s.disp.intake.head? := by
  rw [nextSlot, earliest_eq_none h]

theorem nextSlot_of_released {x : Held} {k : Nat} (hx : x ∈ s.disp.held) (hk : x.released = some k)
    (hmin : ∀ y ∈ s.disp.held, ∀ j, y.released = some j → y.slot ≠ x.slot → k < j) : nextSlot s = some x.slot := by
  obtain ⟨q, m, he, hq⟩ := exists_earliest hx hk
  obtain ⟨y, hy, hm, hyq⟩ := slot_of_earliest he
  have hslot : m = x.slot := by
    by_contra hne
    exact absurd (hmin y hy q hyq (hm ▸ hne)) (by omega)
  rw [nextSlot, he, hslot]

/-! ### The slot leaves its collection -/

theorem claimFollower_drains (n f : Fin 32) (s : State) : Drains s (claimFollower n f s) :=
  ⟨id, rfl, fun _ h => by rwa [claimFollower_slots_held] at h⟩

theorem takeLong_drains (n : Fin 32) (b : Block) (s : State) : Drains s (takeLong n b s) := ⟨fun _ => rfl, rfl, fun _ h => h⟩

variable (s n) in
section

theorem tripClear_drains : Drains s (tripClear n s) := by
  unfold tripClear
  simp only
  split
  · exact run_drains _ s
  · exact finish_drains n _ s

theorem fill_drains : Drains s (fill n s) := by
  unfold fill
  split
  · exact finish_drains n _ s
  · split
    · exact finish_drains n _ s
    · split
      · exact finish_drains n _ s
      · have htake : Drains s (setFill { slot := n, target := newCharge s n } (takeLong n .water s)) :=
          ⟨fun _ => rfl, rfl, fun _ h => h⟩
        unfold acceptFill
        simp only
        split
        · exact htake.trans (run_drains _ _)
        · exact htake.trans (run_drains _ _)

theorem beginMove_drains (m : Mover) (v : Move) : Drains s (beginMove n m v s) := by
  have hstalled : ∀ t : State, Drains t (leaveStalled m t) := fun t => (leaveStalled_eases t m).drains
  have hset : ∀ (x : MoverRec) (t : State), Drains t (setMover m x t) := fun x t => by
    cases m <;> exact ⟨id, rfl, fun _ h => h⟩
  exact (takeLong_drains n .movers s).trans ((hstalled _).trans (hset _ _))

theorem acceptMove_drains : Drains s (acceptMove n s) := by
  have hbegin : Drains s (run [.stowSignal (moverArg s n)] (beginMove n (moverArg s n) (hostMove n s) s)) :=
    (beginMove_drains s n _ _).trans (run_drains _ _)
  unfold acceptMove
  simp only
  split
  · exact hbegin.trans (run_drains _ _)
  · exact hbegin.trans (run_drains _ _)

theorem move_drains : Drains s (move n s) := by
  unfold move
  simp only
  split
  · exact finish_drains n _ s
  · split
    · exact finish_drains n _ s
    · split
      · exact finish_drains n _ s
      · split
        · exact finish_drains n _ s
        · exact acceptMove_drains s n

theorem recall_drains (l : List Word) (o : LightOwner) (hit : Bool) : Drains s (runReact (applyRecall l o hit) (takeLong n .lights s)) :=
  (takeLong_drains n .lights s).trans (run_drains _ _)

theorem lightSet_drains : Drains s (lightSet n s) := by
  unfold lightSet
  split
  · exact finish_drains n _ s
  · exact recall_drains s n _ _ _

theorem sceneRecall_drains : Drains s (sceneRecall n s) := by
  have hlookup : Drains s (lookup (Fin.ofNat 32 (p s n 0)) s).1 := (State.Eases.of_hand (lookup_hand s _)).drains
  unfold sceneRecall
  split
  · exact finish_drains n _ s
  · generalize lookup (Fin.ofNat 32 (p s n 0)) s = x at hlookup
    obtain ⟨t, r⟩ := x
    cases r with
    | invalid w => exact hlookup.trans (finish_drains n _ t)
    | found l hit => exact hlookup.trans (recall_drains t n _ _ _)

theorem settingsStore_drains : Drains s (settingsStore n s) := by
  unfold settingsStore
  split
  · exact finish_drains n _ s
  · split
    · exact ⟨fun _ => rfl, rfl, fun _ h => h⟩
    · exact finish_drains n _ s

/-- No order's owner adds to the intake list or the held set. -/
theorem bodyOf_drains (k : Kind) : Drains s (bodyOf k n s) := by
  cases k
  case chargeSet => exact (chargeSet_ends s n).drains
  case shedFloor => exact (shedFloor_ends s n).drains
  case restNow => exact (restNow_ends s n).drains
  case auxSet => exact (auxSet_ends s n).drains
  case tripClear => exact tripClear_drains s n
  case termsLoad => exact (termsLoad_ends s n).drains
  case pumpMode => exact (pumpMode_ends s n).drains
  case pumpReset => exact (pumpReset_ends s n).drains
  case fill => exact fill_drains s n
  case drainDump => exact (drainDump_ends s n).drains
  case drainClose => exact (drainClose_ends s n).drains
  case climateMode => exact (climateMode_ends s n).drains
  case zoneSet => exact (zoneSet_ends s n).drains
  case heaterClear => exact (heaterClear_ends s n).drains
  case move => exact move_drains s n
  case moverStop => exact (moverStop_ends s n).drains
  case sceneRecall => exact sceneRecall_drains s n
  case lightSet => exact lightSet_drains s n
  case settingsFetch => exact (settingsFetch_ends s n).drains
  case settingsStore => exact settingsStore_drains s n

theorem dispatchSlot_drains (k : Kind) : Drains s (dispatchSlot k (bodyOf k) n s) := by
  unfold dispatchSlot
  split
  · exact finish_drains n _ s
  · split
    · exact finish_drains n _ s
    · exact bodyOf_drains s n k
    · exact (claimFollower_drains n _ s).trans (bodyOf_drains _ n k)

end

/-- A slot taken and then worked on has left its collection. -/
theorem left_of_drains (h : Drains (takeSlot n s) t) :
    t.disp.intake = s.disp.intake.filter (· != n) ∧ ∀ x ∈ t.disp.held, x.slot ≠ n := by
  refine ⟨h.intake, fun x hx e => ?_⟩
  have hn := h.held n (List.mem_map.2 ⟨x, hx, e⟩)
  exact not_mem_held_dropHeld n (dropIntake n s) hn

theorem inRun_disp {f : State → State} (hb : blocksRun s = true) : (inRun f s).disp = (f s).disp := by
  obtain ⟨d, hd⟩ := inRun_eq (f := f) hb
  rw [hd]

/-- Whatever becomes of the order, its slot has left the intake list and the held set. -/
theorem dispatch_takes (hb : blocksRun s = true) (hn : nextSlot s = some n) {c : Instr}
    (hc : (c = .badKind ∧ kindOf s n = none) ∨ ∃ k, orderKind c = some k ∧ kindOf s n = some k) :
    ∃ t, exec c s = .next t ∧ t.disp.intake = s.disp.intake.filter (· != n) ∧ ∀ h ∈ t.disp.held, h.slot ≠ n := by
  rcases hc with ⟨rfl, hk⟩ | ⟨k, hc, hk⟩
  · refine ⟨inRun dispatchBad s, rfl, ?_⟩
    rw [inRun_disp hb, dispatchBad_eq hn hk]
    exact left_of_drains (finish_drains n _ _)
  · refine ⟨_, exec_order hc s, ?_⟩
    rw [inRun_disp hb, dispatch_eq hn hk]
    exact left_of_drains (dispatchSlot_drains _ n k)

/-! ### The follower that is claimed (R14, R18, R19) -/

/-- The held set with the follower claimed. -/
theorem claimFollower_held (n f : Fin 32) (s : State) :
    (claimFollower n f (takeSlot n s)).disp.held =
      (s.disp.held.filter fun h => h.slot != n).map fun h => if h.slot = f then { h with claimed := some n } else h := rfl

theorem heldOf_of_claim {f : Fin 32} (h : followCheck s n = .claim f) : ∃ x, heldOf s f = some x := by
  unfold followCheck at h
  split at h
  · cases h
  · split at h
    · cases h
    · next g _ =>
      split at h
      · cases h
      · split at h
        · cases h
        · split at h
          · next x hx =>
            split at h
            · cases h
              exact ⟨x, hx⟩
            · cases h
          · cases h

/-- The follower that a leader has just claimed is the one its end acts on. -/
theorem claimedBy_claimFollower {f : Fin 32} (hf : followCheck (takeSlot n s) n = .claim f)
    (hs : ∀ h ∈ s.disp.held, h.claimed ≠ some n ∧ (h.slot = f → h.released = none)) :
    claimedBy (claimFollower n f (takeSlot n s)) n = some f := by
  obtain ⟨x, hx⟩ := heldOf_of_claim hf
  have hmem : x ∈ s.disp.held.filter fun h => h.slot != n := List.mem_of_find?_eq_some hx
  have hslot : x.slot = f := by simpa using List.find?_some hx
  have hclaimed : ∃ y ∈ (claimFollower n f (takeSlot n s)).disp.held, (y.claimed == some n && y.released.isNone) = true := by
    rw [claimFollower_held]
    refine ⟨_, List.mem_map.2 ⟨x, hmem, rfl⟩, ?_⟩
    rw [if_pos hslot]
    simp [(hs x (List.mem_of_mem_filter hmem)).2 hslot]
  have honly : ∀ y ∈ (claimFollower n f (takeSlot n s)).disp.held, y.claimed = some n → y.slot = f := by
    rw [claimFollower_held]
    intro y hy hc
    obtain ⟨z, hz, rfl⟩ := List.mem_map.1 hy
    by_cases e : z.slot = f
    · rw [if_pos e]; exact e
    · rw [if_neg e] at hc
      exact absurd hc (hs z (List.mem_of_mem_filter hz)).1
  obtain ⟨y, hy⟩ := Option.isSome_iff_exists.1 (List.find?_isSome.2 hclaimed)
  have hyc := List.find?_some hy
  rw [Bool.and_eq_true, beq_iff_eq] at hyc
  rw [claimedBy, hy, Option.map_some, honly y (List.mem_of_find?_eq_some hy) hyc.1]

theorem claimedBy_congr (h : t.disp.held = s.disp.held) (n : Fin 32) : claimedBy t n = claimedBy s n := by
  unfold claimedBy; rw [h]

theorem Finished.state {f : Finish} (h : Finished t n f) : slotState t n = if f.outcome = .ok then .done else .failed := by
  obtain ⟨h0, -⟩ := h
  rw [slotState, h0]
  split <;> rfl

theorem dispatch_claims {k : Kind} {f : Fin 32} (hn : nextSlot s = some n) (hk : kindOf s n = some k)
    (hp : badParam k s n = none) (hf : followCheck (takeSlot n s) n = .claim f) :
    dispatch k (bodyOf k) s = bodyOf k n (claimFollower n f (takeSlot n s)) := by
  rw [dispatch_eq hn hk, dispatchSlot_claim (by rw [badParam_takeSlot, hp]) hf]

theorem settingsStore_accepts (hst : s.store.slot = none) (hs : s.pins.service = true) : settingsStore n s = acceptStore n s := by
  simp only [settingsStore, hst, hs, if_true]

theorem settingsStore_locked (hst : s.store.slot = none) (hs : s.pins.service = false) :
    settingsStore n s = finish n (fail .locked 0) s := by
  simp only [settingsStore, hst, hs, Bool.false_eq_true, if_false]

/-- R181: the fetch writes the window, then its order is done. -/
theorem settingsFetch_done (n : Fin 32) (s : State) : ∃ x r0 r1 r2, settingsFetch n s = finish n (done r0 r1 r2) x ∧
    x.ram.slots = s.ram.slots ∧ x.disp = s.disp := ⟨_, _, _, _, rfl, rfl, rfl⟩

theorem claimed_not_held (n f : Fin 32) (s : State) : n ∉ (claimFollower n f (takeSlot n s)).disp.held.map (·.slot) := by
  rw [claimFollower_slots_held]
  exact not_mem_held_dropHeld n _

/-- An order's row, the digest apart. -/
theorem exec_dispatched {c : Instr} {k : Kind} {w : State} (hc : orderKind c = some k) (hb : blocksRun s = true)
    (h : dispatch k (bodyOf k) s = w) : ∃ d, exec c s = .next { w with ram := { w.ram with digest := d } } := by
  obtain ⟨d, hd⟩ := inRun_eq (f := dispatch k (bodyOf k)) hb
  exact ⟨d, (exec_order hc s).trans (congrArg _ (by rw [hd, h]))⟩

/-- R18: the end of a leader whose order is done. -/
theorem finish_releases {f : Fin 32} (h : claimedBy s n = some f) (r0 r1 r2 : Word) :
    (finish n (done r0 r1 r2) s).disp.nextRelease = s.disp.nextRelease + 1 ∧ (finish n (done r0 r1 r2) s).disp.held =
      s.disp.held.map fun h => if h.slot = f then { h with released := some s.disp.nextRelease } else h := by
  have hc : claimedBy (service n (done r0 r1 r2) s) n = some f := (claimedBy_congr (service_held n _ s) n).trans h
  have he : finish n (done r0 r1 r2) s = release f (service n (done r0 r1 r2) s) := chainEffect_of_ok hc
  rw [he]
  exact ⟨rfl, rfl⟩

/-- R19: the end of a leader whose order has failed. -/
theorem finish_breaks {f : Fin 32} {x : Finish} (hw : Mem.Wf 0 s.ram.slots) (h : claimedBy s n = some f) (hx : x.outcome ≠ .ok) :
    Finished (finish n x s) f { outcome := .chainBroken } ∧ heldOf (finish n x s) f = none :=
  chainEffect_breaks (service_wf hw) ((claimedBy_congr (service_held n x s) n).trans h) hx

/-- Settles O26. -/
theorem dispatchTakesSlotAndClaims : Obligations.DispatchTakesSlotAndClaims := by
  refine ⟨fun s h => nextSlot_of_unreleased h, fun s h k hm hk hmin => nextSlot_of_released hm hk hmin,
    fun s n hb hn c hc => dispatch_takes hb hn hc, fun s n f hw hb hn hf hs => ?_⟩
  have hclaim := claimedBy_claimFollower hf hs
  have hheld := claimFollower_held n f s
  have hnot := claimed_not_held n f s
  have dispatched : ∀ k, kindOf s n = some k → badParam k s n = none →
      dispatch k (bodyOf k) s = bodyOf k n (claimFollower n f (takeSlot n s)) := fun k hk hp => dispatch_claims hn hk hp hf
  have cw : Mem.Wf 0 (claimFollower n f (takeSlot n s)).ram.slots := hw.1
  have cstore : (claimFollower n f (takeSlot n s)).store = s.store := rfl
  have cpins : (claimFollower n f (takeSlot n s)).pins = s.pins := rfl
  have crelease : (claimFollower n f (takeSlot n s)).disp.nextRelease = s.disp.nextRelease := rfl
  generalize claimFollower n f (takeSlot n s) = c at *
  intro rest
  refine ⟨fun hk hst hservice => ?_, fun hk hst hservice => ?_, fun hk => ?_⟩
  · have hbody := (dispatched .settingsStore hk rfl).trans (settingsStore_accepts (cstore ▸ hst) (cpins ▸ hservice))
    obtain ⟨d, hd⟩ := exec_dispatched (c := .settingsStore) rfl hb hbody
    have htaken : slotState (acceptStore n c) n = .taken := (slotState_takeLong cw n .store n).trans (if_pos rfl)
    exact ⟨_, hd, htaken, hheld⟩
  · have hbody := (dispatched .settingsStore hk rfl).trans (settingsStore_locked (cstore ▸ hst) (cpins ▸ hservice))
    obtain ⟨d, hd⟩ := exec_dispatched (c := .settingsStore) rfl hb hbody
    have hfailed := (finish_finished cw hnot (fail .locked 0)).state
    obtain ⟨hf, hnone⟩ := finish_breaks (x := fail .locked 0) cw hclaim (by simp [fail])
    generalize finish n (fail .locked 0) c = w at *
    exact ⟨_, hd, hfailed, hf, hnone⟩
  · obtain ⟨x, r0, r1, r2, hx, xslots, xdisp⟩ := settingsFetch_done n c
    obtain ⟨d, hd⟩ := exec_dispatched (c := .settingsFetch) rfl hb ((dispatched .settingsFetch hk rfl).trans hx)
    have xclaim : claimedBy x n = some f := (claimedBy_congr (by rw [xdisp]) n).trans hclaim
    have hdone := (finish_finished (s := x) (xslots ▸ cw) (xdisp ▸ hnot) (done r0 r1 r2)).state
    obtain ⟨hnext, hreleased⟩ := finish_releases xclaim r0 r1 r2
    generalize finish n (done r0 r1 r2) x = w at *
    refine ⟨_, hd, hdone, by rw [hnext, xdisp, crelease], ?_⟩
    rw [hreleased, xdisp, hheld, crelease, List.map_map]
    refine List.map_congr_left fun h _ => ?_
    by_cases e : h.slot = f <;> simp [e]

end Sys2Proof.Machine
end

section
/-!
SUPPORT. Cascades traced act by act, and the withdrawal of a demand as one passage of a cascade.
-/
namespace Sys2Proof.Machine

variable {s t u : State} {o : Fin 16}

/-! ### Passages of a cascade -/

theorem firstActs_of_done (k : Nat) {r : Run} (h : r.work = []) : firstActs k r = r := by
  cases k with
  | zero => rfl
  | succ k => simp only [firstActs, h]

theorem firstActs_add (a b : Nat) : ∀ r : Run, firstActs (a + b) r = firstActs b (firstActs a r) := by
  induction a with
  | zero => intro r; rw [Nat.zero_add]; rfl
  | succ a ih =>
    intro r
    cases hw : r.work with
    | nil => rw [firstActs_of_done _ hw, firstActs_of_done _ hw, firstActs_of_done _ hw]
    | cons c l =>
      rw [show a + 1 + b = (a + b) + 1 by omega]
      simp only [firstActs, hw]
      exact ih _

/-- At most `n` acts lead from one point of a cascade to another. -/
def Run.Reaches (n : Nat) (r q : Run) : Prop := ∃ k ≤ n, firstActs k r = q

namespace Run.Reaches

theorem refl (n : Nat) (r : Run) : r.Reaches n r := ⟨0, by omega, rfl⟩

theorem trans {a b : Nat} {r q p : Run} (h : r.Reaches a q) (g : q.Reaches b p) : r.Reaches (a + b) p := by
  obtain ⟨k, hk, rfl⟩ := h
  obtain ⟨j, hj, rfl⟩ := g
  exact ⟨k + j, by omega, firstActs_add k j r⟩

theorem run_eq {n : Nat} {l : List Act} (hn : n ≤ cascadeBound) (h : Reaches n { st := s, work := l } { st := t, work := [] }) :
    run l s = t := by
  obtain ⟨k, hk, e⟩ := h
  rw [run_first k l s (by omega) (by rw [e]), e]

end Run.Reaches

/-! ### What is shown -/

/-- `t` is `s` but for the digest and the idle timer. -/
def Shows (s t : State) : Prop := ∃ d k, t = { s with ram := { s.ram with digest := d }, charge := { s.charge with idle := k } }

theorem Shows.refl (s : State) : Shows s s := ⟨_, _, rfl⟩

theorem Shows.trans (h : Shows s t) (g : Shows t u) : Shows s u := by
  obtain ⟨d, k, rfl⟩ := h
  obtain ⟨d', k', rfl⟩ := g
  exact ⟨d', k', rfl⟩

theorem showCells_shows (l : List (Nat × Word)) (s : State) : Shows s (showCells l s) := ⟨_, _, rfl⟩

theorem showAction_shows (m l : List Part) (s : State) : Shows s (showAction m l s) := showCells_shows _ s

theorem showChange_shows (l : List Part) (old s : State) : Shows s (showChange l old s) := showCells_shows _ s

theorem idleCheck_shows (s : State) : Shows s (idleCheck s) := by
  unfold idleCheck
  split
  · exact .refl s
  · exact ⟨_, _, rfl⟩

theorem afterReports_shows (s : State) : Shows s (afterReports s) := (idleCheck_shows s).trans (showAction_shows _ _ _)

theorem Shows.outlets (h : Shows s t) : t.outlets = s.outlets := by obtain ⟨_, _, rfl⟩ := h; rfl
theorem Shows.water (h : Shows s t) : t.water = s.water := by obtain ⟨_, _, rfl⟩ := h; rfl
theorem Shows.movers (h : Shows s t) : t.movers = s.movers := by obtain ⟨_, _, rfl⟩ := h; rfl
theorem Shows.lights (h : Shows s t) : t.lights = s.lights := by obtain ⟨_, _, rfl⟩ := h; rfl
theorem Shows.interlock (h : Shows s t) : t.interlock = s.interlock := by obtain ⟨_, _, rfl⟩ := h; rfl
theorem Shows.store (h : Shows s t) : t.store = s.store := by obtain ⟨_, _, rfl⟩ := h; rfl
theorem Shows.disp (h : Shows s t) : t.disp = s.disp := by obtain ⟨_, _, rfl⟩ := h; rfl
theorem Shows.slots (h : Shows s t) : t.ram.slots = s.ram.slots := by obtain ⟨_, _, rfl⟩ := h; rfl
theorem Shows.port (h : Shows s t) : t.port = s.port := by obtain ⟨_, _, rfl⟩ := h; rfl
theorem Shows.time (h : Shows s t) : t.time = s.time := by obtain ⟨_, _, rfl⟩ := h; rfl
theorem Shows.power (h : Shows s t) : t.charge.power = s.charge.power := by obtain ⟨_, _, rfl⟩ := h; rfl

theorem outlet_congr (h : t.outlets = s.outlets) (q : Fin 16) : outlet t q = outlet s q := by rw [outlet, outlet, h]

theorem mover_congr (h : t.movers = s.movers) (m : Mover) : mover t m = mover s m := by cases m <;> simp only [mover, h]

theorem channel_congr (h : t.lights = s.lights) (c : Fin 6) : channel t c = channel s c := by rw [channel, channel, h]

/-! ### The withdrawal of a demand (R70) -/

/-- An outlet goes OFF without a demand. -/
def withdrawn (o : Fin 16) (s : State) : State := darkOutlet o .off (setDemand o none s)

theorem outlet_setDemand (q : Fin 16) (d : Option Demand) (s : State) :
    outlet (setDemand o d s) q = if q = o then { outlet s o with demand := d } else outlet s q := outlet_setOutlet o q _ s

theorem outlet_withdrawn_same (s : State) : (outlet (withdrawn o s) o).state = .off ∧ (outlet (withdrawn o s) o).demand = none ∧
    (outlet (withdrawn o s) o).charge = 0 := by
  unfold withdrawn darkOutlet
  simp only [outlet_setOutlet, outlet_setDemand, if_true, and_self]

theorem outlet_withdrawn_other {q : Fin 16} (h : q ≠ o) (s : State) : outlet (withdrawn o s) q = outlet s q := by
  unfold withdrawn darkOutlet
  rw [outlet_setOutlet, if_neg h, outlet_setDemand, if_neg h]

theorem waitingOrder_eq_nil (h : ∀ q, (outlet s q).state ≠ .waiting) : Run.waitingOrder s = [] := by
  have hnone : (outletsAll.filter fun q => (outlet s q).state == .waiting) = [] :=
    List.filter_eq_nil_iff.2 fun q _ => by simpa using h q
  rw [Run.waitingOrder, hnone]
  rfl

/-- Where no other outlet waits, none does after the withdrawal. -/
theorem withdrawn_not_waiting (h : NoneWaitsBut s o) (q : Fin 16) : (outlet (withdrawn o s) q).state ≠ .waiting := by
  by_cases hq : q = o
  · subst hq; rw [(outlet_withdrawn_same s).1]; decide
  · rw [outlet_withdrawn_other hq]; exact h q hq

theorem takeWithdraw_eq {r : Run} (h : (outlet r.st o).state ≠ .off) (h' : (outlet r.st o).state ≠ .tripped) :
    r.takeWithdraw o = { r with
      st := withdrawn o r.st
      changed := r.changed ++ [(o, (outlet r.st o).state, .off)]
      room := r.room || (outlet r.st o).state == .on } := by
  have hs : (outlet (setDemand o none r.st) o).state = (outlet r.st o).state := by rw [outlet_setDemand, if_pos rfl]
  have ht : r.takeWithdraw o = (r.onState (setDemand o none)).dark o .off := by
    unfold Run.takeWithdraw
    split <;> simp_all
  rw [ht]
  simp only [Run.dark, Run.onState, hs, withdrawn]

/-- The request is taken as an action, up to the report of the change. -/
theorem withdraw_reaches_report (l : List Act) (h : (outlet s o).state ≠ .off) (h' : (outlet s o).state ≠ .tripped) :
    Run.Reaches 4 { st := s, work := .req (.withdraw o) :: l }
      { st := withdrawn o s, work := .report o (outlet s o).state .off :: .flush :: .actEnd :: .restore false :: l
        acting := 1, told := true, room := (outlet s o).state == .on } := by
  have hopen : Run.Reaches 2 { st := s, work := .req (.withdraw o) :: l }
      { st := s, work := .take (.withdraw o) :: .flush :: .actEnd :: .restore false :: l, acting := 1 } := ⟨2, le_rfl, rfl⟩
  have htake : Run.Reaches 1 { st := s, work := .take (.withdraw o) :: .flush :: .actEnd :: .restore false :: l, acting := 1 }
      { st := withdrawn o s, work := .flush :: .actEnd :: .restore false :: l, acting := 1
        changed := [(o, (outlet s o).state, .off)], room := (outlet s o).state == .on } := by
    have e := takeWithdraw_eq (o := o) (r := { st := s, work := .flush :: .actEnd :: .restore false :: l, acting := 1 }) h h'
    rw [List.nil_append, Bool.false_or] at e
    exact ⟨1, le_rfl, e⟩
  exact hopen.trans (htake.trans (b := 1) ⟨1, le_rfl, rfl⟩)

/-- What follows the reports of a withdrawal: the room it made goes to nobody, and the action ends. -/
theorem flush_reaches_end (l : List Act) (room : Bool) (hw : ∀ q, (outlet s q).state ≠ .waiting) :
    ∃ t, Shows s t ∧ Run.Reaches 8
      { st := s, work := .flush :: .actEnd :: .restore false :: l, acting := 1, told := true, room := room }
      { st := t, work := l } := by
  have hv : Shows s (afterReports s) := afterReports_shows s
  have hnone : Run.waitingOrder (afterReports s) = [] := waitingOrder_eq_nil fun q => outlet_congr hv.outlets q ▸ hw q
  refine ⟨syncPart .outlets (afterReports s), hv.trans (showAction_shows _ _ _), ?_⟩
  have htold : Run.Reaches 2 { st := s, work := .flush :: .actEnd :: .restore false :: l, acting := 1, told := true, room := room }
      { st := afterReports s, work := .flush :: .actEnd :: .restore false :: l, acting := 1, room := room } := ⟨2, le_rfl, rfl⟩
  generalize afterReports s = v at *
  have hroom : Run.Reaches 3 { st := v, work := .flush :: .actEnd :: .restore false :: l, acting := 1, room := room }
      { st := v, work := .actEnd :: .restore false :: l, acting := 1 } := by
    cases room with
    | false => exact ⟨1, by omega, rfl⟩
    | true =>
      have harb : Run.Reaches 1 { st := v, work := .arbiter :: .flush :: .actEnd :: .restore false :: l, acting := 1, room := true }
          { st := v, work := .flush :: .actEnd :: .restore false :: l, acting := 1 } := by
        refine ⟨1, le_rfl, ?_⟩
        simp only [firstActs, perform, Run.arbiter, Run.push, hnone, List.map_nil, List.nil_append]
      have hask : Run.Reaches 1 { st := v, work := .flush :: .actEnd :: .restore false :: l, acting := 1, room := true }
          { st := v, work := .arbiter :: .flush :: .actEnd :: .restore false :: l, acting := 1, room := true } := ⟨1, le_rfl, rfl⟩
      exact hask.trans (harb.trans (b := 1) ⟨1, le_rfl, rfl⟩)
  exact htold.trans (hroom.trans (b := 3) ⟨3, le_rfl, rfl⟩)

/-- R70, R72, R85: a demand withdrawn where no other outlet waits, the owner told of it, and nothing else to answer. -/
theorem withdraw_reaches (l : List Act) (h : (outlet s o).state ≠ .off) (h' : (outlet s o).state ≠ .tripped) (hw : NoneWaitsBut s o)
    (hrep : ownerReport o (outlet s o).state .off (withdrawn o s) = (t, [])) (ht : t.outlets = (withdrawn o s).outlets) :
    ∃ v, Shows t v ∧ Run.Reaches 13 { st := s, work := .req (.withdraw o) :: l } { st := v, work := l } := by
  have hnone : ∀ q, (outlet t q).state ≠ .waiting := fun q => outlet_congr ht q ▸ withdrawn_not_waiting hw q
  obtain ⟨v, hv, hend⟩ := flush_reaches_end l ((outlet s o).state == .on) hnone
  refine ⟨v, hv, (withdraw_reaches_report l h h').trans (b := 9) (Run.Reaches.trans (a := 1) (b := 8) ⟨1, le_rfl, ?_⟩ hend)⟩
  simp only [firstActs, perform, Run.react, hrep, List.nil_append]

end Sys2Proof.Machine
end

section
/-!
PROOF. CANCEL to a TAKEN slot (R6): the order's owner is told, and the order ends as the owner's chapter says.
-/
namespace Sys2Proof.Machine

variable {s t u : State} {n : Fin 32}

theorem tellCancel_water (h : ownerBlock s n = some .water) : tellCancel n s = (s, [.fillEnd (.failed .cancelled 0)]) := by
  simp only [tellCancel, h]

theorem tellCancel_movers {m : Mover} (h : ownerBlock s n = some .movers) (hm : moverOf s n = some m) :
    tellCancel n s = (s, [.moveEnd m .cancelled 0]) := by
  simp only [tellCancel, h, hm]

theorem tellCancel_lights (h : ownerBlock s n = some .lights) : tellCancel n s = cancelRecall n s := by simp only [tellCancel, h]

theorem tellCancel_store (h : ownerBlock s n = some .store) : tellCancel n s = cancelStore n s := by simp only [tellCancel, h]

theorem cancelTaken_of_tell {l : List Act} (h : tellCancel n (setSlotState n .cancel u) = (t, l)) : cancelTaken n u = run l t := by
  rw [cancelTaken, runReact, h]

/-- The end of an order that no leader holds. -/
theorem finish_ends {f : Finish} (hw : Mem.Wf 0 s.ram.slots) (hh : heldOf s n = none) : Finished (finish n f s) n f :=
  finish_finished hw (heldOf_eq_none.1 hh) f

theorem Finished.shows {f : Finish} (h : Finished s n f) (g : Shows s t) : Finished t n f := by
  obtain ⟨_, _, rfl⟩ := g
  exact h

theorem heldOf_congr (h : t.disp = s.disp) (n : Fin 32) : heldOf t n = heldOf s n := by rw [heldOf, heldOf, h]

theorem run_finish (f : Finish) (s : State) : run [.finish n f] s = finish n f s :=
  Run.Reaches.run_eq (n := 1) (by decide) ⟨1, le_rfl, rfl⟩

/-! ### A settings store (R183) -/

/-- A store in VALIDATE let go. -/
def storeDropped (s : State) : State := { s with store := { s.store with phase := .idle, slot := none } }

theorem cancelTaken_validate (hb : ownerBlock u n = some .store) (hp : u.store.phase = .validate) :
    cancelTaken n u = finish n { outcome := .cancelled } (storeDropped (setSlotState n .cancel u)) := by
  have htell : tellCancel n (setSlotState n .cancel u) =
      (storeDropped (setSlotState n .cancel u), [.finish n { outcome := .cancelled }]) :=
    (tellCancel_store (s := setSlotState n .cancel u) hb).trans (if_pos hp)
  rw [cancelTaken_of_tell htell, run_finish]

theorem cancelTaken_beyond_validate (hb : ownerBlock u n = some .store) (hp : u.store.phase ≠ .validate) :
    cancelTaken n u = setSlotState n .cancel u := by
  have htell : tellCancel n (setSlotState n .cancel u) = (setSlotState n .cancel u, []) :=
    (tellCancel_store (s := setSlotState n .cancel u) hb).trans (if_neg hp)
  rw [cancelTaken_of_tell htell, run_nil]

/-! ### A fill (R112) -/

theorem fillReport_off {f : Fill} (h : s.water.fill = some f) : fillReport .off s = (setFill { f with valve := .off } s, []) := by
  simp only [fillReport, h]

theorem ownerReport_valve_off {f : Fill} {old : OutletState} (hp : s.charge.power ≠ .starting) (h : s.water.fill = some f) :
    ownerReport 7 old .off s = (showChange [.water] s (setFill { f with valve := .off } s), []) := by
  have hr : ownerReport 7 old .off s = showing [.water] (fillReport .off) s := if_neg hp
  rw [hr, showing, fillReport_off h]

/-- The fill of slot `n` ends: its demand is withdrawn, the record cleared, the slot finished. -/
theorem fillEnd_run {f : Fill} {e : FillEnd} (hp : s.charge.power ≠ .starting) (hf : s.water.fill = some f)
    (ho : (outlet s 7).state = .on ∨ (outlet s 7).state = .waiting) (hw : NoneWaitsBut s 7) :
    ∃ v, run [.fillEnd e] s = finish f.slot (fillResult s f e) v ∧ v.water.fill = none ∧ v.outlets = (withdrawn 7 s).outlets ∧
      v.ram.slots = s.ram.slots ∧ v.disp = s.disp := by
  have h0 : (outlet s 7).state ≠ .off := by rcases ho with ho | ho <;> simp [ho]
  have h1 : (outlet s 7).state ≠ .tripped := by rcases ho with ho | ho <;> simp [ho]
  obtain ⟨w, hs, hreach⟩ := withdraw_reaches [.fillFinish e] h0 h1 hw
    (ownerReport_valve_off (s := withdrawn 7 s) hp hf) rfl
  have hs := (showChange_shows _ _ _).trans hs
  have hfill : w.water.fill = some { f with valve := .off } := by rw [hs.water]; rfl
  have hout : w.outlets = (withdrawn 7 s).outlets := hs.outlets
  have hslots : w.ram.slots = s.ram.slots := hs.slots
  have hdisp : w.disp = s.disp := hs.disp
  have hstore : w.store = s.store := hs.store
  clear hs
  have hres : fillResult w { f with valve := .off } e = fillResult s f e := by
    have hm : metered w { f with valve := .off } = metered s f := by rw [metered, metered, cfg, cfg, hstore]
    cases e <;> simp only [fillResult, hm]
  have hfin : showing [.water] (fillFinish e) w =
      (showChange [.water] w { w with water := { w.water with fill := none } }, [.finish f.slot (fillResult s f e)]) := by
    simp only [showing, fillFinish, hfill, hres]
  have hopen : Run.Reaches 1 { st := s, work := [.fillEnd e] } { st := s, work := [.req (.withdraw 7), .fillFinish e] } := by
    refine ⟨1, le_rfl, ?_⟩
    simp only [firstActs, perform, Run.react, fillEnd, hf, List.append_nil]
  generalize hv : showChange [.water] w { w with water := { w.water with fill := none } } = v at hfin
  have hclose : Run.Reaches 2 { st := w, work := [.fillFinish e] } { st := finish f.slot (fillResult s f e) v, work := [] } := by
    refine ⟨2, le_rfl, ?_⟩
    simp only [firstActs, perform, Run.react, hfin, List.append_nil, Run.onState]
  refine ⟨v, Run.Reaches.run_eq (n := 16) (by decide) (hopen.trans (hreach.trans hclose)), ?_⟩
  subst hv
  exact ⟨rfl, hout, hslots, hdisp⟩

end Sys2Proof.Machine
end

section
/-!
PROOF. CANCEL to a TAKEN slot (R6): the recall of the lights and the move.
-/
namespace Sys2Proof.Machine

variable {s t u : State} {n : Fin 32}

theorem finish_outlets (n : Fin 32) (f : Finish) (s : State) : (finish n f s).outlets = s.outlets :=
  (congrArg State.outlets (finish_sansOrders n f s) :)

/-! ### A recall (R173) -/

/-- `t` is `s` but for the lights. -/
def OnlyLights (s t : State) : Prop := ∃ l, t = { s with lights := l }

theorem OnlyLights.trans (h : OnlyLights s t) (g : OnlyLights t u) : OnlyLights s u := by
  obtain ⟨l, rfl⟩ := h
  obtain ⟨l', rfl⟩ := g
  exact ⟨l', rfl⟩

theorem OnlyLights.outside (h : OnlyLights s t) : t.ram = s.ram ∧ t.disp = s.disp ∧ t.outlets = s.outlets := by
  obtain ⟨_, rfl⟩ := h
  exact ⟨rfl, rfl, rfl⟩

theorem stopChannel_onlyLights (c : Fin 6) (s : State) : OnlyLights s (stopChannel c s) := by
  unfold stopChannel
  split
  · exact ⟨_, rfl⟩
  · exact ⟨_, rfl⟩

theorem stopChannels_onlyLights (l : List (Fin 6)) : ∀ s : State, OnlyLights s (stopChannels l s) := by
  induction l with
  | nil => exact fun _ => ⟨_, rfl⟩
  | cons c l ih => exact fun s => (stopChannel_onlyLights c s).trans (ih _)

theorem clearOwner_onlyLights (o : LightOwner) (l : List (Fin 6)) : ∀ s : State, OnlyLights s (clearOwner o l s) := by
  induction l with
  | nil => exact fun _ => ⟨_, rfl⟩
  | cons c l ih =>
    intro s
    refine .trans ?_ (ih _)
    split
    · exact ⟨_, rfl⟩
    · exact ⟨_, rfl⟩

theorem cancelRecall_onlyLights (n : Fin 32) (s : State) : OnlyLights s (cancelRecall n s).1 := by
  rw [cancelRecall_state]
  exact (stopChannels_onlyLights _ s).trans (.trans ⟨_, rfl⟩ (clearOwner_onlyLights _ _ _))

theorem stopChannel_of_on {c : Fin 6} (h : (outlet s (lightOutlet c)).state = .on) :
    stopChannel c s = setChannel c { channel s c with target := (channel s c).output } s := by
  have hd : heldDark s c = false := by simp [heldDark, h]
  rw [stopChannel, hd]
  rfl

theorem channel_stopChannels (q : Fin 6) (l : List (Fin 6)) : ∀ s : State, (∀ c ∈ l, (outlet s (lightOutlet c)).state = .on) →
    channel (stopChannels l s) q = if q ∈ l then { channel s q with target := (channel s q).output } else channel s q := by
  induction l with
  | nil => exact fun _ _ => rfl
  | cons c l ih =>
    intro s h
    have hc := stopChannel_of_on (h c (by simp))
    have hl : ∀ d ∈ l, (outlet (stopChannel c s) (lightOutlet d)).state = .on := fun d hd => by
      rw [hc]; exact h d (by simp [hd])
    rw [stopChannels, ih _ hl, hc, channel_setChannel]
    by_cases hq : q = c
    · subst hq; simp
    · simp [hq]

theorem channel_clearOwner (o : LightOwner) (q : Fin 6) (l : List (Fin 6)) : ∀ s : State, channel (clearOwner o l s) q =
    if q ∈ l ∧ (channel s q).owner = some o then { channel s q with owner := none } else channel s q := by
  induction l with
  | nil => intro s; simp [clearOwner]
  | cons c l ih =>
    intro s
    rw [clearOwner, ih]
    by_cases hq : q = c
    · subst hq
      by_cases ho : (channel s q).owner = some o <;> simp [ho, channel_setChannel]
    · split <;> simp [channel_setChannel, hq]

theorem mem_ownedBy {o : LightOwner} {c : Fin 6} : c ∈ ownedBy s o ↔ (channel s c).owner = some o := by
  simp [ownedBy, mem_channels]

/-- The channels that the recall of slot `n` owns fade on outlets that stay ON. -/
def Fading (s : State) (n : Fin 32) : Prop := ∀ c, (channel s c).owner = some (.host n) →
  (outlet s (lightOutlet c)).state = .on ∧ (outlet s (lightOutlet c)).demand.isSome = true ∧ (channel s c).output ≠ 0

theorem channel_cancelRecall (h : Fading s n) (q : Fin 6) : channel (cancelRecall n s).1 q =
    if (channel s q).owner = some (.host n) then { channel s q with target := (channel s q).output, owner := none }
    else channel s q := by
  have hstop := channel_stopChannels q (ownedBy s (.host n)) s fun c hc => (h c (mem_ownedBy.1 hc)).1
  rw [cancelRecall_state, channel_clearOwner]
  rw [show channel (dropRecalls [.host n] (stopChannels (ownedBy s (.host n)) s)) q =
    channel (stopChannels (ownedBy s (.host n)) s) q from rfl, hstop]
  by_cases ho : (channel s q).owner = some (.host n)
  · simp [mem_ownedBy, ho, mem_channels]
  · simp [mem_ownedBy, ho]

/-- A stopped channel's demand stands: it shines on at a level above 0. -/
theorem lightDemand_cancelRecall (h : Fading s n) {c : Fin 6} (hc : (channel s c).owner = some (.host n)) :
    lightDemand (cancelRecall n s).1 c = [] := by
  obtain ⟨-, hd, hout⟩ := h c hc
  have ho : outlet (cancelRecall n s).1 (lightOutlet c) = outlet s (lightOutlet c) := by
    obtain ⟨l, hl⟩ := cancelRecall_onlyLights n s
    exact outlet_congr (by rw [hl]) _
  have hpos : 0 < (channel s c).output := Nat.pos_of_ne_zero hout
  simp [lightDemand, ho, channel_cancelRecall h, hc, hpos, Option.isNone_iff_eq_none, Option.isSome_iff_ne_none.1 hd]

theorem cancelRecall_acts (h : Fading s n) : (cancelRecall n s).2 =
    [.finish n { outcome := .cancelled, r0 := Word.nat ((ownedBy s (.host n)).filter fun c => !arrived s c).length },
     .shown ((ownedBy s (.host n)).map Part.channel) recallParts] := by
  have hnil : (ownedBy s (.host n)).flatMap (lightDemand (cancelRecall n s).1) = [] :=
    List.flatMap_eq_nil_iff.2 fun c hc => lightDemand_cancelRecall h (mem_ownedBy.1 hc)
  unfold cancelRecall at hnil ⊢
  simp only [hnil, List.nil_append]

/-- R173: the cancelled recall ends after its channels have stopped. -/
theorem cancelRecall_run (h : Fading s n) : ∃ v, OnlyLights s v ∧ (∀ c, channel v c = channel (cancelRecall n s).1 c) ∧
    Shows (finish n { outcome := .cancelled, r0 := Word.nat ((ownedBy s (.host n)).filter fun c => !arrived s c).length } v)
      (runReact (cancelRecall n) s) := by
  refine ⟨(cancelRecall n s).1, cancelRecall_onlyLights n s, fun _ => rfl, ?_⟩
  rw [runReact, cancelRecall_acts h]
  generalize (cancelRecall n s).1 = v
  rw [Run.Reaches.run_eq (n := 2) (by decide) ⟨2, le_rfl, rfl⟩]
  exact showAction_shows _ _ _

/-! ### A move (R149, R157) -/

/-- Step 1 of the end sequence leaves the mover's record so, driving or not. -/
def stoppedRec (s : State) (m : Mover) (v : Move) (f : Outcome) : MoverRec :=
  { mover s m with state := endState s m v f, move := some { v with driving := false, ending := true } }

theorem stopDrive_eq {m : Mover} {v : Move} (f : Outcome) (h : (mover s m).move = some v) : stopDrive m (f == .stalled) s =
    (if v.driving then setDuty 0 else id) (setMover m (stoppedRec s m v f) s) := by
  cases hd : v.driving with
  | true =>
    have hs : (if (f == .stalled) = true then MoverState.stalled else restState s m (mover s m)) = endState s m v f := by
      simp only [endState, hd, beq_iff_eq, if_true]
    simp only [stopDrive, h, hd, if_true, hs, stoppedRec]
  | false =>
    have hs : (mover s m).state = endState s m v f := by simp [endState, hd]
    simp only [stopDrive, h, hd, Bool.false_eq_true, if_false, stoppedRec, ← hs, id]

theorem setPending_of_clear {m : Mover} (h : pendingOf s m = false) : setPending m false s = s := by
  cases m with
  | awning =>
    rw [pendingOf] at h
    rw [setPending, ← h]
  | step =>
    rw [pendingOf] at h
    rw [setPending, ← h]

/-- The state after step 1 of the end sequence. -/
def stopped (s : State) (m : Mover) (v : Move) (f : Outcome) : State :=
  (if v.driving then setDuty 0 else id) (setMover m (stoppedRec s m v f) s)

section
variable {m : Mover} {v : Move} {f : Outcome}

theorem mover_stopped : mover (stopped s m v f) m = stoppedRec s m v f := by
  have h := mover_setMover (s := s) m (stoppedRec s m v f)
  unfold stopped
  split
  · exact h
  · exact h

theorem stopped_outside : (stopped s m v f).outlets.table = s.outlets.table ∧ (stopped s m v f).charge = s.charge ∧
    (stopped s m v f).interlock = s.interlock ∧ (stopped s m v f).ram = s.ram ∧ (stopped s m v f).disp = s.disp ∧
    (stopped s m v f).movers.owner = s.movers.owner ∧ (stopped s m v f).movers.pendingAwning = s.movers.pendingAwning ∧
    (stopped s m v f).movers.pendingStep = s.movers.pendingStep ∧
    (v.driving = true → (stopped s m v f).outlets.duty = 0) := by
  unfold stopped
  cases v.driving with
  | true => cases m <;> exact ⟨rfl, rfl, rfl, rfl, rfl, rfl, rfl, rfl, fun _ => rfl⟩
  | false => cases m <;> exact ⟨rfl, rfl, rfl, rfl, rfl, rfl, rfl, rfl, nofun⟩

theorem bridgeReport_off_ending (ho : s.movers.owner = some m) (hm : (mover s m).move = some v) (he : v.ending = true) :
    bridgeReport .off s = (s, []) := by
  simp [bridgeReport, ho, hm, he]

theorem ownerReport_bridge {old new : OutletState} (hp : s.charge.power ≠ .starting) :
    ownerReport 5 old new s = bridgeReport new s := if_neg hp

/-- What is left to be done once the demand for the bridge is withdrawn (R149). -/
theorem moveFreed_reaches {l : List Act} (ho : s.movers.owner = some m) :
    Run.Reaches 1 { st := s, work := .moveFree m :: l } { st := setBridgeOwner none s, work := l } := by
  refine ⟨1, le_rfl, ?_⟩
  have hfree : moveFree m s = setBridgeOwner none s := by
    rw [moveFree, if_pos (by rw [ownerIs, ho]; exact beq_self_eq_true _)]
  simp only [firstActs, perform, Run.onState, hfree]

/-- The stowed signal has its value already: nothing is evaluated. -/
theorem stowSignal_reaches {l : List Act} (hpend : pendingOf s m = false)
    (hsig : sigVal s (stowSig m) = if (mover s m).state = .stowed then 1 else 0) :
    Run.Reaches 2 { st := s, work := .stowSignal m :: l } { st := s, work := l } := by
  refine ⟨2, le_rfl, ?_⟩
  have hstow : stowSignal m s = (s, [.signal (stowSig m) (sigVal s (stowSig m))]) := by
    simp only [stowSignal, setPending_of_clear hpend, ite_self, hsig, beq_iff_eq]
  simp only [firstActs, perform, Run.react, hstow, List.cons_append, List.nil_append, Run.signal, if_true]

theorem moveResult_reaches {l : List Act} (hm : (mover s m).move = some v) (hn : v.tag = .host n) (hf : f ≠ .stalled) (r2 : Word) :
    Run.Reaches 2 { st := s, work := .moveResult m f r2 :: l }
      { st := finish n { outcome := f, r0 := positionWord (mover s m), r1 := (mover s m).state.code, r2 := r2 }
          (setMover m { mover s m with move := none } s), work := l } := by
  refine ⟨2, le_rfl, ?_⟩
  have hres : moveResult m f r2 s = (setMover m { mover s m with move := none } s,
      [.finish n { outcome := f, r0 := positionWord (mover s m), r1 := (mover s m).state.code, r2 := r2 }]) := by
    simp only [moveResult, hm, hn, hf, if_false]
  simp only [firstActs, perform, Run.react, hres, List.cons_append, List.nil_append, Run.onState]

theorem serveRelease_idle (ho : s.movers.owner = none) (ha : s.movers.pendingAwning = false) (hs : s.movers.pendingStep = false) :
    serveRelease s = (s, []) := by
  simp [serveRelease, ho, ha, hs]

theorem pendingOf_eq_false (ha : s.movers.pendingAwning = false) (hs : s.movers.pendingStep = false) (m : Mover) :
    pendingOf s m = false := by
  cases m
  · exact ha
  · exact hs

/-- The acts of the end sequence that follow the withdrawal of the bridge's demand. -/
def closingActs (m : Mover) (f : Outcome) : List Act :=
  [.moveFree m, .stowSignal m, .moveResult m f 0, .shown [.mover m] [.bridge], .serveRelease]

/-- What the mover's order is finished with. -/
def moveFinish (x : MoverRec) (f : Outcome) : Finish := { outcome := f, r0 := positionWord x, r1 := x.state.code, r2 := 0 }

/-- Steps 3 to 6 of the end sequence: the bridge is free, the order finished, the move cleared. -/
theorem closingActs_reach (hm : (mover s m).move = some v) (hn : v.tag = .host n) (hf : f ≠ .stalled) (ho : s.movers.owner = some m)
    (ha : s.movers.pendingAwning = false) (hst : s.movers.pendingStep = false)
    (hsig : sigVal s (stowSig m) = if (mover s m).state = .stowed then 1 else 0) :
    ∃ x t, x.ram = s.ram ∧ x.disp = s.disp ∧ x.outlets = s.outlets ∧ x.movers.owner = none ∧
      mover x m = { mover s m with move := none } ∧ Shows (finish n (moveFinish (mover s m) f) x) t ∧
      Run.Reaches 7 { st := s, work := closingActs m f } { st := t, work := [] } := by
  have hfree := moveFreed_reaches (l := [.stowSignal m, .moveResult m f 0, .shown [.mover m] [.bridge], .serveRelease]) ho
  have hsame : mover (setBridgeOwner none s) m = mover s m := by cases m <;> rfl
  have hstow := stowSignal_reaches (s := setBridgeOwner none s) (m := m)
    (l := [.moveResult m f 0, .shown [.mover m] [.bridge], .serveRelease]) (pendingOf_eq_false ha hst m) (by rw [hsame]; exact hsig)
  have hres := moveResult_reaches (s := setBridgeOwner none s) (l := [.shown [.mover m] [.bridge], .serveRelease])
    (by rw [hsame]; exact hm) hn hf 0
  rw [hsame] at hres
  generalize hx : setMover m { mover s m with move := none } (setBridgeOwner none s) = x at hres
  have hout : x.ram = s.ram ∧ x.disp = s.disp ∧ x.outlets = s.outlets ∧ x.movers.owner = none ∧ x.movers.pendingAwning = false ∧
      x.movers.pendingStep = false := by
    subst hx; cases m <;> exact ⟨rfl, rfl, rfl, rfl, ha, hst⟩
  obtain ⟨hram, hdisp, houts, hown, hpa, hps⟩ := hout
  have hmover : mover x m = { mover s m with move := none } := by rw [← hx, mover_setMover]
  have hmovers : (finish n (moveFinish (mover s m) f) x).movers = x.movers := (finish_eq_outside _ _ _).2.2.1
  refine ⟨x, _, hram, hdisp, houts, hown, hmover, showAction_shows [.mover m] [.bridge] _,
    hfree.trans (hstow.trans (hres.trans (b := 2) ⟨2, le_rfl, ?_⟩))⟩
  change firstActs 2 { st := finish n (moveFinish (mover s m) f) x, work := [.shown [.mover m] [.bridge], .serveRelease] } = _
  generalize finish n (moveFinish (mover s m) f) x = e at hmovers
  have hserve : serveRelease (showAction [.mover m] [.bridge] e) = (showAction [.mover m] [.bridge] e, []) :=
    serveRelease_idle (by rw [showAction_movers, hmovers, hown]) (by rw [showAction_movers, hmovers, hpa])
      (by rw [showAction_movers, hmovers, hps])
  simp only [firstActs, perform, Run.react, Run.onState, hserve, List.nil_append]

/-- Steps 1 and 2 of the end sequence: the drive stops, and the demand for the bridge is withdrawn. -/
theorem moveEnd_reaches (hp : s.charge.power ≠ .starting) (h : MoveInHand s m v f) :
    ∃ w, Shows (withdrawn 5 (stopped s m v f)) w ∧
      Run.Reaches 14 { st := s, work := [.moveEnd m f 0] } { st := w, work := closingActs m f } := by
  obtain ⟨hmove, hend, howner, hstate, hnone, -⟩ := h
  obtain ⟨htable, hcharge, -, -, -, hown, -⟩ := stopped_outside (s := s) (m := m) (v := v) (f := f)
  have hrec : mover (stopped s m v f) m = stoppedRec s m v f := mover_stopped
  have hstop : Run.Reaches 1 { st := s, work := [.moveEnd m f 0] }
      { st := stopped s m v f, work := .req (.withdraw 5) :: closingActs m f } := by
    refine ⟨1, le_rfl, ?_⟩
    have howns : ownerIs s m = true := by rw [ownerIs, howner]; exact beq_self_eq_true _
    have he : moveEnd m f 0 s = (stopped s m v f, endActs s m f 0) := by
      simp only [moveEnd, hmove, hend, stopDrive_eq f hmove, stopped, Bool.false_eq_true, if_false]
    simp only [firstActs, perform, Run.react, he, endActs, howns, if_true, List.cons_append, List.nil_append, closingActs]
  generalize stopped s m v f = z at *
  have hz : ∀ q, outlet z q = outlet s q := fun q => by rw [outlet, outlet, htable]
  have h5 : (outlet z 5).state ≠ .off ∧ (outlet z 5).state ≠ .tripped := by
    rw [hz]; rcases hstate with e | e | e <;> simp [e]
  have hrep : ownerReport 5 (outlet z 5).state .off (withdrawn 5 z) = (withdrawn 5 z, []) :=
    (ownerReport_bridge (by rw [← hcharge] at hp; exact hp)).trans
      (bridgeReport_off_ending (m := m) (v := { v with driving := false, ending := true }) (hown.trans howner)
        (by rw [show mover (withdrawn 5 z) m = mover z m from by cases m <;> rfl, hrec]; rfl) rfl)
  obtain ⟨w, hw, hreach⟩ := withdraw_reaches (closingActs m f) h5.1 h5.2 (fun q hq => by rw [hz]; exact hnone q hq) hrep rfl
  exact ⟨w, hw, hstop.trans hreach⟩

/-- R149: the end sequence of a move that nothing else waits for. -/
theorem moveEnd_run (hp : s.charge.power ≠ .starting) (h : MoveInHand s m v f) (hn : v.tag = .host n) (hf : f ≠ .stalled)
    (hwf : Mem.Wf 0 s.ram.slots) : MoveEnded s (run [.moveEnd m f 0] s) m v f := by
  obtain ⟨w, hw, hstop⟩ := moveEnd_reaches hp h
  obtain ⟨-, -, howner, -, -, hpa, hps, hsig, hheld⟩ := h
  obtain ⟨-, -, hinter, hram, hdisp, hown, hpenda, hpends, hduty⟩ := stopped_outside (s := s) (m := m) (v := v) (f := f)
  have hrec : mover w m = stoppedRec s m v f := by
    rw [mover_congr (hw.movers.trans rfl) m]
    exact mover_stopped
  have h5 := outlet_withdrawn_same (o := 5) (stopped s m v f)
  have hwm : w.movers = (stopped s m v f).movers := hw.movers
  have hwi : w.interlock = s.interlock := hw.interlock.trans hinter
  obtain ⟨x, t, hxram, hxdisp, hxout, hxown, hxm, hshow, hclose⟩ := closingActs_reach (s := w) (m := m) (f := f) (n := n)
    (v := { v with driving := false, ending := true }) (by rw [hrec]; rfl) hn hf (by rw [hwm, hown, howner])
    (by rw [hwm, hpenda, hpa]) (by rw [hwm, hpends, hps]) (by rw [hrec, sigVal, hwi]; exact hsig)
  rw [Run.Reaches.run_eq (n := 21) (by decide) (hstop.trans hclose)]
  have hslots : Mem.Wf 0 x.ram.slots := by rw [hxram, hw.slots]; exact hram ▸ hwf
  have hnot : heldOf x n = none := by
    rw [heldOf_congr (hxdisp.trans (hw.disp.trans hdisp))]; exact hheld n hn
  have hfin := (finish_ends (f := moveFinish (mover w m) f) hslots hnot).shows hshow
  have houts : t.outlets = w.outlets := hshow.outlets.trans ((finish_outlets _ _ _).trans hxout)
  have hmovers : t.movers = x.movers := hshow.movers.trans (finish_eq_outside _ _ _).2.2.1
  have hmover : mover t m = { stoppedRec s m v f with move := none } := by rw [mover_congr hmovers, hxm, hrec]
  rw [hrec] at hfin
  have ho5 : outlet t 5 = outlet (withdrawn 5 (stopped s m v f)) 5 := outlet_congr (houts.trans hw.outlets) 5
  rw [← ho5] at h5
  refine ⟨by rw [hmover], by rw [hmover]; rfl, by rw [hmover]; rfl, by rw [hmover]; rfl, by rw [hmovers, hxown], h5.1, h5.2.1, h5.2.2,
    fun hv => ?_, fun k hk => ?_⟩
  · rw [houts, hw.outlets]; exact hduty hv
  · obtain rfl : n = k := by simpa [hn] using hk
    exact hfin

end

end Sys2Proof.Machine
end

section
/-!
PROOF. CANCEL to a TAKEN slot reaches the order's owner (O16).
-/
namespace Sys2Proof.Machine

variable {s t u : State} {n : Fin 32}

theorem power_of_blocksRun (h : blocksRun s = true) : s.charge.power ≠ .starting := by
  unfold blocksRun at h
  simp only [Bool.and_eq_true, bne_iff_ne] at h
  exact h.2

/-- The command leaves what the cancel leaves, but for the digest. -/
theorem exec_slotCancelTaken (hr : s.pins.reset = false) (ht : slotState (access s) n = .taken) :
    ∃ t, exec (.slotCancelTaken n) s = .next t ∧ Shows (cancelTaken n (access s)) t ∧
      t.sansDigest = (cancelTaken n (access s)).sansDigest := by
  obtain ⟨d, hd⟩ := stateWord_eq (n := n) (v := SlotState.cancel.code) hr
  have hexec : exec (.slotCancelTaken n) s = .next (hostWrite (slotAddr n 0) SlotState.cancel.code s) := rfl
  have hstate : stateWrite n SlotState.cancel.code (slotAddr n 0) (access s) = cancelTaken n (access s) :=
    stateWrite_cancelTaken (access s) _ ht
  rw [hstate] at hd
  exact ⟨_, hexec.trans (congrArg _ hd), ⟨_, _, rfl⟩, rfl⟩

theorem sansOrders_of_sansDigest (h : t.sansDigest = s.sansDigest) : t.sansOrders = s.sansOrders :=
  (congrArg State.sansOrders h :)

theorem moveEnded_shows {m : Mover} {v : Move} {f : Outcome} (h : MoveEnded u s m v f) (g : Shows s t) : MoveEnded u t m v f := by
  have hm := mover_congr g.movers m
  have ho := outlet_congr g.outlets 5
  obtain ⟨hmove, hstate, hpos, hknown, howner, h5, hd, hc, hduty, hfin⟩ := h
  exact ⟨hm ▸ hmove, hm ▸ hstate, hm ▸ hpos, hm ▸ hknown, g.movers ▸ howner, ho ▸ h5, ho ▸ hd, ho ▸ hc,
    fun hv => g.outlets ▸ hduty hv, fun k hk => (hfin k hk).shows g⟩

theorem cancelTaken_validate_ends (hw : Mem.Wf 0 u.ram.slots) (hh : heldOf u n = none) (hb : ownerBlock u n = some .store)
    (hp : u.store.phase = .validate) :
    Finished (cancelTaken n u) n { outcome := .cancelled } ∧ (cancelTaken n u).sansOrders = (storeDropped u).sansOrders := by
  rw [cancelTaken_validate hb hp, finish_sansOrders]
  exact ⟨finish_ends (s := storeDropped (setSlotState n .cancel u)) (setSlotWord_wf hw) hh, rfl⟩

theorem cancelTaken_water {f : Fill} (hp : u.charge.power ≠ .starting) (hw : Mem.Wf 0 u.ram.slots) (hh : heldOf u n = none)
    (hb : ownerBlock u n = some .water) (hf : u.water.fill = some f) (hn : f.slot = n)
    (ho : (outlet u 7).state = .on ∨ (outlet u 7).state = .waiting) (hnone : NoneWaitsBut u 7) :
    (cancelTaken n u).water.fill = none ∧ (cancelTaken n u).outlets = (withdrawn 7 u).outlets ∧
      Finished (cancelTaken n u) n
        { outcome := .cancelled, r0 := Word.nat (metered u f), r1 := Word.natHi (metered u f), r2 := 0 } := by
  rw [cancelTaken_of_tell (tellCancel_water (s := setSlotState n .cancel u) hb)]
  obtain ⟨v, hv, hfill, hout, hslots, hdisp⟩ := fillEnd_run (s := setSlotState n .cancel u) (e := .failed .cancelled 0) hp hf ho hnone
  have hwf : Mem.Wf 0 v.ram.slots := hslots ▸ setSlotWord_wf hw
  have hnot : heldOf v n = none := (heldOf_congr (t := v) (s := u) hdisp n).trans hh
  rw [hv, hn]
  exact ⟨(finish_eq_outside _ _ v).2.1 ▸ hfill, (finish_outlets _ _ v).trans hout, finish_ends hwf hnot⟩

theorem cancelTaken_movers {m : Mover} {v : Move} (hp : u.charge.power ≠ .starting) (hw : Mem.Wf 0 u.ram.slots)
    (hb : ownerBlock u n = some .movers) (hn : v.tag = .host n) (hm : moverOf u n = some m) (h : MoveInHand u m v .cancelled) :
    MoveEnded u (cancelTaken n u) m v .cancelled := by
  rw [cancelTaken_of_tell (tellCancel_movers (s := setSlotState n .cancel u) hb hm)]
  exact moveEnd_run (s := setSlotState n .cancel u) hp h hn nofun (setSlotWord_wf hw)

theorem cancelTaken_lights (hw : Mem.Wf 0 u.ram.slots) (hh : heldOf u n = none) (hb : ownerBlock u n = some .lights)
    (h : Fading u n) : (cancelTaken n u).outlets = u.outlets ∧
      (∀ c, channel (cancelTaken n u) c = if (channel u c).owner = some (.host n)
        then { channel u c with target := (channel u c).output, owner := none } else channel u c) ∧
      Finished (cancelTaken n u) n
        { outcome := .cancelled, r0 := Word.nat ((ownedBy u (.host n)).filter fun c => !arrived u c).length } := by
  have hcancel : cancelTaken n u = runReact (cancelRecall n) (setSlotState n .cancel u) := by
    rw [cancelTaken, runReact, runReact, tellCancel_lights (s := setSlotState n .cancel u) hb]
  have hwf : Mem.Wf 0 (setSlotState n .cancel u).ram.slots := setSlotWord_wf hw
  have hout : (setSlotState n .cancel u).outlets = u.outlets := rfl
  have hlights : (setSlotState n .cancel u).lights = u.lights := rfl
  have hdisp : (setSlotState n .cancel u).disp = u.disp := rfl
  rw [hcancel]
  clear hcancel hb
  generalize setSlotState n .cancel u = c at *
  have hchannels : ∀ q, channel c q = channel u q := channel_congr hlights
  have houtlets : ∀ q, outlet c q = outlet u q := outlet_congr hout
  have hfading : Fading c n := by simpa only [Fading, hchannels, houtlets] using h
  have hcount : ((ownedBy c (.host n)).filter fun q => !arrived c q) = (ownedBy u (.host n)).filter fun q => !arrived u q := by
    simp only [ownedBy, arrived, heldDark, hchannels, houtlets]
  obtain ⟨v, hv, hchan, hshow⟩ := cancelRecall_run hfading
  rw [hcount] at hshow
  obtain ⟨hvram, hvdisp, hvout⟩ := hv.outside
  refine ⟨(hshow.outlets.trans (finish_outlets _ _ v)).trans (hvout.trans hout), fun q => ?_, (finish_ends ?_ ?_).shows hshow⟩
  · rw [channel_congr (hshow.lights.trans (finish_eq_outside _ _ v).2.2.2.1), hchan, channel_cancelRecall hfading, hchannels]
  · rw [hvram]; exact hwf
  · rw [heldOf_congr (hvdisp.trans hdisp)]; exact hh

/-- Settles O16: each owner's end is followed act by act. -/
theorem cancelOfTakenReachesOwner : Obligations.CancelOfTakenReachesOwner := by
  intro s n hr u hw hb ht hh
  obtain ⟨t, hexec, hshow, hsans⟩ := exec_slotCancelTaken hr ht
  have hp := power_of_blocksRun hb
  change Shows (cancelTaken n u) t at hshow
  change t.sansDigest = (cancelTaken n u).sansDigest at hsans
  clear_value u
  refine ⟨fun hown hphase => ⟨t, hexec, ?_⟩, fun hown hphase => ⟨t, hexec, ?_⟩, fun f hown hf hn ho hnone => ⟨t, hexec, ?_⟩,
    fun m v hown hn hm h => ⟨t, hexec, ?_⟩, fun hown h => ⟨t, hexec, ?_⟩⟩
  · -- a settings store in VALIDATE
    obtain ⟨hfin, hkept⟩ := cancelTaken_validate_ends hw.1 hh hown hphase
    exact ⟨hfin.shows hshow, (sansOrders_of_sansDigest hsans).trans hkept⟩
  · -- a settings store beyond VALIDATE
    rw [cancelTaken_beyond_validate hown hphase] at hsans
    exact hsans
  · -- a fill
    obtain ⟨hfill, hout, hfin⟩ := cancelTaken_water hp hw.1 hh hown hf hn ho hnone
    have h7 := outlet_withdrawn_same (o := 7) u
    rw [← outlet_congr (hshow.outlets.trans hout) 7] at h7
    exact ⟨hshow.water ▸ hfill, h7.1, h7.2.1, h7.2.2, hfin.shows hshow⟩
  · -- a move
    exact moveEnded_shows (cancelTaken_movers hp hw.1 hown hn hm h) hshow
  · -- a recall
    obtain ⟨hout, hchan, hfin⟩ := cancelTaken_lights hw.1 hh hown h
    exact ⟨hshow.outlets.trans hout, fun c => (channel_congr hshow.lights c).trans (hchan c), hfin.shows hshow⟩

end Sys2Proof.Machine
end

section
/-!
SUPPORT. The node link: the choice of the next transaction, the requests and the quiet wait (R28, R37, R40, R42).
-/
namespace Sys2Proof.Machine

variable {s t : State} {i : Fin 12}

/-! ### Commands of a block that runs -/

theorem inRun_sansDigest {f : State → State} (hb : blocksRun s = true) : (inRun f s).sansDigest = (f s).sansDigest := by
  obtain ⟨d, h⟩ := inRun_eq (f := f) hb
  rw [h]
  rfl

/-! ### Requests (R28) -/

theorem oddParity_makes_odd (w : Word) :
    (((List.range 16).filter w.getLsbD).length + (if oddParity w then 1 else 0)) % 2 = 1 := by
  unfold oddParity
  rcases Nat.mod_two_eq_zero_or_one ((List.range 16).filter w.getLsbD).length with h | h <;> simp [h, Nat.add_mod]

/-! ### The most overdue record (R37) -/

/-- The choice among the records `l` keeps a due record, none of `l` falling due earlier. -/
def Overdue (now : Nat) (s : State) (l : List (Fin 12)) (best : Option (Fin 12)) : Prop :=
  match best with
  | none => ∀ k ∈ l, ∀ d, (node s k).due = some d → now < d
  | some j => j ∈ l ∧ ∃ e, (node s j).due = some e ∧ e ≤ now ∧ ∀ k ∈ l, ∀ d, (node s k).due = some d → e ≤ d

/-- One record considered. -/
def overdueStep (now : Nat) (s : State) (best : Option (Fin 12)) (i : Fin 12) : Option (Fin 12) :=
  match (node s i).due with
  | none => best
  | some d =>
    if now < d then best
    else match best with
      | none => some i
      | some b => if d < ((node s b).due.getD d) then some i else best

theorem mostOverdue_eq (now : Nat) (s : State) : mostOverdue now s = (roster s).foldl (overdueStep now s) none := rfl

theorem Overdue.later {now : Nat} {l : List (Fin 12)} {best : Option (Fin 12)} (h : Overdue now s l best)
    (hi : ∀ d, (node s i).due = some d → now < d) : Overdue now s (l ++ [i]) best := by
  cases best with
  | none =>
    intro k hk d hd
    rcases List.mem_append.1 hk with hk | hk
    · exact h k hk d hd
    · exact hi d (List.mem_singleton.1 hk ▸ hd)
  | some j =>
    obtain ⟨hj, e, he, hle, hmin⟩ := h
    refine ⟨List.mem_append_left _ hj, e, he, hle, fun k hk d hd => ?_⟩
    rcases List.mem_append.1 hk with hk | hk
    · exact hmin k hk d hd
    · exact hle.trans (hi d (List.mem_singleton.1 hk ▸ hd)).le

theorem Overdue.step {now : Nat} {l : List (Fin 12)} {best : Option (Fin 12)} (h : Overdue now s l best) :
    Overdue now s (l ++ [i]) (overdueStep now s best i) := by
  unfold overdueStep
  split
  · next hi => exact h.later fun d hd => by rw [hi] at hd; cases hd
  · next d hi =>
    split
    · next hlt => exact h.later fun e he => by rw [hi] at he; cases he; exact hlt
    · next hle =>
      have hdue : d ≤ now := Nat.le_of_not_lt hle
      have hmem : i ∈ l ++ [i] := List.mem_append_right _ (List.mem_singleton_self i)
      have hbest : (∀ k ∈ l, ∀ e, (node s k).due = some e → d ≤ e) → Overdue now s (l ++ [i]) (some i) := fun hl =>
        ⟨hmem, d, hi, hdue, fun k hk e he => by
          rcases List.mem_append.1 hk with hk | hk
          · exact hl k hk e he
          · rw [List.mem_singleton.1 hk, hi] at he; cases he; exact le_rfl⟩
      cases best with
      | none => exact hbest fun k hk e he => hdue.trans (h k hk e he).le
      | some b =>
        obtain ⟨hb, e, he, hle, hmin⟩ := h
        simp only [he, Option.getD_some]
        split
        · next hlt => exact hbest fun k hk f hf => hlt.le.trans (hmin k hk f hf)
        · next hge =>
          refine ⟨List.mem_append_left _ hb, e, he, hle, fun k hk f hf => ?_⟩
          rcases List.mem_append.1 hk with hk | hk
          · exact hmin k hk f hf
          · rw [List.mem_singleton.1 hk, hi] at hf; cases hf; exact Nat.le_of_not_lt hge

theorem Overdue.foldl {now : Nat} (l : List (Fin 12)) : ∀ {seen : List (Fin 12)} {best : Option (Fin 12)},
    Overdue now s seen best → Overdue now s (seen ++ l) (l.foldl (overdueStep now s) best) := by
  induction l with
  | nil => intro seen best h; rwa [List.append_nil]
  | cons i l ih =>
    intro seen best h
    rw [← List.singleton_append, ← List.append_assoc]
    exact ih h.step

theorem mostOverdue_overdue (now : Nat) (s : State) : Overdue now s (roster s) (mostOverdue now s) := by
  have hnone : Overdue now s [] none := fun k hk => absurd hk (by simp)
  exact mostOverdue_eq now s ▸ hnone.foldl (roster s)

theorem mostOverdue_eq_none {now : Nat} (h : ∀ k ∈ roster s, ∀ d, (node s k).due = some d → now < d) :
    mostOverdue now s = none := by
  have ho := mostOverdue_overdue now s
  cases hm : mostOverdue now s with
  | none => rfl
  | some j =>
    rw [hm] at ho
    obtain ⟨hj, e, he, hle, -⟩ := ho
    exact absurd (h j hj e he) (Nat.not_lt.2 hle)

theorem exists_mostOverdue {now d : Nat} (hi : i ∈ roster s) (hd : (node s i).due = some d) (hle : d ≤ now) :
    ∃ j, mostOverdue now s = some j ∧ Overdue now s (roster s) (some j) := by
  have ho := mostOverdue_overdue now s
  cases hm : mostOverdue now s with
  | none => rw [hm] at ho; exact absurd (ho i hi d hd) (Nat.not_lt.2 hle)
  | some j => exact ⟨j, rfl, hm ▸ ho⟩

/-! ### The choice (R37) -/

theorem linkChoose_remainder {now l : Nat} (hr : recordOf s .heater = some i) (hd : s.link.remainderDue = true)
    (hl : s.link.remainder = some l) : linkChoose now s =
      send i (.heater (.start l)) (setLink (fun k => { k with remainder := none, remainderDue := false }) s) := by
  simp [linkChoose, hr, hd, hl]

theorem linkChoose_heater {now : Nat} {e : HeaterEntry} (hr : recordOf s .heater = some i) (hd : s.link.remainderDue = false)
    (he : s.link.heater = some e) : linkChoose now s = sendHeater i e s := by
  simp [linkChoose, hr, hd, he]

theorem linkChoose_float {now : Nat} (hr : recordOf s .solar = some i) (hd : s.link.remainderDue = false)
    (he : s.link.heater = none) (hs : s.link.solar = true) :
    linkChoose now s = send i .float (setLink (fun k => { k with solar := false }) s) := by
  cases hh : recordOf s .heater <;> simp [linkChoose, hr, hd, he, hs, hh]

theorem linkChoose_poll {now : Nat} (hd : s.link.remainderDue = false) (he : s.link.heater = none) (hs : s.link.solar = false)
    (hm : mostOverdue now s = some i) : linkChoose now s = send i .poll s := by
  cases hh : recordOf s .heater <;> cases hf : recordOf s .solar <;> simp [linkChoose, hd, he, hs, hh, hf, hm]

theorem linkChoose_idle {now : Nat} (hd : s.link.remainderDue = false) (he : s.link.heater = none) (hs : s.link.solar = false)
    (hm : mostOverdue now s = none) : linkChoose now s = setLink (fun k => { k with phase := .idle, txn := none }) s := by
  cases hh : recordOf s .heater <;> cases hf : recordOf s .solar <;> simp [linkChoose, hd, he, hs, hh, hf, hm]

/-! ### The rows of the link (R28, R29, R36, R37) -/

theorem exec_turnaroundEnd (hb : blocksRun s = true) (sub : Nat) (hp : s.link.phase = .turnaround) :
    ∃ t, exec (.turnaroundEnd sub) s = .next t ∧ t.sansDigest = (linkChoose (nowMs s sub) s).sansDigest :=
  ⟨_, rfl, (inRun_sansDigest hb).trans (by rw [turnaround, if_pos hp])⟩

theorem exec_pollDue (hb : blocksRun s = true) {sub : Nat} (hp : s.link.phase = .idle) (hi : isDue i (nowMs s sub) s = true) :
    ∃ t, exec (.pollDue i sub) s = .next t ∧ t.sansDigest = (linkChoose (nowMs s sub) s).sansDigest :=
  ⟨_, rfl, (inRun_sansDigest hb).trans (by rw [pollDue, if_pos ⟨hp, hi⟩])⟩

theorem isDue_of_mem {now d : Nat} (hi : i ∈ roster s) (hd : (node s i).due = some d) (hle : d ≤ now) : isDue i now s = true := by
  have hval : i.val < Image.rosterCount (cfg s) := by simpa [roster] using hi
  simp [isDue, hval, hd, hle]

theorem replyWordFault_of_fault {x : Txn} {r : Role} {index : Nat} {word : Word} {parity stop : Bool} {k : MissKind}
    (hp : s.link.phase = .listening) (hx : s.link.txn = some x) (hr : roleOf s x.record = some r)
    (hk : wordFault r index word parity stop = some k) : replyWordFault index word parity stop s = badReply k s := by
  simp [replyWordFault, hp, hx, hr, hk]

theorem replyWordFault_of_sound {x : Txn} {r : Role} {index : Nat} {word : Word} {parity stop : Bool}
    (hp : s.link.phase = .listening) (hx : s.link.txn = some x) (hr : roleOf s x.record = some r)
    (hk : wordFault r index word parity stop = none) : replyWordFault index word parity stop s = s := by
  simp [replyWordFault, hp, hx, hr, hk]

/-- Parity and stop bit good, and not the status word. -/
theorem wordFault_data (r : Role) {index : Nat} (word : Word) (h : index ≠ 0) : wordFault r index word true true = none := by
  simp [wordFault, h]

/-- Settles O50: each choice is its own case of `linkChoose`. -/
theorem linkChoosesAndListens : Obligations.LinkChoosesAndListens := by
  refine ⟨oddParity_makes_odd, fun a l => ⟨rfl, rfl, rfl, rfl, rfl, rfl, rfl⟩,
    fun s hb => ⟨?_, ?_, ?_, ?_, ?_, ?_, ?_, ?_, ?_, ?_⟩⟩
  · -- the second half of a bound pair
    intro sub i l hp hd hl hr
    have h := exec_turnaroundEnd hb sub hp
    rwa [linkChoose_remainder hr hd hl] at h
  · -- a bound pair in the buffer
    intro sub i l hp hd he hr
    have h := exec_turnaroundEnd hb sub hp
    rwa [linkChoose_heater hr hd he] at h
  · -- FLOAT
    intro sub i hp hd he hs hr
    have h := exec_turnaroundEnd hb sub hp
    rwa [linkChoose_float hr hd he hs] at h
  · -- no work
    intro sub hp hd he hs hdue
    have h := exec_turnaroundEnd hb sub hp
    rwa [linkChoose_idle hd he hs (mostOverdue_eq_none (now := nowMs s sub) hdue)] at h
  · -- a single command in the buffer
    intro sub i c hp hd hr he
    have h := exec_turnaroundEnd hb sub hp
    rwa [linkChoose_heater hr hd he] at h
  · -- a poll
    intro sub i hp hd he hs hi ⟨d, hdue, hle⟩
    obtain ⟨t, hexec, ht⟩ := exec_pollDue hb hp (isDue_of_mem hi hdue hle)
    obtain ⟨j, hm, hj, e, hje, hele, hmin⟩ := exists_mostOverdue (now := nowMs s sub) hi hdue hle
    rw [linkChoose_poll hd he hs hm] at ht
    exact ⟨t, j, e, hexec, hj, hje, hele, hmin, ht⟩
  · intro hp
    exact ⟨_, rfl, (inRun_sansDigest hb).trans (by rw [requestSent, if_pos hp]; rfl)⟩
  · intro hp
    exact ⟨_, rfl, (inRun_sansDigest hb).trans (by rw [replyGap, if_pos hp]; rfl)⟩
  · intro x r index word parity stop k hp hx hr hk
    exact ⟨_, rfl, (inRun_sansDigest hb).trans (by rw [replyWordFault_of_fault hp hx hr hk]; rfl)⟩
  · intro x r index word hp hx hr hi
    exact ⟨_, rfl, (inRun_sansDigest hb).trans (by rw [replyWordFault_of_sound hp hx hr (wordFault_data r word hi)])⟩

/-! ### The quiet wait (R42) -/

theorem quietEnd_starting (sub : Nat) (hp : s.link.phase = .startQuiet) (hs : s.charge.power = .starting) :
    quietEnd sub s = setLink (fun k => { k with phase := .idle }) s := by
  rw [quietEnd, if_pos hp]
  exact if_pos hs

theorem quietEnd_active (sub : Nat) (hp : s.link.phase = .startQuiet) (hs : s.charge.power ≠ .starting) :
    quietEnd sub s = linkBegins (nowMs s sub) (setLink (fun k => { k with phase := .idle }) s) := by
  rw [quietEnd, if_pos hp]
  exact if_neg hs

/-- What a change of the records leaves alone of the link. -/
theorem overNodes_buffers (f : Fin 12 → Node → Node) (l : List (Fin 12)) : ∀ s : State,
    (overNodes f l s).link.heater = s.link.heater ∧ (overNodes f l s).link.solar = s.link.solar ∧
      (overNodes f l s).link.phase = s.link.phase := by
  induction l with
  | nil => exact fun _ => ⟨rfl, rfl, rfl⟩
  | cons i l ih => exact fun s => ih _

theorem node_linkChoose (now : Nat) (s : State) (i : Fin 12) : node (linkChoose now s) i = node s i :=
  congrArg (fun k : Steady => k.nodes[i]) (linkChoose_steady s now)

theorem node_linkBegins {now : Nat} (hi : i ∈ roster s) : (node (linkBegins now s) i).due = some now := by
  have hdue : (node (startDue now s) i).due = some now := by rw [startDue, node_overNodes _ _ _ (roster_nodup s) hi]
  unfold linkBegins
  simp only
  split
  · rw [node_linkChoose, hdue]
  · exact hdue

theorem linkBegins_idle {now : Nat} (he : s.link.heater = none) (hs : s.link.solar = false) (hp : s.link.phase = .idle) :
    (linkBegins now s).link.phase = .idle := by
  obtain ⟨hheater, hsolar, hphase⟩ := overNodes_buffers (fun _ n => { n with due := some now, lastEnd := now }) (roster s) s
  unfold linkBegins
  simp only
  rw [if_neg]
  · exact hphase.trans hp
  · rintro ⟨-, h⟩
    rw [startDue, hheater, hsolar, he, hs] at h
    exact absurd h (by decide)

theorem live_eq {f : State → State} (hr : s.pins.reset = false) :
    ∃ d, live f s = { f s with ram := { (f s).ram with digest := d } } := by
  unfold live
  rw [if_neg (by simp [hr])]
  exact closeFrom_digest s (f s)

/-- Settles O51. -/
theorem quietEndMakesRecordsDue : Obligations.QuietEndMakesRecordsDue := by
  intro s sub hr hp
  refine ⟨fun hs => ⟨_, rfl, (live_sansDigest hr).trans (by rw [quietEnd_starting sub hp hs]; rfl)⟩, fun hs => ⟨_, rfl, ?_⟩⟩
  obtain ⟨d, hd⟩ := live_eq (f := quietEnd sub) hr
  rw [hd, quietEnd_active sub hp hs]
  exact ⟨fun i hi => node_linkBegins (s := setLink (fun k => { k with phase := .idle }) s) hi,
    fun he hsolar => linkBegins_idle (s := setLink (fun k => { k with phase := .idle }) s) he hsolar rfl⟩

end Sys2Proof.Machine
end

section
/-!
SUPPORT. What a cascade leaves of the link and of the heater sequencer: while the turnaround runs no act moves the transaction or the
pair remainder (R37, R38), and the acts that stir the sequencer are told apart from all others.
-/
namespace Sys2Proof.Machine

/-! ### What is watched through a cascade -/

/-- What is watched beside the link: nothing more, that CLEAR_FAULT is not pending, or that the sequencer stays in a state with the
failed starts it has. -/
inductive Watch where
  | link
  | clear
  | state (q : SeqState)

/-- The sequencer's state is not watched. -/
def Watch.lax : Watch → Bool
  | .state _ => false
  | _ => true

/-- The sequencer is not watched at all. -/
def Watch.linkOnly : Watch → Bool
  | .link => true
  | _ => false

/-- The result of a heater command is no concern: it moves the sequencer in IGNITING at most (R132). -/
def Watch.results : Watch → Bool
  | .state .igniting => false
  | _ => true

mutual
/-- The act sets off nothing that could move what is watched, in a state that is as watched. -/
def Act.spares (w : Watch) : Act → Bool
  | .action l => sparesAll w l
  | .req (.demand o _) | .take (.demand o _) => w.lax || o != 2
  | .report o _ x => w.lax || !(o == 2 && x == .tripped)
  | .enter _ _ | .trip _ | .unitLost | .cooldownEnd => w.lax
  | .unitReading _ _ | .offFaulty => w.linkOnly
  | .startFail _ | .result _ _ _ | .post _ | .stopping _ | .igniting => w.results
  | _ => true

def sparesAll (w : Watch) : List Act → Bool
  | [] => true
  | a :: l => a.spares w && sparesAll w l
end

/-- Every act of the list spares what is watched. -/
def Sparing (w : Watch) (l : List Act) : Prop := sparesAll w l = true

section
variable {w : Watch} {l m : List Act}

@[simp] theorem sparing_nil : Sparing w [] := rfl

@[simp] theorem sparing_cons {a : Act} : Sparing w (a :: l) ↔ a.spares w = true ∧ Sparing w l := by
  simp [Sparing, sparesAll]

@[simp] theorem sparing_append : Sparing w (l ++ m) ↔ Sparing w l ∧ Sparing w m := by
  induction l with
  | nil => simp
  | cons a l ih => simp [ih, and_assoc]

@[simp] theorem sparing_ite {c : Prop} [Decidable c] :
    Sparing w (if c then l else m) ↔ (c → Sparing w l) ∧ (¬ c → Sparing w m) := by
  split <;> simp [*]

theorem sparing_iff : Sparing w l ↔ ∀ a ∈ l, a.spares w = true := by
  induction l with
  | nil => simp
  | cons a l ih => simp [ih]

mutual
theorem spares_link (a : Act) : a.spares .link = true := by
  unfold Act.spares
  split
  · exact sparesAll_link _
  all_goals rfl

theorem sparesAll_link (l : List Act) : sparesAll .link l = true := by
  cases l with
  | nil => rfl
  | cons a l => rw [sparesAll, spares_link a, sparesAll_link l]; rfl
end

end

/-- What is watched of the sequencer, `b` being the state the watch began in. -/
def Watch.Sees (b s : State) : Watch → Prop
  | .link => True
  | .clear => (seq s).clearPending = false
  | .state q => (q = .igniting ∨ q = .stopping) ∧ (seq s).state = q ∧ (seq s).failed = (seq b).failed

/-- The turnaround runs with the transaction and the pair remainder of `b`, and the sequencer is as watched. -/
structure Minds (w : Watch) (b s : State) : Prop where
  phase : s.link.phase = .turnaround
  txn : s.link.txn = b.link.txn
  remainder : s.link.remainder = b.link.remainder
  remainderDue : s.link.remainderDue = b.link.remainderDue
  seq : w.Sees b s

section
variable {w : Watch} {b s t : State}

theorem Minds.congr (h : Minds w b s) (hl : t.link = s.link) (hq : t.climate.seq = s.climate.seq) : Minds w b t where
  phase := by rw [hl, h.phase]
  txn := by rw [hl, h.txn]
  remainder := by rw [hl, h.remainder]
  remainderDue := by rw [hl, h.remainderDue]
  seq := by
    have hseq : Machine.seq t = Machine.seq s := hq
    have hs := h.seq
    cases w with
    | link => trivial
    | clear => exact (congrArg Sequencer.clearPending hseq).trans hs
    | state q => exact ⟨hs.1, (congrArg Sequencer.state hseq).trans hs.2.1, (congrArg Sequencer.failed hseq).trans hs.2.2⟩

/-- A sequencer that is watched is in IGNITING or STOPPING. -/
theorem Minds.lax (h : Minds w b s) (hi : (Machine.seq s).state ≠ .igniting) (hs : (Machine.seq s).state ≠ .stopping) :
    w.lax = true := by
  have hq := h.seq
  cases w with
  | link => rfl
  | clear => rfl
  | state q =>
    obtain ⟨rfl | rfl, e, -⟩ := hq
    · exact absurd e hi
    · exact absurd e hs

end

/-! ### Reactions -/

/-- The part of the state that most reactions do not touch: the link, the sequencer, the state of the HEATER SUPPLY. -/
def State.aside (s : State) : Link × Sequencer × OutletState := (s.link, s.climate.seq, (outlet s 2).state)

/-- A reaction that touches none of these and sets off acts that spare what is watched. -/
def Mute (w : Watch) (s : State) (x : React) : Prop := x.1.aside = s.aside ∧ Sparing w x.2

/-- A reaction that leaves what is watched as it is, does not trip the HEATER SUPPLY, and sets off acts of the same kind. -/
def Tame (w : Watch) (b s : State) (x : React) : Prop :=
  Minds w b s → Minds w b x.1 ∧ Sparing w x.2 ∧ ((outlet x.1 2).state = .tripped → (outlet s 2).state = .tripped)

section
variable {w : Watch} {b s t : State} {x : React} {l : List Act}

theorem Minds.aside (h : Minds w b s) (ha : t.aside = s.aside) : Minds w b t :=
  h.congr (congrArg (·.1) ha) (congrArg (·.2.1) ha)

theorem Mute.tame (h : Mute w s x) : Tame w b s x := fun hm =>
  ⟨hm.aside h.1, h.2, fun e => by rwa [show (outlet x.1 2).state = (outlet s 2).state from congrArg (·.2.2) h.1] at e⟩

theorem mute_nil (s : State) : Mute w s (s, []) := ⟨rfl, rfl⟩

theorem tame_acts (hl : Sparing w l) : Tame w b s (s, l) := Mute.tame ⟨rfl, hl⟩

theorem tame_nil (s : State) : Tame w b s (s, []) := tame_acts rfl

/-- The sequencer's record changes in fields that are not watched, or CLEAR_FAULT is no longer pending. -/
theorem tame_setSeq {g : Sequencer → Sequencer} (hl : Sparing w l)
    (hc : ∀ q, (g q).clearPending = true → q.clearPending = true := by exact fun _ h => h)
    (hg : ∀ q, (g q).state = q.state ∧ (g q).failed = q.failed := by exact fun _ => ⟨rfl, rfl⟩) :
    Tame w b s (setSeq g s, l) := fun hm => by
  obtain ⟨hstate, hfailed⟩ := hg s.climate.seq
  refine ⟨⟨hm.phase, hm.txn, hm.remainder, hm.remainderDue, ?_⟩, hl, id⟩
  have hq := hm.seq
  cases w with
  | link => trivial
  | clear => exact Bool.eq_false_iff.2 fun e => Bool.eq_false_iff.1 hq (hc _ e)
  | state q => exact ⟨hq.1, hstate.trans hq.2.1, hfailed.trans hq.2.2⟩

/-- Where the sequencer's state is not watched, its record may change but for CLEAR_FAULT pending. -/
theorem tame_of_lax {g : Sequencer → Sequencer} (hw : Minds w b s → w.lax = true) (hl : w.lax = true → Sparing w l)
    (hc : ∀ q, (g q).clearPending = true → q.clearPending = true := by exact fun _ h => h) :
    Tame w b s (setSeq g s, l) := fun hm => by
  refine ⟨⟨hm.phase, hm.txn, hm.remainder, hm.remainderDue, ?_⟩, hl (hw hm), id⟩
  have hq := hm.seq
  cases w with
  | link => trivial
  | clear => exact Bool.eq_false_iff.2 fun e => Bool.eq_false_iff.1 hq (hc _ e)
  | state q => exact absurd (hw hm) (by simp [Watch.lax])

/-- In a state other than IGNITING and STOPPING the sequencer's state is not watched. -/
theorem tame_in {q : SeqState} {g : Sequencer → Sequencer} (hq : (seq s).state = q) (hl : w.lax = true → Sparing w l)
    (hn : q ≠ .igniting ∧ q ≠ .stopping := by exact ⟨by decide, by decide⟩)
    (hc : ∀ q, (g q).clearPending = true → q.clearPending = true := by exact fun _ h => h) :
    Tame w b s (setSeq g s, l) :=
  tame_of_lax (fun hm => hm.lax (hq ▸ hn.1) (hq ▸ hn.2)) hl hc

/-- Where the link alone is watched, a reaction that leaves it and the outlets is tame. -/
theorem tame_link (hl : x.1.link = s.link) (ho : x.1.outlets = s.outlets) : Tame .link b s x := fun hm =>
  ⟨⟨hl ▸ hm.phase, hl ▸ hm.txn, hl ▸ hm.remainder, hl ▸ hm.remainderDue, trivial⟩, sparesAll_link _,
    fun e => by rwa [outlet_congr ho] at e⟩

end

end Sys2Proof.Machine
end

section
/-!
SUPPORT. The reactions of the blocks, the sequencer's apart, leave the link and the sequencer alone (`Mute`).
-/
namespace Sys2Proof.Machine

variable {w : Watch} {b : State} (s : State)

/-! ### Notices, slots, digest -/

theorem State.aside_congr {s t : State} (hl : t.link = s.link) (hc : t.climate = s.climate) (ho : t.outlets = s.outlets) :
    t.aside = s.aside := by
  unfold State.aside
  rw [hl, hc, outlet_congr ho]

theorem finish_aside (n : Fin 32) (f : Finish) : (finish n f s).aside = s.aside :=
  have h := finish_sansOrders n f s
  State.aside_congr (congrArg State.link h :) (congrArg State.climate h :) (congrArg State.outlets h :)

theorem afterReports_aside : (afterReports s).aside = s.aside := by
  obtain ⟨_, _, h⟩ := afterReports_shows s
  rw [h]
  rfl

theorem setHeld_aside (o : Fin 16) (x : Bool) : (setHeld o x s).aside = s.aside := by
  have h : (outlet (setHeld o x s) 2).state = (outlet s 2).state := by
    rw [setHeld, outlet_setOutlet]
    split
    · next e => rw [e]
    · rfl
  exact congrArg (fun q => (s.link, s.climate.seq, q)) h

theorem seqFlags_aside : (seqFlags s).aside = s.aside :=
  have h : (seqFlags s).aside = (setHeld 2 (seq s).state.active s).aside := rfl
  h.trans (setHeld_aside s 2 _)

theorem showing_mute {l : List Part} {f : State → React} (h : Mute w s (f s)) : Mute w s (showing l f s) := h

theorem closing_tame {m l : List Part} {f : State → React} (h : Tame w b s (f s)) : Tame w b s (closing m l f s) := fun hm => by
  obtain ⟨hmind, hl, ht⟩ := h hm
  exact ⟨hmind, sparing_append.2 ⟨hl, rfl⟩, ht⟩

/-! ### The interlock engine -/

theorem sparing_netFalls (l : List Change) : Sparing w (netFalls l) := sparing_iff.2 fun a ha => by
  obtain ⟨o, -, e⟩ := List.mem_filterMap.1 ha
  simp only at e
  split at e
  · cases e; rfl
  · cases e

theorem sparing_handOut (l : List Change) : Sparing w (handOut l) := by
  have hr : ∀ m, Sparing w (blockRiseActs l m) := fun m => by unfold blockRiseActs; simp only; split <;> rfl
  have hf : ∀ m, Sparing w (blockFallActs l m) := fun m => by unfold blockFallActs; simp only; split <;> rfl
  have hrise : Sparing w [.action [.rises (netRises l)]] := rfl
  simp [handOut, hr, hf, sparing_netFalls, hrise, Act.spares]

theorem setBlockCount_aside (m : Mover) (k : Nat) : (setBlockCount m k s).aside = s.aside := by cases m <;> rfl

theorem blockRise_mute (m : Mover) (k : Nat) : Mute w s (blockRise m k s) :=
  ⟨setBlockCount_aside _ _ _, by simp [blockRise, Act.spares]⟩

theorem blockFall_aside (m : Mover) (k : Nat) : (blockFall m k s).aside = s.aside := setBlockCount_aside _ _ _

theorem evalNotices_aside (l : List Nat) (c : Bool) : (evalNotices l c s).aside = s.aside := by
  unfold evalNotices; simp only; (repeat' split) <;> rfl

/-! ### Charge monitor -/

theorem solarEval_mute : Mute w s (solarEval s) := by unfold solarEval; split <;> exact ⟨rfl, rfl⟩
theorem shedEval_mute : Mute w s (shedEval s) := by unfold shedEval; simp only; split <;> exact ⟨rfl, rfl⟩
theorem limitEval_mute : Mute w s (limitEval s) := by unfold limitEval; simp only; split <;> exact ⟨rfl, rfl⟩
theorem floatDone_mute (x : CmdResult) : Mute w s (floatDone x s) := ⟨rfl, rfl⟩

/-! ### Water -/

theorem pumpStart_mute : Mute w s (pumpStart s) := by
  unfold pumpStart; split
  · exact ⟨rfl, rfl⟩
  · exact ⟨rfl, by simp [Act.spares]⟩
theorem pumpDry_mute (c : DryCause) : Mute w s (pumpDry c s) := ⟨rfl, rfl⟩
theorem pumpLeaveDry_mute : Mute w s (pumpLeaveDry s) := ⟨rfl, by simp [pumpLeaveDry, Act.spares]⟩
theorem freshPump_mute : Mute w s (freshPump s) := by
  unfold freshPump
  split
  · exact ⟨rfl, rfl⟩
  · split
    · exact pumpLeaveDry_mute s
    · exact mute_nil s
theorem pumpReport_mute (x : OutletState) : Mute w s (pumpReport x s) := by
  unfold pumpReport; (repeat' split) <;> exact ⟨rfl, rfl⟩
theorem fillEnd_mute (e : FillEnd) : Mute w s (fillEnd e s) := by unfold fillEnd; split <;> exact ⟨rfl, rfl⟩
theorem fillFinish_mute (e : FillEnd) : Mute w s (fillFinish e s) := by unfold fillFinish; split <;> exact ⟨rfl, rfl⟩
theorem freshFill_mute : Mute w s (freshFill s) := by
  unfold freshFill; split
  · exact fillEnd_mute s _
  · exact mute_nil s
theorem fillReport_mute (x : OutletState) : Mute w s (fillReport x s) := by
  unfold fillReport; split
  · exact mute_nil s
  · next f _ =>
    have hend : ∀ e, Mute w s (fillEnd e (setFill { f with valve := x } s)) := fun e => fillEnd_mute (setFill { f with valve := x } s) e
    simp only
    split
    · exact ⟨rfl, rfl⟩
    · exact ⟨rfl, rfl⟩
    · exact hend _
    · exact hend _
    · exact hend _
    · exact ⟨rfl, rfl⟩
theorem sparing_stageActs (t : Option Int) : Sparing w (stageActs s t) := by unfold stageActs; split <;> rfl
theorem frostEval_mute (c : Bool) : Mute w s (frostEval c s) := by
  unfold frostEval; simp only; split
  · refine ⟨rfl, ?_⟩
    simp [sparing_stageActs]
  · have hb : ∀ t, Sparing w (blindActs s t).2 := fun t => by unfold blindActs; simp only; split <;> rfl
    exact ⟨rfl, sparing_append.2 ⟨hb _, sparing_stageActs s _⟩⟩
theorem stageChange_mute (t : Stage) (c : BitVec 32) : Mute w s (stageChange t c s) := by
  unfold stageChange; simp only; split
  · exact mute_nil s
  · exact ⟨rfl, by simp [Act.spares]⟩
theorem stageFill_mute (t : Stage) : Mute w s (stageFill t s) := by
  unfold stageFill; split
  · exact fillEnd_mute s _
  · exact mute_nil s
theorem stageLeave_mute (x y : Stage) : Mute w s (stageLeave x y s) := ⟨rfl, by simp [stageLeave, Act.spares]⟩
theorem stageBegin_mute (x y : Stage) : Mute w s (stageBegin x y s) := ⟨rfl, by simp [stageBegin, Act.spares]⟩
theorem drainLatch_mute : Mute w s (drainLatch s) := ⟨setHeld_aside (setLatch true s) 1 true, rfl⟩

/-! ### Climate: zones, flaps, demand, level -/

theorem sparing_flapActs {o : Fin 16} (h : o ≠ 2) (x y : Bool) : Sparing w (flapActs s o x y) := by
  unfold flapActs
  (repeat' split) <;> simp [Act.spares, h]

theorem climateChange_mute {f : Climate → Climate} (hf : (f s.climate).seq = s.climate.seq) : Mute w s (climateChange f s) :=
  ⟨congrArg (fun q => (s.link, q, (outlet s 2).state)) hf, by simp [climateChange, sparing_flapActs, Act.spares]⟩

theorem zoneFollow_mute (z : Fin 3) : Mute w s (zoneFollow z s) := climateChange_mute s rfl

theorem frostDemand_mute (c : Bool) : Mute w s (frostDemand c s) := by
  unfold frostDemand; split
  · exact mute_nil s
  · obtain ⟨hs, hl⟩ := climateChange_mute (w := w) s (f := fun k =>
      { k with frost := c, zones := k.zones.set 2 (lockerZone c k.zones[2]) }) rfl
    exact ⟨hs, sparing_append.2 ⟨hl, rfl⟩⟩

theorem heatDemand_mute : Mute w s (heatDemand s) := ⟨rfl, by simp [heatDemand, Act.spares]⟩

/-! ### Movers -/

@[simp] theorem setMover_aside (m : Mover) (x : MoverRec) : (setMover m x s).aside = s.aside := by cases m <;> rfl
@[simp] theorem setPending_aside (m : Mover) (c : Bool) : (setPending m c s).aside = s.aside := by cases m <;> rfl

theorem stowSignal_mute (m : Mover) : Mute w s (stowSignal m s) := by
  unfold stowSignal; simp only; split
  · exact ⟨setPending_aside _ _ _, rfl⟩
  · exact ⟨rfl, rfl⟩

theorem claim_mute (m : Mover) : Mute w s (claim m s) := by
  unfold claim; split
  · exact mute_nil s
  · exact ⟨rfl, by simp [Act.spares]⟩

theorem leaveStalled_aside (m : Mover) : (leaveStalled m s).aside = s.aside := by
  unfold leaveStalled; simp only; split
  · exact setMover_aside s _ _
  · rfl

theorem autoStart_mute (m : Mover) (t : MoveTag) (d : Dir) : Mute w s (autoStart m t d s) :=
  ⟨(setMover_aside _ _ _).trans (leaveStalled_aside s m), rfl⟩

theorem requestRetract_mute (m : Mover) : Mute w s (requestRetract m s) := by
  unfold requestRetract; split
  · exact mute_nil s
  · split
    · exact autoStart_mute s m _ _
    · exact ⟨setPending_aside _ _ _, rfl⟩

theorem serveRelease_mute : Mute w s (serveRelease s) := by
  have hstart : ∀ m, Mute w s (autoStart m .retract .inward (setPending m false s)) := fun m =>
    have h := autoStart_mute (w := w) (setPending m false s) m .retract .inward
    ⟨h.1.trans (setPending_aside s m false), h.2⟩
  unfold serveRelease
  split
  · exact mute_nil s
  · split
    · exact hstart .step
    · split
      · exact hstart .awning
      · exact mute_nil s

theorem extension_mute : Mute w s (extension s) := by
  unfold extension; simp only
  split
  · split
    · exact ⟨rfl, rfl⟩
    · exact autoStart_mute s _ _ _
  · exact mute_nil s

theorem stopDrive_aside (m : Mover) (c : Bool) : (stopDrive m c s).aside = s.aside := by
  unfold stopDrive; simp only
  split
  · split
    · exact (rfl : (setDuty 0 _).aside = _).trans (setMover_aside s _ _)
    · exact setMover_aside s _ _
  · rfl

theorem sparing_endActs (m : Mover) (f : Outcome) (x : Word) : Sparing w (endActs s m f x) := by
  simp [endActs, Act.spares]

theorem moveEnd_mute (m : Mover) (f : Outcome) (x : Word) : Mute w s (moveEnd m f x s) := by
  unfold moveEnd
  split
  · exact mute_nil s
  · split
    · exact mute_nil s
    · exact ⟨stopDrive_aside s _ _, sparing_endActs s _ _ _⟩

theorem moveFree_aside (m : Mover) : (moveFree m s).aside = s.aside := by unfold moveFree; split <;> rfl

theorem moveResult_mute (m : Mover) (f : Outcome) (x : Word) : Mute w s (moveResult m f x s) := by
  unfold moveResult; simp only
  split
  · exact mute_nil s
  · split <;> exact ⟨setMover_aside s _ _, by simp [Act.spares]⟩

theorem driveStart_mute (m : Mover) (v : Move) : Mute w s (driveStart m v s) := by
  unfold driveStart; simp only
  split
  · exact ⟨rfl, rfl⟩
  · exact ⟨(rfl : (setIdle 0 (setDuty _ _)).aside = _).trans (setMover_aside s _ _), rfl⟩

theorem bridgeReport_mute (x : OutletState) : Mute w s (bridgeReport x s) := by
  unfold bridgeReport
  split
  · exact mute_nil s
  · split
    · exact mute_nil s
    · split
      · exact ⟨rfl, by simp [sparing_endActs]⟩
      · split
        · exact ⟨rfl, rfl⟩
        · split
          · exact mute_nil s
          · exact driveStart_mute s _ _
        · simp only
          split
          · exact mute_nil s
          · exact ⟨setMover_aside s _ _, rfl⟩

theorem bridgeAsk_mute : Mute w s (bridgeAsk s) := by
  unfold bridgeAsk; split
  · exact ⟨stopDrive_aside s _ _, rfl⟩
  · exact mute_nil s

theorem blockBegins_mute (m : Mover) : Mute w s (blockBegins m s) := by
  unfold blockBegins; (repeat' split) <;> exact ⟨rfl, rfl⟩

/-! ### Lighting -/

theorem lightOutlet_ne_supply (c : Fin 6) : lightOutlet c ≠ 2 := fun e => by
  have h : 10 + c.val = 2 := congrArg Fin.val e
  omega

theorem sparing_lightDemand (c : Fin 6) : Sparing w (lightDemand s c) := by
  unfold lightDemand; simp only
  (repeat' split) <;> simp [Act.spares, lightOutlet_ne_supply]

theorem ramp_mute (c : Fin 6) : Mute w s (ramp c s) := by
  unfold ramp; simp only; split
  · refine ⟨rfl, sparing_append.2 ⟨sparing_append.2 ⟨?_, ?_⟩, rfl⟩⟩
    · simp [sparing_lightDemand]
    · split <;> rfl
  · exact mute_nil s

theorem lightCut_mute (c : Fin 6) (x : Bool) {l : List Act} (h : Sparing w l) : Mute w s (lightCut c x l s) :=
  ⟨rfl, by simp [lightCut, sparing_lightDemand, h]⟩

theorem lightReport_mute (c : Fin 6) (x y : OutletState) : Mute w s (lightReport c x y s) := by
  have hshow : Sparing w [.shown [.channel c] recallParts] := rfl
  unfold lightReport
  simp only
  split
  · split
    · exact ⟨rfl, sparing_append.2 ⟨rfl, sparing_append.2 ⟨by split <;> rfl, hshow⟩⟩⟩
    · split <;> exact ⟨rfl, sparing_append.2 ⟨by split <;> rfl, hshow⟩⟩
  · exact lightCut_mute s c _ (sparing_append.2 ⟨by split <;> rfl, hshow⟩)
  · exact lightCut_mute s c _ (sparing_append.2 ⟨by split <;> rfl, hshow⟩)
  · exact lightCut_mute s c _ (sparing_append.2 ⟨by split <;> rfl, hshow⟩)
  · exact lightCut_mute s c _ (sparing_append.2 ⟨by split <;> rfl, hshow⟩)
  · exact ⟨rfl, sparing_append.2 ⟨by split <;> rfl, hshow⟩⟩

theorem lookup_aside (n : Fin 32) : (lookup n s).1.aside = s.aside := by
  unfold lookup; simp only
  (repeat' split) <;> rfl

theorem OnlyLights.aside {s t : State} (h : OnlyLights s t) : t.aside = s.aside := by
  obtain ⟨_, rfl⟩ := h
  rfl

theorem clearOwners_aside (l : List LightOwner) : ∀ s : State, (clearOwners l s).aside = s.aside := by
  induction l with
  | nil => exact fun _ => rfl
  | cons n l ih => exact fun s => (ih _).trans (clearOwner_onlyLights n channels s).aside

theorem recallStep_mute (l : List Word) (n : LightOwner) (c : Bool) (cs : List (Fin 6)) (lost : List (LightOwner × Fin 6)) :
    Mute w s (recallStep l n c cs lost s) := by
  unfold recallStep
  split
  · exact ⟨rfl, sparing_append.2 ⟨sparing_lightDemand _ _, rfl⟩⟩
  · refine ⟨clearOwners_aside _ s, sparing_append.2 ⟨sparing_iff.2 fun a ha => ?_, rfl⟩⟩
    obtain ⟨e, -, rfl⟩ := List.mem_map.1 ha
    rfl

theorem supersede_mute (p o : LightOwner) (c : Fin 6) : Mute w s (supersede p o c s) := by
  unfold supersede; split <;> exact ⟨rfl, rfl⟩

theorem arrive_mute (x : Recall) : Mute w s (arrive x s) := by
  have h : (clearOwner x.owner channels (dropRecalls [x.owner] s)).aside = s.aside :=
    (clearOwner_onlyLights _ _ _).aside.trans rfl
  unfold arrive
  generalize clearOwner x.owner channels (dropRecalls [x.owner] s) = t at h ⊢
  split <;> exact ⟨h, rfl⟩

theorem recallTest_mute (n : LightOwner) : Mute w s (recallTest n s) := by
  unfold recallTest
  split
  · split
    · exact arrive_mute s _
    · exact mute_nil s
  · exact mute_nil s

theorem applied_mute (n : LightOwner) (k : Nat) (c : Bool) : Mute w s (applied n k c s) := ⟨rfl, rfl⟩

theorem doorScene_mute : Mute w s (doorScene s) := by
  unfold doorScene
  split
  · exact mute_nil s
  · split
    · exact mute_nil s
    · next n _ =>
      have h := lookup_aside s n
      split
      · next e => rw [e] at h; exact ⟨h, rfl⟩
      · next e => rw [e] at h; exact ⟨h, rfl⟩

end Sys2Proof.Machine
end

section
/-!
SUPPORT. The reactions of the heater sequencer and the postings to the link, while the turnaround runs (`Tame`).
-/
namespace Sys2Proof.Machine

variable {w : Watch} {b s : State}

theorem Watch.results_of_lax (h : w.lax = true) : w.results = true := by
  cases w with
  | link => rfl
  | clear => rfl
  | state q => cases h

/-- Where the result of a command is no concern and the sequencer is in IGNITING, its state is not watched. -/
theorem Minds.lax_of_igniting (h : Minds w b s) (hr : w.results = true) (hi : (Machine.seq s).state = .igniting) : w.lax = true := by
  have hq := h.seq
  cases w with
  | link => rfl
  | clear => rfl
  | state q =>
    obtain ⟨-, e, -⟩ := hq
    rw [hi] at e
    subst e
    cases hr

/-! ### Postings (R38) -/

theorem chooseIfIdle_of_busy (h : s.link.phase ≠ .idle) : chooseIfIdle s = s := by
  rw [chooseIfIdle, if_neg fun e => h e.1]

/-- An entry that a buffer takes while the turnaround runs waits there. -/
theorem tame_posted {f : Link → Link} (hf : (f s.link).phase = s.link.phase ∧ (f s.link).txn = s.link.txn ∧
    (f s.link).remainder = s.link.remainder ∧ (f s.link).remainderDue = s.link.remainderDue) :
    Tame w b s (chooseIfIdle (setLink f s), []) := by
  intro hm
  obtain ⟨hphase, htxn, hrem, hdue⟩ := hf
  have hturn : (f s.link).phase = .turnaround := hphase.trans hm.phase
  have hbusy : (setLink f s).link.phase ≠ .idle := fun e => by
    rw [show (setLink f s).link.phase = .turnaround from hturn] at e
    cases e
  rw [chooseIfIdle_of_busy hbusy]
  exact ⟨⟨hturn, htxn.trans hm.txn, hrem.trans hm.remainder, hdue.trans hm.remainderDue, hm.seq⟩, rfl, id⟩

theorem postHeater_tame (hr : w.results = true) (e : HeaterEntry) : Tame w b s (postHeater e s) := by
  unfold postHeater
  split
  · exact tame_acts (by cases e <;> simp [Act.spares, hr])
  · exact tame_posted ⟨rfl, rfl, rfl, rfl⟩

theorem postFloat_tame : Tame w b s (postFloat s) := by
  unfold postFloat
  split
  · exact tame_acts rfl
  · exact tame_posted ⟨rfl, rfl, rfl, rfl⟩

/-! ### Changes of state -/

theorem sparing_toOff (hw : w.lax = true) (c : BitVec 32) : Sparing w (toOff c) := by simp [toOff, Act.spares, hw]

theorem sparing_toLocked (hw : w.lax = true) (c : BitVec 32) : Sparing w (toLocked c) := by simp [toLocked, Act.spares, hw]

/-- A change of state followed by what it brings. -/
theorem sparing_stop (hw : w.lax = true) (c : BitVec 32) (x : Bool) : Sparing w [.enter .stopping c, .stopping x] := by
  simp [Act.spares, hw, Watch.results_of_lax hw]

theorem sparing_enter (x : SeqState) (c : BitVec 32) : Sparing w (enter x c s).2 := by simp [enter, Act.spares]

theorem enter_tame (hw : w.lax = true) (x : SeqState) (c : BitVec 32) : Tame w b s (enter x c s) :=
  tame_of_lax (fun _ => hw) fun _ => sparing_enter x c

theorem heaterTest_tame : Tame w b s (heaterTest s) := by
  unfold heaterTest
  split
  · next h => exact tame_in h.1 fun hw => by simp [Act.spares, hw]
  · exact tame_nil s

theorem igniting_tame (hr : w.results = true) : Tame w b s (igniting s) := tame_setSeq (by simp [Act.spares, hr])

theorem startFail_tame (hr : w.results = true) (c : BitVec 32) : Tame w b s (startFail c s) := by
  unfold startFail
  split
  · next h => exact tame_of_lax (fun hm => hm.lax_of_igniting hr h) fun hw => sparing_stop hw _ _
  · exact tame_nil s

theorem stopping_mute (hr : w.results = true) (x : Bool) : Mute w s (stopping x s) :=
  ⟨rfl, by simp [stopping, Act.spares, hr]⟩

theorem running_tame : Tame w b s (running s) := tame_setSeq rfl

theorem runJudge_tame : Tame w b s (runJudge s) := by
  unfold runJudge
  split
  · exact tame_nil s
  · next h =>
    have hrun := not_not.1 h
    split
    · exact tame_in (g := id) hrun fun hw => sparing_stop hw _ _
    · split
      · exact tame_in (g := id) hrun fun hw => sparing_stop hw _ _
      · split
        · exact tame_in (g := id) hrun fun hw => by simp [Act.spares, Watch.results_of_lax hw]
        · exact tame_nil s

theorem runShed_tame : Tame w b s (runShed s) := by
  unfold runShed
  split
  · next h => exact tame_in (g := id) h.1 fun hw => sparing_stop hw _ _
  · exact tame_nil s

theorem seqDemand_tame : Tame w b s (seqDemand s) := by
  unfold seqDemand
  split
  · exact Mute.tame ⟨rfl, rfl⟩
  · next h =>
    split
    · exact tame_nil s
    · exact tame_in (g := id) h fun hw => sparing_toOff hw _
  · exact tame_setSeq rfl
  · exact tame_nil s

theorem seqLevel_tame : Tame w b s (seqLevel s) := by
  unfold seqLevel
  split
  · next h => exact tame_in (g := id) h fun hw => by simp [Act.spares, Watch.results_of_lax hw]
  · exact tame_nil s

theorem seqFrost_tame (x : Bool) : Tame w b s (seqFrost x s) := by
  unfold seqFrost
  split
  · exact Mute.tame ⟨rfl, rfl⟩
  · next h =>
    split
    · exact tame_in h fun hw => by simp [Act.spares, hw]
    · exact tame_nil s
  · split
    · exact tame_nil s
    · exact Mute.tame ⟨rfl, rfl⟩
  · exact tame_nil s

theorem seqShed_mute : Mute w s (seqShed s) := by unfold seqShed; split <;> exact ⟨rfl, rfl⟩

theorem cooldownEnd_tame (hw : w.lax = true) : Tame w b s (cooldownEnd s) := by
  unfold cooldownEnd
  split
  · exact tame_nil s
  · split
    · exact tame_of_lax (g := id) (fun _ => hw) fun _ => sparing_toLocked hw _
    · exact tame_of_lax (fun _ => hw) fun _ => sparing_toOff hw _

theorem unitLost_tame (hw : w.lax = true) : Tame w b s (unitLost s) := by
  have hlost : Sparing w [.enter .unitLost cUnitLost, .post (.single .stop)] := by
    simp [Act.spares, hw, Watch.results_of_lax hw]
  unfold unitLost
  split
  · exact tame_of_lax (g := id) (fun _ => hw) fun _ => hlost
  · exact tame_of_lax (g := id) (fun _ => hw) fun _ => hlost
  · exact tame_of_lax (g := id) (fun _ => hw) fun _ => hlost
  · exact tame_of_lax (g := id) (fun _ => hw) fun _ => sparing_toOff hw _
  · exact tame_nil s

/-! ### Readings of the unit, with the link alone watched -/

theorem offFaulty_tame : Tame .link b s (offFaulty s) :=
  tame_link (by unfold offFaulty; (repeat' split) <;> rfl) (by unfold offFaulty; (repeat' split) <;> rfl)

theorem runningReading_outside (u : UnitReading) : (runningReading u s).1.link = s.link ∧ (runningReading u s).1.outlets = s.outlets := by
  unfold runningReading; (repeat' split) <;> exact ⟨rfl, rfl⟩

theorem lostReading_outside (u : UnitReading) (x : Bool) :
    (lostReading u x s).1.link = s.link ∧ (lostReading u x s).1.outlets = s.outlets := by
  unfold lostReading; (repeat' split) <;> exact ⟨rfl, rfl⟩

theorem unitReading_outside (u : Option UnitReading) (x : Bool) :
    (unitReading u x s).1.link = s.link ∧ (unitReading u x s).1.outlets = s.outlets := by
  unfold unitReading
  simp only
  split
  · exact ⟨rfl, rfl⟩
  · exact ⟨rfl, rfl⟩
  · exact ⟨rfl, rfl⟩
  · exact ⟨rfl, rfl⟩
  · exact ⟨rfl, rfl⟩
  · (repeat' split) <;> exact ⟨rfl, rfl⟩
  · exact runningReading_outside (s := setSeq _ s) _
  · exact ⟨rfl, rfl⟩
  · exact ⟨rfl, rfl⟩
  · exact lostReading_outside (s := setSeq _ s) _ _

theorem unitReading_tame (u : Option UnitReading) (x : Bool) : Tame .link b s (unitReading u x s) :=
  tame_link (unitReading_outside u x).1 (unitReading_outside u x).2

/-! ### Results and reports -/

theorem heaterResult_tame (hr : w.results = true) (c : HeaterCmd) (x : CmdResult) (y : Bool) :
    Tame w b s (heaterResult c x y s) := by
  have hfail : Tame w b s (s, [.startFail 0]) := tame_acts (by simp [Act.spares, hr])
  have hpost : ∀ e, Tame w b s (s, [.post e]) := fun e => tame_acts (by simp [Act.spares, hr])
  unfold heaterResult
  simp only
  split
  · split
    · exact tame_nil s
    · exact hfail
  · split
    · exact tame_nil s
    · exact hfail
  · split
    · exact hpost _
    · exact tame_nil s
  · split
    · exact hpost _
    · exact tame_nil s
  · split
    · exact tame_setSeq rfl fun _ h => by cases h
    · next h =>
      have hoff := not_not.1 h
      split
      · exact tame_in hoff (fun hw => sparing_toLocked hw _) (hc := fun _ h => by cases h)
      · exact tame_setSeq rfl fun _ h => by cases h

theorem supplyReport_tame {x : OutletState} (hx : x = .tripped → w.lax = true) : Tame w b s (supplyReport x s) := by
  unfold supplyReport
  simp only
  split
  · split
    · next h =>
      exact tame_in (g := fun q => { q with supply := .on, started := s.climate.level }) h fun hw => by
        simp [Act.spares, hw, Watch.results_of_lax hw]
    · exact tame_setSeq rfl
  · have hw := hx rfl
    have htrip : Sparing w [.req (.withdraw 2), .post (.single .stop), .enter .lockedOut (cSupplyTripped ||| cLockedOut)] := by
      simp [Act.spares, hw, Watch.results_of_lax hw]
    have hlock : Tame w b s (setSeq (fun q => { q with supply := .tripped, lockout := true }) s,
        [.req (.withdraw 2), .post (.single .stop), .enter .lockedOut (cSupplyTripped ||| cLockedOut)]) :=
      tame_of_lax (fun _ => hw) fun _ => htrip
    unfold supplyTripped
    split
    · exact hlock
    · exact hlock
    · exact hlock
    · exact tame_setSeq (g := fun q => { q with supply := .tripped, elevation := false }) rfl
    · exact tame_setSeq rfl
  · exact tame_setSeq rfl

theorem supplyAsk_tame : Tame w b s (supplyAsk s) := by
  unfold supplyAsk
  split
  · next h => exact tame_in (g := id) h fun hw => sparing_stop hw _ _
  · split
    · exact Mute.tame ⟨rfl, rfl⟩
    · exact tame_nil s

/-! ### Owners -/

theorem ownerReport_tame {o : Fin 16} {x y : OutletState} (h : (Act.report o x y).spares w = true) :
    Tame w b s (ownerReport o x y s) := by
  unfold ownerReport
  split
  · exact tame_nil s
  · split
    · exact (showing_mute s (pumpReport_mute s _)).tame
    · split
      · next e =>
        subst e
        exact closing_tame s (supplyReport_tame fun e => by subst e; simpa [Act.spares] using h)
      · split
        · exact (bridgeReport_mute s _).tame
        · split
          · exact (showing_mute s (fillReport_mute s _)).tame
          · split
            · exact Mute.tame ⟨rfl, rfl⟩
            · split
              · exact (lightReport_mute s _ _ _).tame
              · exact tame_nil s

theorem ownerAsk_tame (o : Fin 16) : Tame w b s (ownerAsk o s) := by
  unfold ownerAsk
  split
  · exact supplyAsk_tame
  · split
    · exact (bridgeAsk_mute s).tame
    · exact tame_nil s

end Sys2Proof.Machine
end

section
/-!
SUPPORT. A cascade in progress that spares what is watched (`Run.Guarded`): every act keeps it so, and the cascade ends as watched.
-/
namespace Sys2Proof.Machine

variable {w : Watch} {b : State}

/-- The demand of the HEATER SUPPLY is raised again where the supply has not tripped (R71). -/
def Resupply (s : State) (a : Act) : Prop := ∃ d, a = .take (.demand 2 d) ∧ (outlet s 2).state ≠ .tripped

/-- Nothing of the cascade can move what is watched: neither the acts on the stack, nor what owners have asked, nor the outlet changes
to report. -/
structure Run.Guarded (w : Watch) (b : State) (r : Run) : Prop where
  minds : Minds w b r.st
  work : ∀ a ∈ r.work, a.spares w = true ∨ Resupply r.st a
  deferred : ∀ q ∈ r.deferred, (Act.req q).spares w = true
  changed : ∀ c ∈ r.changed, (Act.report c.1 c.2.1 c.2.2).spares w = true

namespace Run.Guarded

variable {r : Run}

/-- A change of the state that leaves what is watched and does not trip the HEATER SUPPLY. -/
theorem withState {t : State} (h : r.Guarded w b) (hm : Minds w b t)
    (ht : (outlet t 2).state = .tripped → (outlet r.st 2).state = .tripped) :
    ({ r with st := t } : Run).Guarded w b :=
  ⟨hm, fun a ha => (h.work a ha).imp_right fun ⟨d, e, hd⟩ => ⟨d, e, fun hc => hd (ht hc)⟩, h.deferred, h.changed⟩

theorem push_or {l : List Act} (h : r.Guarded w b) (hl : ∀ a ∈ l, a.spares w = true ∨ Resupply r.st a) : (r.push l).Guarded w b :=
  ⟨h.minds, fun a ha => (List.mem_append.1 ha).elim (hl a) (h.work a), h.deferred, h.changed⟩

theorem push {l : List Act} (h : r.Guarded w b) (hl : Sparing w l) : (r.push l).Guarded w b :=
  h.push_or fun a ha => .inl (sparing_iff.1 hl a ha)

theorem react {f : State → React} (h : r.Guarded w b) (hf : Tame w b r.st (f r.st)) : (r.react f).Guarded w b := by
  obtain ⟨hm, hl, ht⟩ := hf h.minds
  exact (h.withState hm ht).push hl

theorem onState {f : State → State} (h : r.Guarded w b) (hf : (f r.st).aside = r.st.aside) : (r.onState f).Guarded w b :=
  h.withState (h.minds.aside hf) fun e => by rwa [show (outlet (f r.st) 2).state = (outlet r.st 2).state from congrArg (·.2.2) hf] at e

/-! ### The outlet controller -/

/-- A change of an outlet's record that does not trip it. -/
theorem setOutlet {o : Fin 16} {x : Outlet} (h : r.Guarded w b) (hx : x.state = .tripped → (outlet r.st o).state = .tripped) :
    (r.onState (setOutlet o x)).Guarded w b :=
  h.withState (h.minds.congr rfl rfl) fun e => by
    rw [outlet_setOutlet] at e
    split at e
    · next ho => exact ho ▸ hx e
    · exact e

theorem setDemand {o : Fin 16} (d : Option Demand) (h : r.Guarded w b) : (r.onState (setDemand o d)).Guarded w b :=
  h.setOutlet id

theorem newRequest {o : Fin 16} (h : r.Guarded w b) : (r.onState (newRequest o)).Guarded w b :=
  have hset := h.setOutlet (o := o) (x := { outlet r.st o with requestOrder := r.st.outlets.nextRequest }) id
  ⟨hset.minds.congr rfl rfl, hset.work, hset.deferred, hset.changed⟩

theorem change {o : Fin 16} {x y : OutletState} (h : r.Guarded w b) (hc : (Act.report o x y).spares w = true) :
    ({ r with changed := r.changed ++ [(o, x, y)] } : Run).Guarded w b :=
  ⟨h.minds, h.work, h.deferred, fun c hmem => (List.mem_append.1 hmem).elim (h.changed c) fun e => by
    rw [List.mem_singleton.1 e]; exact hc⟩

theorem spares_report {o : Fin 16} {x y : OutletState} (hy : y ≠ .tripped) : (Act.report o x y).spares w = true := by
  simp [Act.spares, hy]

theorem dark_of {o : Fin 16} {x : OutletState} (h : r.Guarded w b)
    (ht : ({ r with st := darkOutlet o x r.st } : Run).Guarded w b) (hc : ∀ y, (Act.report o y x).spares w = true) :
    (r.dark o x).Guarded w b :=
  have hchange := ht.change (hc (outlet r.st o).state)
  ⟨hchange.minds, hchange.work, h.deferred, hchange.changed⟩

theorem dark {o : Fin 16} {x : OutletState} (h : r.Guarded w b) (hx : x ≠ .tripped) : (r.dark o x).Guarded w b :=
  h.dark_of (h.setOutlet fun e => absurd e hx) fun _ => spares_report hx

theorem grant {o : Fin 16} (h : r.Guarded w b) : (r.grant o).Guarded w b :=
  have hset := h.setOutlet (o := o) (x := { outlet r.st o with
    state := .on, charge := requested r.st o, grantOrder := r.st.outlets.nextGrant, measured := 0, sum := 0, samples := 0,
    whole := false, overMs := 0, pullIn := decide (o = 1 ∨ o = 7) }) nofun
  have hchange := hset.change (o := o) (x := (outlet r.st o).state) (y := .on) (spares_report nofun)
  ⟨hchange.minds.congr rfl rfl, hchange.work, hchange.deferred, hchange.changed⟩

theorem judge {o : Fin 16} (h : r.Guarded w b) : (r.judge o).Guarded w b := by
  unfold Run.judge
  split
  · exact h.dark nofun
  · split
    · exact h.dark nofun
    · split
      · exact h.grant
      · split
        · exact h.push rfl
        · exact h.dark nofun

theorem passEnd {g : Goal} (h : r.Guarded w b) : (r.passEnd g).Guarded w b := by
  unfold Run.passEnd
  split
  · exact h
  · next o =>
    have hraise : (if r.revoked then r.onState (raise .outlets (bit 13)) else r).Guarded w b := by
      split
      · exact h.onState rfl
      · exact h
    simp only
    generalize (if r.revoked then r.onState (raise .outlets (bit 13)) else r) = q at hraise ⊢
    split
    · exact hraise.dark nofun
    · split
      · exact hraise.dark nofun
      · exact hraise.grant.push rfl

theorem pass {g : Goal} (h : r.Guarded w b) : (r.pass g).Guarded w b := by
  unfold Run.pass
  split
  · exact h.passEnd
  · split
    · exact h.passEnd
    · next c _ =>
      split
      · exact h.push rfl
      · have hdark := h.dark (o := c) (x := .waiting) nofun
        exact Guarded.push (r := { r.dark c .waiting with revoked := true })
          ⟨hdark.minds, hdark.work, hdark.deferred, hdark.changed⟩ rfl

theorem overLimit {x : Bool} (h : r.Guarded w b) : (r.overLimit x).Guarded w b := by
  unfold Run.overLimit
  split
  · exact h.onState rfl
  · exact h

theorem cut {o : Fin 16} {c : Cut} (h : r.Guarded w b) : (r.cut o c).Guarded w b := by
  unfold Run.cut
  split
  · split
    · exact h.dark nofun
    · have hdark := h.dark (o := o) (x := .waiting) nofun
      exact ⟨hdark.minds, hdark.work, hdark.deferred, hdark.changed⟩
  · exact h

theorem foldDark {x : OutletState} (hx : x ≠ .tripped) (l : List (Fin 16)) :
    ∀ {r : Run}, r.Guarded w b → (l.foldl (fun r o => r.dark o x) r).Guarded w b := by
  induction l with
  | nil => exact id
  | cons o l ih => exact fun h => ih (h.dark hx)

theorem cutRest (h : r.Guarded w b) : r.cutRest.Guarded w b := h.foldDark (by decide) _
theorem unshed (h : r.Guarded w b) : r.unshed.Guarded w b := h.foldDark (by decide) _

theorem sparing_askShed (s : State) (o : Fin 16) : Sparing w (askShed s o) := by unfold askShed; split <;> rfl

theorem sparing_action {l : List Act} (h : Sparing w l) : Sparing w [.action l] := by
  simp only [sparing_cons, sparing_nil, and_true]
  exact h

theorem shedLevel {n : Nat} (h : r.Guarded w b) : (r.shedLevel n).Guarded w b := by
  have hlevel : (r.onState fun s => { s with outlets := { s.outlets with shedLevel := n } }).Guarded w b := h.onState rfl
  unfold Run.shedLevel
  simp only
  split
  · exact hlevel.push (sparing_action (by simp [sparing_askShed, Act.spares]))
  · split
    · exact hlevel.unshed.push rfl
    · exact hlevel

theorem limit {n : Nat} (h : r.Guarded w b) : (r.limit n).Guarded w b := by
  have hlimit : (r.onState fun s => { s with outlets := { s.outlets with limit := n } }).Guarded w b := h.onState rfl
  unfold Run.limit
  simp only
  split
  · exact hlimit.push rfl
  · split
    · exact hlimit.push rfl
    · exact hlimit

theorem rejudge {o : Fin 16} {c : Class} (h : r.Guarded w b) : (r.rejudge o c).Guarded w b := by
  unfold Run.rejudge
  split
  · exact h
  · split
    · split
      · split
        · exact h.push rfl
        · exact h.dark nofun
      · split
        · exact h
        · exact h.push rfl
    · split
      · exact h.dark nofun
      · split
        · exact h.push rfl
        · exact h
    · split
      · exact h
      · split
        · exact h.push rfl
        · exact (h.dark (x := .waiting) nofun).push rfl
    · exact h

theorem arbiter (h : r.Guarded w b) : r.arbiter.Guarded w b :=
  Guarded.push (r := { r with room := false }) ⟨h.minds, h.work, h.deferred, h.changed⟩ (sparing_iff.2 fun a ha => by
    obtain ⟨o, -, rfl⟩ := List.mem_map.1 ha
    rfl)

theorem consider {o : Fin 16} (h : r.Guarded w b) : (r.consider o).Guarded w b := by
  unfold Run.consider
  split
  · split
    · exact h.dark nofun
    · split
      · exact h.grant
      · split
        · exact h.push rfl
        · exact h
  · exact h

theorem clearTrip {o : Fin 16} (h : r.Guarded w b) : (r.clearTrip o).Guarded w b := by
  unfold Run.clearTrip
  split
  · exact h.dark nofun
  · exact h.newRequest.push rfl

theorem rises (l : List (Fin 16 × Nat)) : ∀ {r : Run}, r.Guarded w b → (r.rises l).Guarded w b := by
  induction l with
  | nil => exact id
  | cons p l ih =>
    intro r h
    have hcount := h.setOutlet (o := p.1) (x := { outlet r.st p.1 with inhibit := (outlet r.st p.1).inhibit + p.2 }) id
    refine ih (r := if (outlet r.st p.1).inhibit = 0 ∧ ((outlet r.st p.1).state = .on ∨
        (outlet r.st p.1).state = .waiting ∨ (outlet r.st p.1).state = .shed)
      then (r.onState (Machine.setOutlet p.1 { outlet r.st p.1 with inhibit := (outlet r.st p.1).inhibit + p.2 })).dark p.1 .inhibited
      else r.onState (Machine.setOutlet p.1 { outlet r.st p.1 with inhibit := (outlet r.st p.1).inhibit + p.2 })) ?_
    split
    · exact hcount.dark nofun
    · exact hcount

theorem fall {o : Fin 16} {k : Nat} (h : r.Guarded w b) : (r.fall o k).Guarded w b := by
  have hcount := h.setOutlet (o := o) (x := { outlet r.st o with inhibit := (outlet r.st o).inhibit - k }) id
  unfold Run.fall
  simp only
  split
  · exact hcount.push rfl
  · exact hcount

/-! ### Requests -/

theorem takeCharge {o : Fin 16} {k : Nat} (h : r.Guarded w b) : (r.takeCharge o k).Guarded w b := by
  unfold Run.takeCharge
  simp only
  split
  · exact h
  · next d hd =>
    split
    · exact h
    · split
      · next hon =>
        split
        · have hset := h.setOutlet (o := o) (x := { outlet r.st o with demand := some { d with charge := k }, charge := k }) id
          have hchange := hset.change (o := o) (x := .on) (y := .on) (spares_report nofun)
          exact ⟨hchange.minds, hchange.work, hchange.deferred, hchange.changed⟩
        · refine h.push_or fun a ha => ?_
          simp only [List.mem_cons, List.not_mem_nil, or_false] at ha
          rcases ha with rfl | rfl | rfl
          · exact .inl rfl
          · exact .inl rfl
          · by_cases ho : o = 2
            · subst ho
              exact .inr ⟨_, rfl, by rw [hon]; decide⟩
            · exact .inl (by simp [Act.spares, ho])
      · exact h.setDemand _

theorem takeDemand {o : Fin 16} {d : Demand} (h : r.Guarded w b)
    (ha : (Act.take (.demand o d)).spares w = true ∨ Resupply r.st (.take (.demand o d))) : (r.takeDemand o d).Guarded w b := by
  unfold Run.takeDemand
  simp only
  split
  · exact (Guarded.newRequest (r := r.onState (Machine.setDemand o (some d))) (h.setDemand _)).push rfl
  · next ht =>
    refine (h.setDemand (o := o) (some d)).change ?_
    rcases ha with ha | ⟨d', e, hne⟩
    · simp only [Act.spares, Bool.or_eq_true, bne_iff_ne] at ha ⊢
      rcases ha with ha | ha
      · exact .inl ha
      · exact .inr (by simp [ha])
    · cases e
      exact absurd ht hne
  · exact (h.setDemand _).push rfl
  · exact h

theorem takeWithdraw {o : Fin 16} (h : r.Guarded w b) : (r.takeWithdraw o).Guarded w b := by
  unfold Run.takeWithdraw
  split
  · exact h.setDemand _
  · exact h.setDemand _
  · exact (h.setDemand _).dark nofun

theorem takeHeater {q : SeqState} (h : r.Guarded w b) : (r.takeHeater q).Guarded w b :=
  (h.onState (f := fun s => { s with outlets := { s.outlets with heater := q } }) rfl).push rfl

theorem takeReq {q : Req} (h : r.Guarded w b) (ha : (Act.take q).spares w = true ∨ Resupply r.st (.take q)) :
    (takeReq q r).Guarded w b := by
  cases q with
  | demand o d => exact h.takeDemand ha
  | withdraw o => exact h.takeWithdraw
  | charge o k => exact h.takeCharge
  | heater q => exact h.takeHeater

theorem action {l : List Act} (h : r.Guarded w b) (hl : ∀ a ∈ l, a.spares w = true ∨ Resupply r.st a) : (r.action l).Guarded w b := by
  refine Guarded.push_or (r := { r with acting := r.acting + 1, room := false }) ⟨h.minds, h.work, h.deferred, h.changed⟩ fun a ha => ?_
  rcases List.mem_append.1 ha with ha | ha
  · exact hl a ha
  · simp only [List.mem_cons, List.not_mem_nil, or_false] at ha
    rcases ha with rfl | rfl | rfl <;> exact .inl rfl

theorem take {q : Req} (h : r.Guarded w b) (ha : (Act.take q).spares w = true ∨ Resupply r.st (.take q)) : (r.take q).Guarded w b := by
  unfold Run.take
  split
  · exact h.action fun a hmem => by rwa [List.mem_singleton.1 hmem]
  · exact h.takeReq ha

/-- A request is spared as it is made and as it is taken. -/
theorem spares_take {q : Req} (h : (Act.req q).spares w = true) : (Act.take q).spares w = true := by cases q <;> exact h

theorem defer {q : Req} (h : r.Guarded w b) (hq : (Act.req q).spares w = true) :
    ({ r with deferred := r.deferred ++ [q] } : Run).Guarded w b :=
  ⟨h.minds, h.work, fun p hp => (List.mem_append.1 hp).elim (h.deferred p) fun e => by rwa [List.mem_singleton.1 e], h.changed⟩

theorem req {q : Req} (h : r.Guarded w b) (hq : (Act.req q).spares w = true) : (r.req q).Guarded w b := by
  unfold Run.req
  split
  · exact h.push (by simp [spares_take hq])
  · exact h.defer hq

theorem drain (h : r.Guarded w b) : r.drain.Guarded w b := by
  unfold Run.drain
  split
  · exact h
  · next q l e =>
    have hq : (Act.req q).spares w = true := h.deferred q (by simp [e])
    refine Guarded.push (r := { r with deferred := l }) ⟨h.minds, h.work, fun p hp => h.deferred p (by simp [e, hp]), h.changed⟩ ?_
    simp only [sparing_cons, spares_take hq, sparing_nil, and_true, true_and]
    rfl

theorem arbiterIf (h : r.Guarded w b) : r.arbiterIf.Guarded w b := by
  unfold Run.arbiterIf
  split
  · exact h.push rfl
  · exact h

theorem flush (h : r.Guarded w b) : r.flush.Guarded w b := by
  unfold Run.flush
  split
  · next c l e =>
    refine Guarded.push (r := { r with changed := l, told := true })
      ⟨h.minds, h.work, h.deferred, fun p hp => h.changed p (by simp [e, hp])⟩ ?_
    simp only [sparing_cons, h.changed c (by simp [e]), sparing_nil, and_true, true_and]
    rfl
  · split
    · exact Guarded.push (r := { r with told := false }) ⟨h.minds, h.work, h.deferred, h.changed⟩ rfl
    · split
      · exact h.push rfl
      · exact h

theorem drainIfDone (h : r.Guarded w b) : r.drainIfDone.Guarded w b := by
  unfold Run.drainIfDone
  split
  · exact h.push rfl
  · exact h

theorem actEnd (h : r.Guarded w b) : r.actEnd.Guarded w b := by
  have hless : ({ r with acting := r.acting - 1 } : Run).Guarded w b := ⟨h.minds, h.work, h.deferred, h.changed⟩
  exact (hless.onState (f := syncPart .outlets) rfl).drainIfDone

theorem evalEnd (h : r.Guarded w b) : r.evalEnd.Guarded w b :=
  Guarded.drainIfDone (r := { r with evals := r.evals - 1 }) ⟨h.minds, h.work, h.deferred, h.changed⟩

theorem apart (h : r.Guarded w b) : r.apart.Guarded w b := by
  have hpush := h.push (l := [.resume r.acting]) rfl
  exact ⟨hpush.minds, hpush.work, hpush.deferred, hpush.changed⟩

theorem seqReport (h : r.Guarded w b) : r.seqReport.Guarded w b := by
  unfold Run.seqReport
  simp only
  split
  · exact h.defer rfl
  · exact h.push rfl

theorem signal {g : Signal} {v : Nat} (h : r.Guarded w b) : (r.signal g v).Guarded w b := by
  unfold Run.signal
  split
  · exact h
  · split
    · have hset := h.onState (f := fun s => (evaluate (fun t => t.names g) (fun t => TermRec.names t g) (setSignal g v s)).1) rfl
      have hevals : ({ r with
          st := (evaluate (fun t => t.names g) (fun t => TermRec.names t g) (setSignal g v r.st)).1
          evals := r.evals + 1 } : Run).Guarded w b := ⟨hset.minds, hset.work, hset.deferred, hset.changed⟩
      exact hevals.push (sparing_handOut _)
    · exact h.onState rfl

/-- A trip, where the sequencer's state is not watched. -/
theorem trip {o : Fin 16} (hw : w.lax = true) (h : r.Guarded w b) : (r.trip o).Guarded w b := by
  have hwork : ∀ a ∈ r.work, a.spares w = true := fun a ha => by
    rcases h.work a ha with hs | ⟨d, rfl, -⟩
    · exact hs
    · simp [Act.spares, hw]
  have ht : ({ r with st := darkOutlet o .tripped r.st } : Run).Guarded w b :=
    ⟨h.minds.congr rfl rfl, fun a ha => .inl (hwork a ha), h.deferred, h.changed⟩
  exact Guarded.onState (f := raise .outlets (bit 14)) (h.dark_of ht fun _ => by simp [Act.spares, hw]) rfl

end Run.Guarded

/-! ### Every act -/

/-- Every act of a cascade that spares what is watched leaves it so. -/
theorem perform_guarded {r : Run} (h : r.Guarded w b) (a : Act) (ha : a.spares w = true ∨ Resupply r.st a) :
    (perform a r).Guarded w b := by
  rcases ha with ha | ha
  swap
  · obtain ⟨d, rfl, hd⟩ := ha
    exact h.take (.inr ⟨d, rfl, hd⟩)
  cases a <;> simp only [perform]
  case req q => exact h.req ha
  case take q => exact h.take (.inl ha)
  case drain => exact h.drain
  case action l => exact h.action fun a hmem => .inl (sparing_iff.1 ha a hmem)
  case arbiterIf => exact h.arbiterIf
  case restore c => exact ⟨h.minds, h.work, h.deferred, h.changed⟩
  case flush => exact h.flush
  case flushEnd => exact h.onState (afterReports_aside _)
  case actEnd => exact h.actEnd
  case judge o => exact h.judge
  case preempt o =>
    exact Run.Guarded.push (r := { r with revoked := false }) ⟨h.minds, h.work, h.deferred, h.changed⟩ rfl
  case pass g => exact h.pass
  case ask o c =>
    split
    · exact h.react (ownerAsk_tame o)
    · exact h
  case cut o c => exact h.cut
  case cutRest => exact h.cutRest
  case rejudge o c => exact h.rejudge
  case arbiter => exact h.arbiter
  case consider o => exact h.consider
  case clearTrip o => exact h.clearTrip
  case trip o => exact h.trip ha
  case tripDone n o => exact h.onState (finish_aside _ _ _)
  case rises l => exact h.rises l
  case fall o k => exact h.fall
  case shedLevel n => exact h.shedLevel
  case limit n => exact h.limit
  case overLimit c => exact h.overLimit
  case report o x y => exact h.react (ownerReport_tame ha)
  case signal g v => exact h.signal
  case blockRise m k => exact h.react (blockRise_mute _ m k).tame
  case blockFall m k => exact h.onState (blockFall_aside _ m k)
  case notices l c => exact h.onState (evalNotices_aside _ l c)
  case evalEnd => exact h.evalEnd
  case resume k => exact ⟨h.minds, h.work, h.deferred, h.changed⟩
  case raise g c => exact h.onState rfl
  case finish n f => exact h.onState (finish_aside _ n f)
  case shown m l => exact h.onState rfl
  case solar => exact h.react (showing_mute _ (solarEval_mute _)).tame
  case floatResult x => exact h.react (showing_mute _ (floatDone_mute _ x)).tame
  case shedEval => exact h.react (shedEval_mute _).tame
  case limitEval => exact h.react (limitEval_mute _).tame
  case post e => exact h.react (postHeater_tame ha e)
  case postFloat => exact h.react postFloat_tame
  case result c x y => exact h.react (heaterResult_tame ha c x y)
  case freshPump => exact h.react (freshPump_mute _).tame
  case freshFill => exact h.react (freshFill_mute _).tame
  case pumpStart => exact h.react (pumpStart_mute _).tame
  case pumpDry c => exact h.react (showing_mute _ (pumpDry_mute _ c)).tame
  case fillEnd e => exact h.react (fillEnd_mute _ e).tame
  case fillFinish e => exact h.react (showing_mute _ (fillFinish_mute _ e)).tame
  case frostTemp c => exact h.react (showing_mute _ (frostEval_mute _ c)).tame
  case stage x c => exact h.react (stageChange_mute _ x c).tame
  case stageFill x => exact h.react (stageFill_mute _ x).tame
  case stageLeave x y => exact h.react (stageLeave_mute _ x y).tame
  case stageBegin x y => exact h.react (stageBegin_mute _ x y).tame
  case drainLatch => exact h.react (drainLatch_mute _).tame
  case delivered c => exact h.react (showing_mute (f := fun s => (setDelivered c s, [])) _ ⟨rfl, rfl⟩).tame
  case zoneFollow z => exact h.react (zoneFollow_mute _ z).tame
  case heatDemand => exact h.react (heatDemand_mute _).tame
  case frostDemand c => exact h.react (frostDemand_mute _ c).tame
  case seqFrost c => exact h.react (seqFrost_tame c)
  case seqShed => exact h.react seqShed_mute.tame
  case seqDemand => exact h.react seqDemand_tame
  case seqLevel => exact h.react seqLevel_tame
  case heaterTest => exact h.react heaterTest_tame
  case enter x c => exact h.react (enter_tame ha x c)
  case seqReport => exact h.seqReport
  case seqFlags => exact h.onState (seqFlags_aside _)
  case igniting => exact h.react (igniting_tame ha)
  case running => exact h.react running_tame
  case stopping x => exact h.react (stopping_mute ha x).tame
  case startFail c => exact h.react (startFail_tame ha c)
  case runJudge => exact h.react runJudge_tame
  case runShed => exact h.react runShed_tame
  case cooldownEnd => exact h.react (cooldownEnd_tame ha)
  case unitReading u x =>
    cases w with
    | link => exact h.react (closing_tame _ (unitReading_tame u x))
    | clear => cases ha
    | state q => cases ha
  case unitLost => exact h.react (unitLost_tame ha)
  case offFaulty =>
    cases w with
    | link => exact h.react offFaulty_tame
    | clear => cases ha
    | state q => cases ha
  case blockBegins m => exact h.apart.react (blockBegins_mute _ m).tame
  case stowSignal m => exact h.react (stowSignal_mute _ m).tame
  case claim m => exact h.react (claim_mute _ m).tame
  case moveEnd m f x => exact h.react (moveEnd_mute _ m f x).tame
  case moveFree m => exact h.onState (moveFree_aside _ m)
  case moveResult m f x => exact h.react (moveResult_mute _ m f x).tame
  case serveRelease => exact h.react (serveRelease_mute _).tame
  case retract m => exact h.react (requestRetract_mute _ m).tame
  case extension => exact h.react (extension_mute _).tame
  case doorScene => exact h.react (doorScene_mute _).tame
  case recallOn l n c cs lost => exact h.react (recallStep_mute _ l n c cs lost).tame
  case applied n k c => exact h.react (applied_mute _ n k c).tame
  case supersede p o c => exact h.react (supersede_mute _ p o c).tame
  case recallTest n => exact h.react (recallTest_mute _ n).tame
  case ramp c => exact h.react (ramp_mute _ c).tame

/-! ### Runs -/

/-- A cascade ends as watched, also where the model's bound cuts it short. -/
theorem settle_minds : ∀ (k : Nat) {r : Run}, r.Guarded w b → Minds w b (settle k r)
  | 0, r, h => by
    unfold settle
    split
    · exact h.minds
    · exact h.minds.congr rfl rfl
  | k + 1, r, h => by
    unfold settle
    split
    · exact h.minds
    · next a l e =>
      have hrest : ({ r with work := l } : Run).Guarded w b :=
        ⟨h.minds, fun c hc => h.work c (by simp [e, hc]), h.deferred, h.changed⟩
      exact settle_minds k (perform_guarded hrest a (h.work a (by simp [e])))

theorem guarded_begin {s : State} {l : List Act} (h : Minds w b s) (hl : Sparing w l) :
    ({ st := s, work := l } : Run).Guarded w b :=
  ⟨h, fun a ha => .inl (sparing_iff.1 hl a ha), fun _ hq => absurd hq (by simp), fun _ hc => absurd hc (by simp)⟩

theorem run_minds {s : State} {l : List Act} (h : Minds w b s) (hl : Sparing w l) : Minds w b (run l s) :=
  settle_minds cascadeBound (guarded_begin h hl)

theorem runReact_minds {s : State} {f : State → React} (h : Minds w b s) (hf : Tame w b s (f s)) : Minds w b (runReact f s) := by
  obtain ⟨hm, hl, -⟩ := hf h
  exact run_minds hm hl

end Sys2Proof.Machine
end

section
/-!
SUPPORT. The end of a transaction: the records (R30, R31, R36), the readings handed over, the result of a command (R39 to R41).
-/
namespace Sys2Proof.Machine

variable {w : Watch} {b s t u : State} {i : Fin 12}

/-! ### Cascades after a transaction -/

theorem Minds.start (h : s.link.phase = .turnaround) : Minds .link s s := ⟨h, rfl, rfl, rfl, trivial⟩

theorem Minds.trans (h : Minds .link s t) (g : Minds .link t u) : Minds .link s u :=
  ⟨g.phase, g.txn.trans h.txn, g.remainder.trans h.remainder, g.remainderDue.trans h.remainderDue, trivial⟩

/-- No cascade moves the transaction or the pair remainder while the turnaround runs. -/
theorem runReact_link {f : State → React} (h : (f s).1.link.phase = .turnaround) : Minds .link (f s).1 (runReact f s) :=
  run_minds (.start h) (sparesAll_link _)

theorem runReact_link_of_eq {f : State → React} (h : s.link.phase = .turnaround) (hl : (f s).1.link = s.link) :
    Minds .link s (runReact f s) := by
  have hm : Minds .link s (f s).1 := ⟨by rw [hl, h], by rw [hl], by rw [hl], by rw [hl], trivial⟩
  exact hm.trans (runReact_link hm.phase)

theorem runReact_nodes (f : State → React) (s : State) : (runReact f s).link.nodes = (f s).1.link.nodes :=
  congrArg Steady.nodes (runReact_steady f s)

theorem runReact_store (f : State → React) (s : State) : (runReact f s).store = (f s).1.store :=
  congrArg Steady.store (runReact_steady f s)

theorem settle_firstActs : ∀ (n k : Nat) (r : Run), settle (n + k) r = settle k (firstActs n r)
  | 0, k, r => by rw [Nat.zero_add]; rfl
  | n + 1, k, r => by
    cases hw : r.work with
    | nil => rw [settle_done _ _ hw, firstActs_of_done _ hw, settle_done _ _ hw]
    | cons a l =>
      rw [show n + 1 + k = (n + k) + 1 by omega]
      simp only [settle, firstActs, hw]
      exact settle_firstActs n k _

/-- A cascade ends as watched from any of its first points on. -/
theorem Run.Reaches.run_minds {n : Nat} {l : List Act} {q : Run} (h : Run.Reaches n { st := s, work := l } q)
    (hn : n ≤ cascadeBound) (hq : q.Guarded w b) : Minds w b (run l s) := by
  obtain ⟨k, hk, e⟩ := h
  have hsplit : run l s = settle (k + (cascadeBound - k)) { st := s, work := l } := by
    rw [Nat.add_sub_cancel' (hk.trans hn)]; rfl
  rw [hsplit, settle_firstActs, e]
  exact settle_minds _ hq

/-! ### Readings handed over (R30 to R35) -/

theorem handReading_outside (i : Fin 12) (c : Bool) (s : State) :
    (handReading i c s).1.link = s.link ∧ (handReading i c s).1.store = s.store := by
  unfold handReading
  split <;> exact ⟨rfl, rfl⟩

theorem handReading_mute (h : roleOf s i ≠ some .heater) (c : Bool) : Mute w s (handReading i c s) := by
  unfold handReading
  split
  · exact ⟨rfl, rfl⟩
  · exact ⟨rfl, rfl⟩
  · exact ⟨rfl, rfl⟩
  · exact ⟨rfl, rfl⟩
  · next e => exact absurd e h
  · exact ⟨rfl, rfl⟩
  · exact ⟨rfl, rfl⟩

theorem handStale_outside (i : Fin 12) (s : State) : (handStale i s).1.link = s.link ∧ (handStale i s).1.store = s.store := by
  unfold handStale
  split
  · exact ⟨rfl, rfl⟩
  · exact handReading_outside i false s

theorem handStale_tame (i : Fin 12) : Tame w b s (handStale i s) := by
  unfold handStale
  split
  · exact tame_setSeq rfl
  · next h => exact (handReading_mute h false).tame

theorem handLoss_state (i : Fin 12) (s : State) : (handLoss i s).1 = s := by unfold handLoss; split <;> rfl

/-! ### A record whose reading becomes stale (R31, R32) -/

/-- No record but `i` differs, and `i` in its stale mark at most; the settings are as they were. -/
structure OnlyStale (i : Fin 12) (s t : State) : Prop where
  store : t.store = s.store
  other : ∀ j, j ≠ i → node t j = node s j
  same : ∃ c, node t i = { node s i with stale := c }

theorem OnlyStale.of_nodes (hn : t.link.nodes = s.link.nodes) (hs : t.store = s.store) : OnlyStale i s t :=
  have h : ∀ j, node t j = node s j := fun j => by rw [node, node, hn]
  ⟨hs, fun j _ => h j, _, h i⟩

theorem OnlyStale.refl (i : Fin 12) (s : State) : OnlyStale i s s := .of_nodes rfl rfl

theorem OnlyStale.trans (h : OnlyStale i s t) (g : OnlyStale i t u) : OnlyStale i s u where
  store := g.store.trans h.store
  other j hj := (g.other j hj).trans (h.other j hj)
  same := by
    obtain ⟨c, hc⟩ := h.same
    obtain ⟨d, hd⟩ := g.same
    exact ⟨d, by rw [hd, hc]⟩

theorem OnlyStale.runReact {f : State → React} (h : OnlyStale i s (f s).1) : OnlyStale i s (runReact f s) :=
  h.trans (.of_nodes (runReact_nodes f s) (runReact_store f s))

theorem setNode_stale (i : Fin 12) (c : Bool) (s : State) : OnlyStale i s (setNode i { node s i with stale := c } s) where
  store := rfl
  other j hj := by rw [node_setNode, if_neg hj]
  same := ⟨c, by rw [node_setNode, if_pos rfl]⟩

theorem handStale_onlyStale (i : Fin 12) (s : State) : OnlyStale i s (handStale i s).1 :=
  .of_nodes (congrArg Link.nodes (handStale_outside i s).1) (handStale_outside i s).2

theorem testStale_onlyStale (i : Fin 12) (s : State) : OnlyStale i s (testStale i s).1 := by
  unfold testStale
  simp only
  split
  · split
    · exact (setNode_stale i true s).trans (handStale_onlyStale i _)
    · exact setNode_stale i true s
  · exact .refl i s

theorem testStale_tame (i : Fin 12) : Tame w b s (testStale i s) := by
  intro hm
  have hset : Minds w b (setNode i { node s i with stale := true } s) :=
    ⟨hm.phase, hm.txn, hm.remainder, hm.remainderDue, hm.seq⟩
  unfold testStale
  simp only
  split
  · split
    · exact handStale_tame i hset
    · exact ⟨hset, rfl, id⟩
  · exact tame_nil s hm

/-! ### The record at the end of its transaction (R36) -/

theorem interval_congr (hs : t.store = s.store) (hst : (node t i).state = (node s i).state)
    (hsc : (node t i).scaled = (node s i).scaled) : interval t i = interval s i := by
  simp only [interval, cfg, hs, hst, hsc]

theorem OnlyStale.interval (h : OnlyStale i s t) : interval t i = Machine.interval s i := by
  obtain ⟨c, hc⟩ := h.same
  exact interval_congr h.store (by rw [hc]) (by rw [hc])

/-- The transaction ends at `now`: record `i` becomes `n`, due its interval later, and the turnaround begins. -/
def ended (i : Fin 12) (n : Node) (now : Nat) (s : State) : State := endTxn (setDue i now (setNode i n s))

theorem node_ended (i : Fin 12) (n : Node) (now : Nat) (s : State) : node (ended i n now s) i =
    { n with lastEnd := now, due := some (now + 1000 * interval (ended i n now s) i) } := by
  have hset : node (setNode i n s) i = n := by rw [node_setNode, if_pos rfl]
  have hnode : node (ended i n now s) i =
      { n with lastEnd := now, due := some (now + 1000 * interval (setNode i n s) i) } := by
    show node (setDue i now (setNode i n s)) i = _
    rw [setDue, node_setNode, if_pos rfl, hset]
  rw [interval_congr (s := setNode i n s) (t := ended i n now s) rfl (by rw [hnode, hset]) (by rw [hnode, hset]), hnode]

theorem node_ended_other {j : Fin 12} (h : j ≠ i) (n : Node) (now : Nat) (s : State) : node (ended i n now s) j = node s j := by
  show node (setDue i now (setNode i n s)) j = _
  rw [setDue, node_setNode, if_neg h, node_setNode, if_neg h]

/-! ### The result of a command (R39 to R41) -/

theorem resultActs_outside (c : LinkCmd) (x : CmdResult) (s : State) :
    (resultActs c x s).1.link.nodes = s.link.nodes ∧ (resultActs c x s).1.link.phase = s.link.phase ∧
      (resultActs c x s).1.link.txn = s.link.txn ∧ (resultActs c x s).1.store = s.store := by
  unfold resultActs
  split
  · exact ⟨rfl, rfl, rfl, rfl⟩
  · exact ⟨rfl, rfl, rfl, rfl⟩
  · split <;> exact ⟨rfl, rfl, rfl, rfl⟩
  · exact ⟨rfl, rfl, rfl, rfl⟩

/-- Whatever the result, the turnaround goes on and the records stay. -/
theorem runResult_link (c : LinkCmd) (x : CmdResult) (h : s.link.phase = .turnaround) :
    (runReact (resultActs c x) s).link.phase = .turnaround ∧ (runReact (resultActs c x) s).link.txn = s.link.txn := by
  obtain ⟨-, hphase, htxn, -⟩ := resultActs_outside c x s
  have hm := runReact_link (f := resultActs c x) (hphase.trans h)
  exact ⟨hm.phase, hm.txn.trans htxn⟩

theorem runResult_nodes (c : LinkCmd) (x : CmdResult) (s : State) :
    (runReact (resultActs c x) s).link.nodes = s.link.nodes ∧ (runReact (resultActs c x) s).store = s.store := by
  obtain ⟨hnodes, -, -, hstore⟩ := resultActs_outside c x s
  exact ⟨(runReact_nodes _ s).trans hnodes, (runReact_store _ s).trans hstore⟩

theorem runResult_float (x : CmdResult) (s : State) : (runReact (resultActs .float x) s).charge.lastFloat = some x := by
  have h : runReact (resultActs .float x) s = run [.floatResult x] s := rfl
  rw [h, run_first 1 _ _ (by decide) rfl]
  rfl

/-- The first half of a bound pair accepted: its second half is due. -/
theorem runResult_pair_accepted (l : Nat) (h : s.link.phase = .turnaround) :
    (runReact (resultActs (.heater (.pairLevel l)) .accepted) s).link.remainderDue = true ∧
      (runReact (resultActs (.heater (.pairLevel l)) .accepted) s).link.remainder = s.link.remainder := by
  have hm := runReact_link (f := resultActs (.heater (.pairLevel l)) .accepted) h
  exact ⟨hm.remainderDue, hm.remainder⟩

theorem resultActs_pair_discarded {x : CmdResult} (hx : x ≠ .accepted) (l : Nat) (s : State) :
    resultActs (.heater (.pairLevel l)) x s = (setLink (fun k => { k with remainder := none, remainderDue := false }) s,
      [.result (.pairLevel l) x false, .result (.start l) x false]) := if_neg hx

/-- The first half of a bound pair refused or missed: its second half is discarded. -/
theorem runResult_pair_discarded {x : CmdResult} (hx : x ≠ .accepted) (l : Nat) (h : s.link.phase = .turnaround) :
    (runReact (resultActs (.heater (.pairLevel l)) x) s).link.remainderDue = false ∧
      (runReact (resultActs (.heater (.pairLevel l)) x) s).link.remainder = none := by
  have heq := resultActs_pair_discarded hx l s
  have hm := runReact_link (f := resultActs (.heater (.pairLevel l)) x) (by rw [heq]; exact h)
  rw [heq] at hm
  exact ⟨hm.remainderDue, hm.remainder⟩

/-- R132, R136: a start that failed is counted. -/
def countFailed (s : State) : State := setSeq (fun q => { q with
  failed := min ((seq s).failed + 1) Config.failedStartsLimit
  lockout := q.lockout || decide (min ((seq s).failed + 1) Config.failedStartsLimit = Config.failedStartsLimit) }) s

theorem startFail_igniting (hi : (seq s).state = .igniting) (c : BitVec 32) :
    startFail c s = (countFailed s, [.enter .stopping (c ||| cStartFailed), .stopping true]) := if_pos hi

/-- R132: where the first half of a bound pair is missed in IGNITING, the start has failed and STOPPING is entered. -/
theorem pair_missed_reaches_stopping (hi : (seq s).state = .igniting) (l : Nat) (m : List Act) :
    Run.Reaches 3 { st := s, work := .result (.pairLevel l) .missed false :: m }
      { st := (enter .stopping (0 ||| cStartFailed) (countFailed s)).1
        work := (enter .stopping (0 ||| cStartFailed) (countFailed s)).2 ++ .stopping true :: m } := by
  have hfail : perform (.startFail 0) { st := s, work := m } =
      { st := countFailed s, work := .enter .stopping (0 ||| cStartFailed) :: .stopping true :: m } := by
    simp only [perform, Run.react, startFail_igniting hi]
    rfl
  refine ⟨3, le_rfl, ?_⟩
  show firstActs 1 (perform (.startFail 0) { st := s, work := m }) = _
  rw [hfail]
  rfl

/-- R132: the missed first half of a bound pair in IGNITING leaves the sequencer in STOPPING, with one failed start more. -/
theorem runResult_pair_missed_igniting (l : Nat) (h : s.link.phase = .turnaround) (hi : (seq s).state = .igniting) :
    (seq (runReact (resultActs (.heater (.pairLevel l)) .missed) s)).state = .stopping ∧
      (seq (runReact (resultActs (.heater (.pairLevel l)) .missed) s)).failed = min ((seq s).failed + 1) 2 := by
  rw [runReact, resultActs_pair_discarded (x := .missed) nofun]
  have hreach := pair_missed_reaches_stopping (s := setLink (fun k => { k with remainder := none, remainderDue := false }) s)
    hi l [.result (.start l) .missed false]
  have hm := hreach.run_minds (w := .state .stopping) (by decide)
    (guarded_begin ⟨h, rfl, rfl, rfl, ⟨.inr rfl, rfl, rfl⟩⟩ (by simp [sparing_enter, Act.spares, Watch.results]))
  exact ⟨hm.seq.2.1, hm.seq.2.2⟩

/-- R136: the result of CLEAR_FAULT takes it from pending, and no cascade brings it back. -/
theorem heaterResult_clearFault (x : CmdResult) (s : State) : (heaterResult .clearFault x false s).1.link = s.link ∧
    (seq (heaterResult .clearFault x false s).1).clearPending = false ∧ Sparing .clear (heaterResult .clearFault x false s).2 := by
  unfold heaterResult
  simp only
  split
  · exact ⟨rfl, rfl, rfl⟩
  · split <;> exact ⟨rfl, rfl, rfl⟩

theorem runResult_clearFault (x : CmdResult) (h : s.link.phase = .turnaround) :
    (seq (runReact (resultActs (.heater .clearFault) x) s)).clearPending = false := by
  obtain ⟨hlink, hclear, hl⟩ := heaterResult_clearFault x s
  have hrun : runReact (resultActs (.heater .clearFault) x) s = run [.result .clearFault x false] s := rfl
  have hreach : Run.Reaches 1 { st := s, work := [.result .clearFault x false] }
      { st := (heaterResult .clearFault x false s).1, work := (heaterResult .clearFault x false s).2 } :=
    ⟨1, le_rfl, by simp [firstActs, perform, Run.react]⟩
  have hm := hreach.run_minds (w := .clear) (b := (heaterResult .clearFault x false s).1) (by decide)
    (guarded_begin ⟨by rw [hlink, h], rfl, rfl, rfl, hclear⟩ hl)
  rw [hrun]
  exact hm.seq

/-! ### A miss (R31) -/

/-- R31, R32: the node's loss, or the staleness of its reading, is handed on. -/
def missHanded (i : Fin 12) (old : Node) (s : State) : State :=
  if (node s i).state = .missing ∧ old.state ≠ .missing then
    if old.stale then runReact (handLoss i) (raise .link (bit i.val) s)
    else runReact (handStale i) (runReact (handLoss i) (raise .link (bit i.val) s))
  else runReact (testStale i) s

theorem missEnd_eq {x : Txn} (hx : s.link.txn = some x) (k : MissKind) (now : Nat) : missEnd k now s =
    runReact (resultActs x.cmd .missed) (missHanded x.record (node s x.record)
      (ended x.record (missNode k (resting s) (node s x.record)) now s)) := by
  unfold missEnd
  rw [hx]
  rfl

theorem missHanded_onlyStale (old : Node) (s : State) : OnlyStale i s (missHanded i old s) := by
  have hloss : OnlyStale i s (runReact (handLoss i) (raise .link (bit i.val) s)) :=
    OnlyStale.trans (t := raise .link (bit i.val) s) (.of_nodes rfl rfl)
      (.runReact (by rw [handLoss_state]; exact .refl _ _))
  unfold missHanded
  split
  · split
    · exact hloss
    · exact hloss.trans (.runReact (handStale_onlyStale i _))
  · exact .runReact (testStale_onlyStale i s)

theorem missHanded_link (old : Node) (h : s.link.phase = .turnaround) : Minds .link s (missHanded i old s) := by
  have hraise : Minds .link s (raise .link (bit i.val) s) := (Minds.start h).congr rfl rfl
  have hloss : Minds .link s (runReact (handLoss i) (raise .link (bit i.val) s)) :=
    hraise.trans (runReact_link_of_eq hraise.phase (by rw [handLoss_state]))
  unfold missHanded
  split
  · split
    · exact hloss
    · exact hloss.trans (runReact_minds (.start hloss.phase) (handStale_tame i))
  · exact runReact_minds (.start h) (testStale_tame i)

/-- A miss that leaves the node as it was moves no sequencer in IGNITING. -/
theorem missHanded_igniting {old : Node} (h : s.link.phase = .turnaround) (hi : (seq s).state = .igniting)
    (hn : ¬ ((node s i).state = .missing ∧ old.state ≠ .missing)) :
    (seq (missHanded i old s)).state = .igniting ∧ (seq (missHanded i old s)).failed = (seq s).failed := by
  have hm : Minds (.state .igniting) s s := ⟨h, rfl, rfl, rfl, ⟨.inl rfl, hi, rfl⟩⟩
  rw [missHanded, if_neg hn]
  exact (runReact_minds hm (testStale_tame i)).seq.2

theorem missNode_fields (k : MissKind) (c : Bool) (n : Node) :
    (missNode k c n).misses = min (n.misses + 1) 3 ∧ (missNode k c n).lastMiss = k ∧
      (missNode k c n).state = (if 2 ≤ n.misses then .missing else n.state) := by
  refine ⟨rfl, rfl, ?_⟩
  by_cases h : 2 ≤ n.misses
  · cases hs : n.state <;> simp [missNode, Config.missLimit, h, hs]
  · have hlimit : min (n.misses + 1) 3 ≠ 3 := by omega
    simp [missNode, Config.missLimit, hlimit, h]

/-- What a miss leaves of the link and of the records. -/
theorem missEnd_records {x : Txn} (hx : s.link.txn = some x) (k : MissKind) (now : Nat) :
    (missEnd k now s).link.phase = .turnaround ∧ (missEnd k now s).link.txn = none ∧
      OnlyStale x.record (ended x.record (missNode k (resting s) (node s x.record)) now s) (missEnd k now s) := by
  rw [missEnd_eq hx]
  have hlink : Minds .link (ended x.record (missNode k (resting s) (node s x.record)) now s) _ :=
    missHanded_link (i := x.record) (node s x.record) rfl
  have hstale := missHanded_onlyStale (i := x.record) (node s x.record)
    (ended x.record (missNode k (resting s) (node s x.record)) now s)
  generalize missHanded x.record (node s x.record)
    (ended x.record (missNode k (resting s) (node s x.record)) now s) = u at hlink hstale ⊢
  obtain ⟨hphase, htxn⟩ := runResult_link x.cmd .missed hlink.phase
  obtain ⟨hnodes, hstore⟩ := runResult_nodes x.cmd .missed u
  exact ⟨hphase, htxn.trans hlink.txn, hstale.trans (.of_nodes hnodes hstore)⟩

/-- What a miss makes of its command. -/
theorem missEnd_command {x : Txn} (hx : s.link.txn = some x) (k : MissKind) (now : Nat) :
    (x.cmd = .float → (missEnd k now s).charge.lastFloat = some .missed) ∧
      ∀ l, x.cmd = .heater (.pairLevel l) → (missEnd k now s).link.remainder = none ∧ (missEnd k now s).link.remainderDue = false ∧
        ((seq s).state = .igniting → (node s x.record).misses < 2 →
          (seq (missEnd k now s)).state = .stopping ∧ (seq (missEnd k now s)).failed = min ((seq s).failed + 1) 2) := by
  rw [missEnd_eq hx]
  have hlink : Minds .link (ended x.record (missNode k (resting s) (node s x.record)) now s) _ :=
    missHanded_link (i := x.record) (node s x.record) rfl
  refine ⟨fun hc => by rw [hc]; exact runResult_float _ _, fun l hc => ?_⟩
  rw [hc]
  obtain ⟨hdue, hrem⟩ := runResult_pair_discarded (x := .missed) nofun l hlink.phase
  refine ⟨hrem, hdue, fun hi hmiss => ?_⟩
  have hkept : ¬ ((node (ended x.record (missNode k (resting s) (node s x.record)) now s) x.record).state = .missing ∧
      (node s x.record).state ≠ .missing) := by
    rw [node_ended]
    simp only [(missNode_fields k (resting s) (node s x.record)).2.2, Nat.not_le.2 hmiss, if_false]
    exact fun h => h.2 h.1
  obtain ⟨hstate, hfailed⟩ := missHanded_igniting (i := x.record)
    (s := ended x.record (missNode k (resting s) (node s x.record)) now s) rfl hi hkept
  have hstop := runResult_pair_missed_igniting l hlink.phase hstate
  rw [hfailed] at hstop
  exact hstop

theorem exec_miss {c : Instr} {k : MissKind} (hb : blocksRun s = true) {sub : Nat}
    (hc : (c = .ackWindowExpiry sub ∧ s.link.phase = .listening ∧ k = .noReply) ∨
      (c = .replyQuietEnd sub ∧ s.link.phase = .badReply k)) :
    ∃ d, exec c s = .next { missEnd k (nowMs s sub) s with ram := { (missEnd k (nowMs s sub) s).ram with digest := d } } := by
  rcases hc with ⟨rfl, hp, rfl⟩ | ⟨rfl, hp⟩
  · obtain ⟨d, hd⟩ := inRun_eq (f := ackExpiry sub) hb
    have hmiss : ackExpiry sub s = missEnd .noReply (nowMs s sub) s := if_pos hp
    exact ⟨d, by rw [← hmiss, ← hd]; rfl⟩
  · obtain ⟨d, hd⟩ := inRun_eq (f := quietAfter sub) hb
    have hmiss : quietAfter sub s = missEnd k (nowMs s sub) s := by rw [quietAfter, hp]
    exact ⟨d, by rw [← hmiss, ← hd]; rfl⟩

/-- Settles O52: the record by `missNode`, the command by its result; the sequencer is watched act by act. -/
theorem missCountsTowardsMissing : Obligations.MissCountsTowardsMissing := by
  intro s sub x k c hb hx hc
  obtain ⟨d, hexec⟩ := exec_miss hb hc
  refine ⟨_, hexec, ?_⟩
  obtain ⟨hphase, htxn, hstale⟩ := missEnd_records hx k (nowMs s sub)
  obtain ⟨hfloat, hpair⟩ := missEnd_command hx k (nowMs s sub)
  obtain ⟨hmisses, hlast, hstate⟩ := missNode_fields k (resting s) (node s x.record)
  obtain ⟨e, hnode⟩ := hstale.same
  have hinterval := hstale.interval
  have hother : ∀ i, i ≠ x.record → node (missEnd k (nowMs s sub) s) i = node s i := fun i hi =>
    (hstale.other i hi).trans (node_ended_other hi _ _ _)
  rw [node_ended, ← hinterval] at hnode
  clear hexec hstale hinterval
  generalize missEnd k (nowMs s sub) s = t at *
  have hrecord : (node t x.record).misses = min ((node s x.record).misses + 1) 3 ∧ (node t x.record).lastMiss = k ∧
      (node t x.record).state = (if 2 ≤ (node s x.record).misses then .missing else (node s x.record).state) ∧
      (node t x.record).lastEnd = s.time * 1000 + sub ∧
      (node t x.record).due = some (s.time * 1000 + sub + 1000 * interval t x.record) := by
    generalize interval t x.record = m at hnode ⊢
    rw [hnode]
    exact ⟨hmisses, hlast, hstate, rfl, rfl⟩
  obtain ⟨h1, h2, h3, h4, h5⟩ := hrecord
  exact ⟨hphase, htxn, h1, h2, h3, h4, h5, hother, hfloat, hpair⟩

/-! ### A good reply (R30) -/

/-- R30: the reading is handed on, with the notices before and after it. -/
def replyHanded (i : Fin 12) (old : Node) (s : State) : State :=
  let s := if (node s i).faulty && !old.faulty then raise .link (bit 13) s else s
  let s := runReact (handReading i (old.state == .missing)) s
  if old.state = .missing then raise .link (bit 12) s else s

theorem goodEnd_eq (x : Txn) (r : Role) (status : Word) (data : List Word) (now : Nat) (s : State) :
    goodEnd x r status data now s = runReact (resultActs x.cmd (replyResult (inRange r data) status))
      (replyHanded x.record (node s x.record)
        (ended x.record (goodNode r status data (resting s) (node s x.record)) now s)) := rfl

theorem replyHanded_link (i : Fin 12) (old : Node) (h : s.link.phase = .turnaround) : Minds .link s (replyHanded i old s) ∧
    (replyHanded i old s).link.nodes = s.link.nodes ∧ (replyHanded i old s).store = s.store := by
  unfold replyHanded
  simp only
  have hfirst : ∀ c : Bool, (if c then raise .link (bit 13) s else s).link = s.link ∧
      (if c then raise .link (bit 13) s else s).store = s.store := fun c => by cases c <;> exact ⟨rfl, rfl⟩
  obtain ⟨hl1, hs1⟩ := hfirst ((node s i).faulty && !old.faulty)
  generalize (if ((node s i).faulty && !old.faulty) = true then raise .link (bit 13) s else s) = s1 at hl1 hs1 ⊢
  obtain ⟨hl2, hs2⟩ := handReading_outside i (old.state == .missing) s1
  have hm : Minds .link s1 (runReact (handReading i (old.state == .missing)) s1) := runReact_link_of_eq (by rw [hl1, h]) hl2
  have hm0 : Minds .link s s1 := ⟨by rw [hl1, h], by rw [hl1], by rw [hl1], by rw [hl1], trivial⟩
  have hnodes : (runReact (handReading i (old.state == .missing)) s1).link.nodes = s.link.nodes := by
    rw [runReact_nodes, hl2, hl1]
  have hstore : (runReact (handReading i (old.state == .missing)) s1).store = s.store := by rw [runReact_store, hs2, hs1]
  generalize runReact (handReading i (old.state == .missing)) s1 = s2 at hm hnodes hstore ⊢
  split
  · exact ⟨(hm0.trans hm).congr rfl rfl, hnodes, hstore⟩
  · exact ⟨hm0.trans hm, hnodes, hstore⟩

/-- What a good reply leaves of the link and of the records. -/
theorem goodEnd_records (x : Txn) (r : Role) (status : Word) (data : List Word) (now : Nat) (s : State) :
    (goodEnd x r status data now s).link.phase = .turnaround ∧ (goodEnd x r status data now s).link.txn = none ∧
      (goodEnd x r status data now s).link.nodes =
        (ended x.record (goodNode r status data (resting s) (node s x.record)) now s).link.nodes ∧
      (goodEnd x r status data now s).store = s.store := by
  rw [goodEnd_eq]
  obtain ⟨hlink, hnodes, hstore⟩ := replyHanded_link x.record (node s x.record)
    (s := ended x.record (goodNode r status data (resting s) (node s x.record)) now s) rfl
  generalize replyHanded x.record (node s x.record)
    (ended x.record (goodNode r status data (resting s) (node s x.record)) now s) = u at hlink hnodes hstore ⊢
  obtain ⟨hphase, htxn⟩ := runResult_link x.cmd (replyResult (inRange r data) status) hlink.phase
  obtain ⟨hn, hs⟩ := runResult_nodes x.cmd (replyResult (inRange r data) status) u
  exact ⟨hphase, htxn.trans hlink.txn, hn.trans hnodes, hs.trans hstore⟩

/-- What a good reply makes of its command. -/
theorem goodEnd_command (x : Txn) (r : Role) (status : Word) (data : List Word) (now : Nat) (s : State) {result : CmdResult}
    (hres : replyResult (inRange r data) status = result) :
    (x.cmd = .float → (goodEnd x r status data now s).charge.lastFloat = some result) ∧
      (x.cmd = .heater .clearFault → (seq (goodEnd x r status data now s)).clearPending = false) ∧
      ∀ l, x.cmd = .heater (.pairLevel l) →
        (result = .accepted → (goodEnd x r status data now s).link.remainderDue = true ∧
          (goodEnd x r status data now s).link.remainder = s.link.remainder) ∧
        (result = .refused → (goodEnd x r status data now s).link.remainderDue = false ∧
          (goodEnd x r status data now s).link.remainder = none) := by
  rw [goodEnd_eq, hres]
  obtain ⟨hlink, -, -⟩ := replyHanded_link x.record (node s x.record)
    (s := ended x.record (goodNode r status data (resting s) (node s x.record)) now s) rfl
  generalize replyHanded x.record (node s x.record)
    (ended x.record (goodNode r status data (resting s) (node s x.record)) now s) = u at hlink ⊢
  refine ⟨fun hc => by rw [hc]; exact runResult_float _ _, fun hc => by rw [hc]; exact runResult_clearFault _ hlink.phase,
    fun l hc => ?_⟩
  rw [hc]
  refine ⟨fun e => ?_, fun e => ?_⟩
  · subst e
    obtain ⟨hdue, hrem⟩ := runResult_pair_accepted l hlink.phase
    exact ⟨hdue, hrem.trans hlink.remainder⟩
  · subst e
    exact runResult_pair_discarded (x := .refused) nofun l hlink.phase

theorem exec_goodReply {status : Word} {data : List Word} {x : Txn} {r : Role} (hb : blocksRun s = true) (sub : Nat)
    (hp : s.link.phase = .listening) (hx : s.link.txn = some x) (hr : roleOf s x.record = some r)
    (hf : goodForm r status data = true) :
    ∃ d, exec (.goodReply status data sub) s = .next { goodEnd x r status data (nowMs s sub) s with
      ram := { (goodEnd x r status data (nowMs s sub) s).ram with digest := d } } := by
  obtain ⟨d, hd⟩ := inRun_eq (f := goodReply status data sub) hb
  have hgood : goodReply status data sub s = goodEnd x r status data (nowMs s sub) s := by simp [goodReply, hp, hx, hr, hf]
  exact ⟨d, by rw [← hgood, ← hd]; rfl⟩

theorem replyResult_eq (ok : Bool) (status : Word) :
    replyResult ok status = if ok = true ∧ status.getLsbD 4 = false then .accepted else .refused := by
  simp [replyResult]

/-- Settles O53: the record by `goodNode`, the command by its result. -/
theorem goodReplyRefreshesRecord : Obligations.GoodReplyRefreshesRecord := by
  intro s status data sub x r hb hp hx hr hf
  obtain ⟨d, hexec⟩ := exec_goodReply hb sub hp hx hr hf
  refine ⟨_, hexec, ?_⟩
  obtain ⟨hphase, htxn, hnodes, hstore⟩ := goodEnd_records x r status data (nowMs s sub) s
  have hcommand := goodEnd_command x r status data (nowMs s sub) s (replyResult_eq _ _)
  have hstale : OnlyStale x.record (ended x.record (goodNode r status data (resting s) (node s x.record)) (nowMs s sub) s)
      (goodEnd x r status data (nowMs s sub) s) := .of_nodes hnodes hstore
  have hnode : node (goodEnd x r status data (nowMs s sub) s) x.record =
      node (ended x.record (goodNode r status data (resting s) (node s x.record)) (nowMs s sub) s) x.record :=
    congrArg (fun v : Vector Node 12 => v[x.record]) hnodes
  have hother : ∀ i, i ≠ x.record → node (goodEnd x r status data (nowMs s sub) s) i = node s i := fun i hi =>
    (hstale.other i hi).trans (node_ended_other hi _ _ _)
  rw [node_ended, ← hstale.interval] at hnode
  clear hexec hstale hnodes
  generalize goodEnd x r status data (nowMs s sub) s = t at *
  have hrecord : (node t x.record).state = .present ∧ (node t x.record).misses = 0 ∧ (node t x.record).age = 0 ∧
      (node t x.record).stale = false ∧ (node t x.record).reading = (if inRange r data then some data else none) ∧
      (node t x.record).faulty = (!inRange r data || status.getLsbD 4) ∧
      (node t x.record).due = some (s.time * 1000 + sub + 1000 * interval t x.record) := by
    generalize interval t x.record = k at hnode ⊢
    rw [hnode]
    exact ⟨rfl, rfl, rfl, rfl, rfl, rfl, rfl⟩
  obtain ⟨h1, h2, h3, h4, h5, h6, h7⟩ := hrecord
  exact ⟨hphase, htxn, h1, h2, h3, h4, h5, h6, h7, hother, hcommand⟩

end Sys2Proof.Machine
end

section
/-!
PROOF. The arithmetic of the tally and of a mean (O44).
-/
namespace Sys2Proof.Machine

/-- R45: the exact quotient is met where it is whole; otherwise the mean is one of its two neighbours. -/
theorem mean_cases (sum : Int) (n : Nat) :
    (sum % n = 0 ∧ mean sum n = sum / n) ∨ (sum % n ≠ 0 ∧ (mean sum n = sum / n ∨ mean sum n = sum / n + 1)) := by
  unfold mean
  by_cases hexact : sum % n = 0
  · exact .inl ⟨hexact, if_pos hexact⟩
  · rw [if_neg hexact]
    refine .inr ⟨hexact, ?_⟩
    split
    · exact .inr rfl
    · exact .inl (Int.add_zero _)

/-- R45: a mean lies within one of the exact quotient. -/
theorem mean_bounds (sum : Int) {n : Nat} (hn : 0 < n) :
    n * mean sum n - n < sum ∧ sum < n * mean sum n + n ∧ (sum % n = 0 → n * mean sum n = sum) := by
  have hsum : n * (sum / n) + sum % n = sum := Int.mul_ediv_add_emod sum n
  have hlo : 0 ≤ sum % n := Int.emod_nonneg _ (by omega)
  have hhi : sum % n < n := Int.emod_lt_of_pos _ (by omega)
  obtain ⟨hexact, hmean⟩ | ⟨hrest, hmean | hmean⟩ := mean_cases sum n <;> rw [hmean]
  · omega
  · omega
  · rw [Int.mul_add, Int.mul_one]
    omega

/-- R46: what the tally becomes, by where the moved charge falls. -/
theorem moveCharge_cases (x : Tally) (a : Int) :
    let c := (x.charge : Int) + Int.tdiv (x.acc + a) 3600
    ((x.capacity : Int) < c ∧ moveCharge x a = { x with charge := x.capacity, acc := 0 }) ∨
    (c ≤ x.capacity ∧ c < 0 ∧ moveCharge x a = { x with charge := 0, acc := 0 }) ∨
    (c ≤ x.capacity ∧ 0 ≤ c ∧ moveCharge x a = { x with charge := c.toNat, acc := (x.acc + a).tmod 3600 }) := by
  intro c
  by_cases hover : (x.capacity : Int) < c
  · exact .inl ⟨hover, if_pos hover⟩
  · by_cases hunder : c < 0
    · exact .inr (.inl ⟨by omega, hunder, (if_neg hover).trans (if_pos hunder)⟩)
    · refine .inr (.inr ⟨by omega, by omega, ?_⟩)
      rw [Int.tmod_def]
      exact (if_neg hover).trans (if_neg hunder)

/-- The tally's charge stays within its capacity. -/
theorem moveCharge_le (x : Tally) (a : Int) : (moveCharge x a).charge ≤ (moveCharge x a).capacity := by
  obtain ⟨-, h⟩ | ⟨-, -, h⟩ | ⟨hle, h0, h⟩ := moveCharge_cases x a <;> rw [h]
  · exact Nat.zero_le _
  · exact show Int.toNat _ ≤ x.capacity by omega

theorem moveCharge_capacity (x : Tally) (a : Int) : (moveCharge x a).capacity = x.capacity := by
  obtain ⟨-, h⟩ | ⟨-, -, h⟩ | ⟨-, -, h⟩ := moveCharge_cases x a <;> rw [h]

/-- Settles O44: the three places the moved charge may fall, and the two neighbours of the exact quotient. -/
theorem bankArithmeticIsExact : Obligations.BankArithmeticIsExact := by
  refine ⟨fun x a hx => ?_, fun sum n hn => mean_bounds sum hn⟩
  refine ⟨moveCharge_capacity x a, moveCharge_le x a, ?_⟩
  have hdiv : 3600 * Int.tdiv (x.acc + a) 3600 + Int.tmod (x.acc + a) 3600 = x.acc + a := Int.mul_tdiv_add_tmod _ _
  have hlo : -3600 < Int.tmod (x.acc + a) 3600 := Int.lt_tmod_of_pos _ (by omega)
  have hhi : Int.tmod (x.acc + a) 3600 < 3600 := Int.tmod_lt_of_pos _ (by omega)
  obtain ⟨hc, h⟩ | ⟨hle, hc, h⟩ | ⟨hle, hc, h⟩ := moveCharge_cases x a <;> rw [h]
  · exact ⟨fun _ hle => absurd hle (by omega), fun _ => ⟨rfl, rfl⟩, fun h0 => absurd h0 (by omega)⟩
  · exact ⟨fun h0 => absurd h0 (by omega), fun hover => absurd hover (by omega), fun _ => ⟨rfl, rfl⟩⟩
  · exact ⟨fun _ _ => ⟨by simp only [Int.toNat_of_nonneg hc]; omega, hlo, hhi⟩, fun hover => absurd hover (by omega),
      fun h0 => absurd h0 (by omega)⟩

end Sys2Proof.Machine
end

section
/-!
SUPPORT. What the owners' reactions leave alone of the charge monitor, the notices, the slots, the link, the signals and the split
relay (`Sedate`), and which acts they set off (`aloof`).
-/
namespace Sys2Proof.Machine

/-! ### Acts that keep off the vehicle inputs, the charge monitor and the split relay -/

/-- The request is for outlet `o`. -/
def Req.isFor (o : Fin 16) : Req → Bool
  | .demand q _ | .withdraw q | .charge q _ => q == o
  | .heater _ => false

/-- How closely the split relay is watched: not at all, its demand alone, or its demand and that it is OFF or TRIPPED. -/
inductive Care where
  | none
  | demand
  | dark

/-- The relay may be asked for. -/
def Care.lax : Care → Bool
  | .none => true
  | _ => false

/-- The relay may be decided on. -/
def Care.decides : Care → Bool
  | .dark => false
  | _ => true

/-- The request asks nothing of a relay that is watched. -/
def Req.spares (k : Care) (q : Req) : Bool := !q.isFor 6 || k.lax

mutual
/-- The act neither changes an input's signal nor has the charge monitor compute a level, and it leaves a relay that is watched alone. -/
def Act.aloof (k : Care) : Act → Bool
  | .action l => aloofAll k l
  | .req q | .take q => q.spares k
  | .signal g _ => g != .ignition && g != .engineRun && g != .shore && g != .door
  | .shedEval | .limitEval => false
  | .judge o | .preempt o | .clearTrip o | .trip o | .pass (.room o) => o != 6 || k.decides
  | _ => true

def aloofAll (k : Care) : List Act → Bool
  | [] => true
  | a :: l => a.aloof k && aloofAll k l
end

/-- Every act of the list is aloof. -/
def Aloof (k : Care) (l : List Act) : Prop := aloofAll k l = true

section
variable {k : Care} {l m : List Act}

@[simp] theorem aloof_nil : Aloof k [] := rfl

@[simp] theorem aloof_cons {a : Act} : Aloof k (a :: l) ↔ a.aloof k = true ∧ Aloof k l := by
  simp [Aloof, aloofAll]

@[simp] theorem aloof_append : Aloof k (l ++ m) ↔ Aloof k l ∧ Aloof k m := by
  induction l with
  | nil => simp
  | cons a l ih => simp [ih, and_assoc]

@[simp] theorem aloof_ite {c : Prop} [Decidable c] : Aloof k (if c then l else m) ↔ (c → Aloof k l) ∧ (¬ c → Aloof k m) := by
  split <;> simp [*]

theorem aloof_iff : Aloof k l ↔ ∀ a ∈ l, a.aloof k = true := by
  induction l with
  | nil => simp
  | cons a l ih => simp [ih]

end

/-! ### Sedate reactions -/

/-- The part of the state that the owners' reactions leave alone: shed level and budget limit, the idle timer, the registers and
notices, the slots, the link, the signals, and the demand and the state of the split relay. -/
structure Still where
  shedLevel : Nat
  limit : Nat
  idle : Nat
  port : Port
  slots : Mem
  link : Link
  signals : Signals
  relay : Option Demand × OutletState

def State.still (s : State) : Still where
  shedLevel := s.charge.shedLevel
  limit := s.charge.limit
  idle := s.charge.idle
  port := s.port
  slots := s.ram.slots
  link := s.link
  signals := s.interlock.signals
  relay := ((outlet s 6).demand, (outlet s 6).state)

/-- A reaction that leaves that part alone and sets off aloof acts. -/
def Sedate (k : Care) (s : State) (x : React) : Prop := x.1.still = s.still ∧ Aloof k x.2

/-- A reaction that may besides restart the idle timer (R58). -/
def Stirs (k : Care) (s : State) (x : React) : Prop := (x.1.still = s.still ∨ x.1.still = { s.still with idle := 0 }) ∧ Aloof k x.2

theorem Sedate.stirs {k : Care} {s : State} {x : React} (h : Sedate k s x) : Stirs k s x := ⟨.inl h.1, h.2⟩

variable {k : Care} (s : State)

theorem sedate_nil : Sedate k s (s, []) := ⟨rfl, rfl⟩

theorem showing_sedate {l : List Part} {f : State → React} (h : Sedate k s (f s)) : Sedate k s (showing l f s) := h

theorem closing_sedate {m l : List Part} {f : State → React} (h : Sedate k s (f s)) : Sedate k s (closing m l f s) :=
  ⟨h.1, aloof_append.2 ⟨h.2, rfl⟩⟩

theorem setHeld_still (o : Fin 16) (x : Bool) : (setHeld o x s).still = s.still := by
  have h : ((outlet (setHeld o x s) 6).demand, (outlet (setHeld o x s) 6).state) = ((outlet s 6).demand, (outlet s 6).state) := by
    rw [setHeld, outlet_setOutlet]
    split
    · next e => rw [e]
    · rfl
  exact congrArg (fun q => { s.still with relay := q }) h

/-! ### Charge monitor -/

theorem solarEval_sedate : Sedate k s (solarEval s) := by unfold solarEval; split <;> exact ⟨rfl, rfl⟩
theorem floatDone_sedate (x : CmdResult) : Sedate k s (floatDone x s) := ⟨rfl, rfl⟩

/-! ### Water -/

theorem pumpStart_sedate : Sedate k s (pumpStart s) := by unfold pumpStart; split <;> exact ⟨rfl, rfl⟩
theorem pumpDry_sedate (c : DryCause) : Sedate k s (pumpDry c s) := ⟨rfl, rfl⟩
theorem pumpLeaveDry_sedate : Sedate k s (pumpLeaveDry s) := ⟨rfl, by simp [pumpLeaveDry, Act.aloof]⟩
theorem freshPump_sedate : Sedate k s (freshPump s) := by
  unfold freshPump
  split
  · exact ⟨rfl, rfl⟩
  · split
    · exact pumpLeaveDry_sedate s
    · exact sedate_nil s
theorem pumpReport_sedate (x : OutletState) : Sedate k s (pumpReport x s) := by
  unfold pumpReport; (repeat' split) <;> exact ⟨rfl, rfl⟩
theorem fillEnd_sedate (e : FillEnd) : Sedate k s (fillEnd e s) := by unfold fillEnd; split <;> exact ⟨rfl, rfl⟩
theorem fillFinish_sedate (e : FillEnd) : Sedate k s (fillFinish e s) := by unfold fillFinish; split <;> exact ⟨rfl, rfl⟩
theorem freshFill_sedate : Sedate k s (freshFill s) := by
  unfold freshFill; split
  · exact fillEnd_sedate s _
  · exact sedate_nil s
theorem fillReport_sedate (x : OutletState) : Sedate k s (fillReport x s) := by
  unfold fillReport; split
  · exact sedate_nil s
  · next f _ =>
    have hend : ∀ e, Sedate k s (fillEnd e (setFill { f with valve := x } s)) := fun e =>
      fillEnd_sedate (setFill { f with valve := x } s) e
    cases x
    case waiting | on | off => exact ⟨rfl, rfl⟩
    case shed | inhibited | tripped => exact hend _
theorem aloof_stageActs (t : Option Int) : Aloof k (stageActs s t) := by unfold stageActs; split <;> rfl
theorem frostEval_sedate (c : Bool) : Sedate k s (frostEval c s) := by
  have hb : ∀ t, Aloof k (blindActs s t).2 := fun t => by unfold blindActs; simp only; split <;> rfl
  unfold frostEval; simp only; split
  · exact ⟨rfl, by simp [aloof_stageActs]⟩
  · exact ⟨rfl, aloof_append.2 ⟨hb _, aloof_stageActs s _⟩⟩
theorem stageChange_sedate (t : Stage) (c : BitVec 32) : Sedate k s (stageChange t c s) := by
  unfold stageChange; simp only; split
  · exact sedate_nil s
  · exact ⟨rfl, by simp [Act.aloof]⟩
theorem stageFill_sedate (t : Stage) : Sedate k s (stageFill t s) := by
  unfold stageFill; split
  · exact fillEnd_sedate s _
  · exact sedate_nil s
theorem stageLeave_sedate (x y : Stage) : Sedate k s (stageLeave x y s) :=
  ⟨rfl, by simp [stageLeave, Act.aloof, Req.spares, Req.isFor]⟩
theorem stageBegin_sedate (x y : Stage) : Sedate k s (stageBegin x y s) :=
  ⟨rfl, by simp [stageBegin, Act.aloof, Req.spares, Req.isFor]⟩
theorem drainLatch_sedate : Sedate k s (drainLatch s) := ⟨setHeld_still (setLatch true s) 1 true, rfl⟩

/-! ### Climate: zones, flaps, demand, level -/

theorem aloof_flapActs {o : Fin 16} (h : o ≠ 6) (x y : Bool) : Aloof k (flapActs s o x y) := by
  unfold flapActs
  (repeat' split) <;> simp [Act.aloof, Req.spares, Req.isFor, h]

theorem climateChange_sedate (f : Climate → Climate) : Sedate k s (climateChange f s) :=
  ⟨rfl, by simp [climateChange, aloof_flapActs, Act.aloof]⟩

theorem zoneFollow_sedate (z : Fin 3) : Sedate k s (zoneFollow z s) := climateChange_sedate s _

theorem frostDemand_sedate (c : Bool) : Sedate k s (frostDemand c s) := by
  unfold frostDemand; split
  · exact sedate_nil s
  · obtain ⟨hs, hl⟩ := climateChange_sedate (k := k) s fun q =>
      { q with frost := c, zones := q.zones.set 2 (lockerZone c q.zones[2]) }
    exact ⟨hs, aloof_append.2 ⟨hl, rfl⟩⟩

theorem heatDemand_sedate : Sedate k s (heatDemand s) := ⟨rfl, by simp [heatDemand, Act.aloof]⟩

/-! ### The sequencer -/

theorem enter_sedate (x : SeqState) (c : BitVec 32) : Sedate k s (enter x c s) := ⟨rfl, by simp [enter, Act.aloof]⟩
theorem seqFlags_still : (seqFlags s).still = s.still :=
  (rfl : (seqFlags s).still = (setHeld 2 (seq s).state.active s).still).trans (setHeld_still s 2 _)
theorem heaterTest_sedate : Sedate k s (heaterTest s) := by unfold heaterTest; split <;> exact ⟨rfl, rfl⟩
theorem igniting_sedate : Sedate k s (igniting s) := ⟨rfl, rfl⟩
theorem startFail_sedate (c : BitVec 32) : Sedate k s (startFail c s) := by unfold startFail; split <;> exact ⟨rfl, rfl⟩
theorem stopping_sedate (x : Bool) : Sedate k s (stopping x s) := ⟨rfl, by simp [stopping, Act.aloof, Req.spares, Req.isFor]⟩
theorem running_sedate : Sedate k s (running s) := ⟨rfl, rfl⟩
theorem runJudge_sedate : Sedate k s (runJudge s) := by unfold runJudge; (repeat' split) <;> exact ⟨rfl, rfl⟩
theorem runShed_sedate : Sedate k s (runShed s) := by unfold runShed; split <;> exact ⟨rfl, rfl⟩
theorem seqDemand_sedate : Sedate k s (seqDemand s) := by unfold seqDemand; (repeat' split) <;> exact ⟨rfl, rfl⟩
theorem seqLevel_sedate : Sedate k s (seqLevel s) := by unfold seqLevel; split <;> exact ⟨rfl, rfl⟩
theorem seqFrost_sedate (x : Bool) : Sedate k s (seqFrost x s) := by unfold seqFrost; (repeat' split) <;> exact ⟨rfl, rfl⟩
theorem seqShed_sedate : Sedate k s (seqShed s) := by unfold seqShed; split <;> exact ⟨rfl, rfl⟩
theorem cooldownEnd_sedate : Sedate k s (cooldownEnd s) := by unfold cooldownEnd; (repeat' split) <;> exact ⟨rfl, rfl⟩
theorem offFaulty_sedate : Sedate k s (offFaulty s) := by unfold offFaulty; (repeat' split) <;> exact ⟨rfl, rfl⟩
theorem unitLost_sedate : Sedate k s (unitLost s) := by unfold unitLost; split <;> exact ⟨rfl, rfl⟩
theorem heaterResult_sedate (c : HeaterCmd) (x : CmdResult) (y : Bool) : Sedate k s (heaterResult c x y s) := by
  unfold heaterResult; (repeat' split) <;> exact ⟨rfl, rfl⟩

theorem runningReading_sedate (u : UnitReading) : Sedate k s (runningReading u s) := by
  unfold runningReading; (repeat' split) <;> exact ⟨rfl, rfl⟩
theorem lostReading_sedate (u : UnitReading) (x : Bool) : Sedate k s (lostReading u x s) := by
  unfold lostReading; split
  · exact ⟨rfl, rfl⟩
  · split
    · split <;> exact ⟨rfl, rfl⟩
    · split
      · exact ⟨rfl, aloof_cons.2 ⟨rfl, by split <;> rfl⟩⟩
      · exact sedate_nil s
theorem unitReading_sedate (u : Option UnitReading) (x : Bool) : Sedate k s (unitReading u x s) := by
  have hrun : ∀ u', Sedate k s (runningReading u' (setSeq (fun q => { q with last := u }) s)) := fun u' => runningReading_sedate _ u'
  have hlost : ∀ u', Sedate k s (lostReading u' x (setSeq (fun q => { q with last := u }) s)) := fun u' => lostReading_sedate _ u' x
  unfold unitReading
  simp only
  split
  case h_7 => exact hrun _
  case h_10 => exact hlost _
  all_goals (repeat' split) <;> exact ⟨rfl, rfl⟩
theorem supplyReport_sedate (x : OutletState) : Sedate k s (supplyReport x s) := by
  unfold supplyReport; simp only
  split
  · split <;> exact ⟨rfl, rfl⟩
  · unfold supplyTripped; split <;> exact ⟨rfl, rfl⟩
  · exact ⟨rfl, rfl⟩
theorem supplyAsk_sedate : Sedate k s (supplyAsk s) := by unfold supplyAsk; (repeat' split) <;> exact ⟨rfl, rfl⟩

/-! ### Movers -/

@[simp] theorem setMover_still (m : Mover) (x : MoverRec) : (setMover m x s).still = s.still := by cases m <;> rfl
@[simp] theorem setPending_still (m : Mover) (c : Bool) : (setPending m c s).still = s.still := by cases m <;> rfl

theorem stowSignal_sedate (m : Mover) : Sedate k s (stowSignal m s) := by
  refine ⟨?_, by cases m <;> rfl⟩
  unfold stowSignal; simp only; split
  · exact setPending_still s m _
  · rfl
theorem claim_sedate (m : Mover) : Sedate k s (claim m s) := by unfold claim; split <;> exact ⟨rfl, rfl⟩
theorem leaveStalled_still (m : Mover) : (leaveStalled m s).still = s.still := by
  unfold leaveStalled; simp only; split
  · exact setMover_still s _ _
  · rfl
theorem autoStart_sedate (m : Mover) (t : MoveTag) (d : Dir) : Sedate k s (autoStart m t d s) :=
  ⟨(setMover_still _ _ _).trans (leaveStalled_still s m), rfl⟩
theorem requestRetract_sedate (m : Mover) : Sedate k s (requestRetract m s) := by
  unfold requestRetract; split
  · exact sedate_nil s
  · split
    · exact autoStart_sedate s m _ _
    · exact ⟨setPending_still _ _ _, rfl⟩
theorem serveRelease_sedate : Sedate k s (serveRelease s) := by
  have hstart : ∀ m, Sedate k s (autoStart m .retract .inward (setPending m false s)) := fun m =>
    have h := autoStart_sedate (k := k) (setPending m false s) m .retract .inward
    ⟨h.1.trans (setPending_still s m false), h.2⟩
  unfold serveRelease
  split
  · exact sedate_nil s
  · split
    · exact hstart .step
    · split
      · exact hstart .awning
      · exact sedate_nil s
theorem extension_sedate : Sedate k s (extension s) := by
  unfold extension; simp only
  split
  · split
    · exact ⟨rfl, rfl⟩
    · exact autoStart_sedate s _ _ _
  · exact sedate_nil s
theorem stopDrive_still (m : Mover) (c : Bool) : (stopDrive m c s).still = s.still := by
  unfold stopDrive; simp only
  split
  · split
    · exact (rfl : (setDuty 0 _).still = _).trans (setMover_still s _ _)
    · exact setMover_still s _ _
  · rfl
theorem aloof_endActs (m : Mover) (f : Outcome) (x : Word) : Aloof k (endActs s m f x) := by
  simp [endActs, Act.aloof, Req.spares, Req.isFor]
theorem moveEnd_sedate (m : Mover) (f : Outcome) (x : Word) : Sedate k s (moveEnd m f x s) := by
  unfold moveEnd
  split
  · exact sedate_nil s
  · split
    · exact sedate_nil s
    · exact ⟨stopDrive_still s _ _, aloof_endActs s _ _ _⟩
theorem moveFree_still (m : Mover) : (moveFree m s).still = s.still := by unfold moveFree; split <;> rfl
theorem moveResult_sedate (m : Mover) (f : Outcome) (x : Word) : Sedate k s (moveResult m f x s) := by
  unfold moveResult; simp only
  split
  · exact sedate_nil s
  · split <;> exact ⟨setMover_still s _ _, by simp [Act.aloof]⟩
theorem driveStart_stirs (m : Mover) (v : Move) : Stirs k s (driveStart m v s) := by
  unfold driveStart; simp only; split
  · exact ⟨.inl rfl, rfl⟩
  · have hmover : ∀ x : MoverRec, (setMover m x s).still = s.still := setMover_still s m
    have hdrive : ∀ (n : Nat) (t : State), (setIdle 0 (setDuty n t)).still = { t.still with idle := 0 } := fun _ _ => rfl
    exact ⟨.inr ((hdrive _ _).trans (by rw [hmover])), rfl⟩
theorem bridgeReport_stirs (x : OutletState) : Stirs k s (bridgeReport x s) := by
  unfold bridgeReport
  split
  · exact (sedate_nil s).stirs
  · split
    · exact (sedate_nil s).stirs
    · split
      · exact ⟨.inl rfl, by simp [aloof_endActs]⟩
      · split
        · exact ⟨.inl rfl, rfl⟩
        · split
          · exact (sedate_nil s).stirs
          · exact driveStart_stirs s _ _
        · simp only
          split
          · exact (sedate_nil s).stirs
          · exact ⟨.inl (setMover_still s _ _), rfl⟩
theorem bridgeAsk_sedate : Sedate k s (bridgeAsk s) := by
  unfold bridgeAsk; split
  · exact ⟨stopDrive_still s _ _, rfl⟩
  · exact sedate_nil s
theorem blockBegins_sedate (m : Mover) : Sedate k s (blockBegins m s) := by
  unfold blockBegins; (repeat' split) <;> exact ⟨rfl, rfl⟩

/-! ### Lighting -/

theorem lightOutlet_ne_relay (c : Fin 6) : lightOutlet c ≠ 6 := fun e => by
  have h : 10 + c.val = 6 := congrArg Fin.val e
  omega
theorem aloof_lightDemand (c : Fin 6) : Aloof k (lightDemand s c) := by
  unfold lightDemand; simp only
  (repeat' split) <;> simp [Act.aloof, Req.spares, Req.isFor, lightOutlet_ne_relay]
theorem ramp_sedate (c : Fin 6) : Sedate k s (ramp c s) := by
  unfold ramp; simp only; split
  · exact ⟨rfl, aloof_append.2 ⟨aloof_append.2 ⟨by simp [aloof_lightDemand], by split <;> rfl⟩, rfl⟩⟩
  · exact sedate_nil s
theorem lightCut_sedate (c : Fin 6) (x : Bool) {l : List Act} (h : Aloof k l) : Sedate k s (lightCut c x l s) :=
  ⟨rfl, by simp [lightCut, aloof_lightDemand, h]⟩
theorem lightReport_sedate (c : Fin 6) (x y : OutletState) : Sedate k s (lightReport c x y s) := by
  have htest : Aloof k ((match (channel s c).owner with | some n => [Act.recallTest n] | none => []) ++
      [.shown [.channel c] recallParts]) := aloof_append.2 ⟨by split <;> rfl, rfl⟩
  cases y
  case on =>
    unfold lightReport; simp only; split
    · exact ⟨rfl, aloof_append.2 ⟨by simp [Act.aloof, Req.spares, Req.isFor, lightOutlet_ne_relay], htest⟩⟩
    · split <;> exact ⟨rfl, htest⟩
  case off => exact ⟨rfl, htest⟩
  case waiting | shed | inhibited | tripped => exact lightCut_sedate s c _ htest
theorem lookup_still (n : Fin 32) : (lookup n s).1.still = s.still := by
  unfold lookup; simp only
  (repeat' split) <;> rfl
theorem OnlyLights.still {s t : State} (h : OnlyLights s t) : t.still = s.still := by
  obtain ⟨_, rfl⟩ := h
  rfl
theorem clearOwners_still (l : List LightOwner) : ∀ s : State, (clearOwners l s).still = s.still := by
  induction l with
  | nil => exact fun _ => rfl
  | cons n l ih => exact fun s => (ih _).trans (clearOwner_onlyLights n channels s).still
theorem recallStep_sedate (l : List Word) (n : LightOwner) (c : Bool) (cs : List (Fin 6)) (lost : List (LightOwner × Fin 6)) :
    Sedate k s (recallStep l n c cs lost s) := by
  unfold recallStep
  split
  · exact ⟨rfl, aloof_append.2 ⟨aloof_lightDemand _ _, rfl⟩⟩
  · refine ⟨clearOwners_still _ s, aloof_append.2 ⟨aloof_iff.2 fun a ha => ?_, rfl⟩⟩
    obtain ⟨e, -, rfl⟩ := List.mem_map.1 ha
    rfl
theorem supersede_sedate (p o : LightOwner) (c : Fin 6) : Sedate k s (supersede p o c s) := by
  unfold supersede; split <;> exact ⟨rfl, rfl⟩
theorem arrive_sedate (x : Recall) : Sedate k s (arrive x s) := by
  have h : (clearOwner x.owner channels (dropRecalls [x.owner] s)).still = s.still :=
    (clearOwner_onlyLights _ _ _).still.trans rfl
  unfold arrive
  generalize clearOwner x.owner channels (dropRecalls [x.owner] s) = t at h ⊢
  split <;> exact ⟨h, rfl⟩
theorem recallTest_sedate (n : LightOwner) : Sedate k s (recallTest n s) := by
  unfold recallTest
  split
  · split
    · exact arrive_sedate s _
    · exact sedate_nil s
  · exact sedate_nil s
theorem applied_sedate (n : LightOwner) (j : Nat) (c : Bool) : Sedate k s (applied n j c s) := ⟨rfl, rfl⟩
theorem doorScene_sedate : Sedate k s (doorScene s) := by
  unfold doorScene
  split
  · exact sedate_nil s
  · split
    · exact sedate_nil s
    · next n _ =>
      have h := lookup_still s n
      split
      · next e => rw [e] at h; exact ⟨h, rfl⟩
      · next e => rw [e] at h; exact ⟨h, rfl⟩

/-! ### Owners and terms -/

theorem ownerReport_stirs (o : Fin 16) (x y : OutletState) : Stirs k s (ownerReport o x y s) := by
  unfold ownerReport
  split
  · exact (sedate_nil s).stirs
  · split
    · exact (showing_sedate s (pumpReport_sedate s _)).stirs
    · split
      · exact (closing_sedate s (supplyReport_sedate s _)).stirs
      · split
        · exact bridgeReport_stirs s _
        · split
          · exact (showing_sedate s (fillReport_sedate s _)).stirs
          · split
            · exact ⟨.inl rfl, rfl⟩
            · split
              · exact (lightReport_sedate s _ _ _).stirs
              · exact (sedate_nil s).stirs

theorem ownerAsk_sedate (o : Fin 16) : Sedate k s (ownerAsk o s) := by
  unfold ownerAsk
  split
  · exact supplyAsk_sedate s
  · split
    · exact bridgeAsk_sedate s
    · exact sedate_nil s

theorem setBlockCount_still (m : Mover) (j : Nat) : (setBlockCount m j s).still = s.still := by cases m <;> rfl

theorem blockRise_sedate (m : Mover) (j : Nat) : Sedate k s (blockRise m j s) :=
  ⟨setBlockCount_still _ _ _, by simp [blockRise, Act.aloof]⟩

theorem blockFall_still (m : Mover) (j : Nat) : (blockFall m j s).still = s.still := setBlockCount_still _ _ _

theorem aloof_netFalls (l : List Change) : Aloof k (netFalls l) := aloof_iff.2 fun a ha => by
  obtain ⟨o, -, e⟩ := List.mem_filterMap.1 ha
  simp only at e
  split at e
  · cases e; rfl
  · cases e

theorem aloof_handOut (l : List Change) : Aloof k (handOut l) := by
  have hr : ∀ m, Aloof k (blockRiseActs l m) := fun m => by unfold blockRiseActs; simp only; split <;> rfl
  have hf : ∀ m, Aloof k (blockFallActs l m) := fun m => by unfold blockFallActs; simp only; split <;> rfl
  have hrise : Aloof k [.action [.rises (netRises l)]] := rfl
  simp [handOut, hr, hf, aloof_netFalls, hrise, Act.aloof]

end Sys2Proof.Machine
end

section
/-!
SUPPORT. What the outlet controller's acts leave alone: the levels, the link, the slots and the signals (`Tells`), and, through aloof
acts, the demand and the state of the split relay (`Shuns`).
-/
namespace Sys2Proof.Machine

/-! ### Acts that tell at most -/

/-- The part of the state outside the outlet controller that none of its acts changes. -/
def State.outer (s : State) : Nat × Nat × Signals × Link × Mem :=
  (s.charge.shedLevel, s.charge.limit, s.interlock.signals, s.link, s.ram.slots)

/-- That part is the same, no notice is lost, and the idle timer stays or restarts. -/
structure Tells (s t : State) : Prop where
  outer : t.outer = s.outer
  notices : ∀ g k, Noticed s g k → Noticed t g k
  idle : t.charge.idle = s.charge.idle ∨ t.charge.idle = 0

variable {s t u : State}

theorem Tells.refl (s : State) : Tells s s := ⟨rfl, fun _ _ h => h, .inl rfl⟩

theorem Tells.trans (h : Tells s t) (g : Tells t u) : Tells s u where
  outer := g.outer.trans h.outer
  notices i k e := g.notices i k (h.notices i k e)
  idle := g.idle.elim (fun e => e ▸ h.idle) .inr

theorem Tells.of_eq (h : t.outer = s.outer) (hp : t.port = s.port)
    (hi : t.charge.idle = s.charge.idle ∨ t.charge.idle = 0 := by exact .inl rfl) :
    Tells s t := ⟨h, fun g k e => by rw [Noticed, hp]; exact e, hi⟩

theorem Tells.of_stirred (h : t.still = s.still ∨ t.still = { s.still with idle := 0 }) : Tells s t := by
  rcases h with h | h <;> injection h with h1 h2 hi h3 h4 h5 h6 <;>
    refine .of_eq (by simp only [State.outer, State.still, h1, h2, h4, h5, h6]) h3 ?_
  · exact .inl hi
  · exact .inr hi

theorem Tells.of_still (h : t.still = s.still) : Tells s t := .of_stirred (.inl h)

theorem raise_tells (g : Group) (b : BitVec 32) (s : State) : Tells s (raise g b s) :=
  ⟨rfl, fun _ _ h => Noticed.markNotice h g b, .inl rfl⟩

theorem setOutlet_tells (o : Fin 16) (x : Outlet) (s : State) : Tells s (setOutlet o x s) := .of_eq rfl rfl

namespace Run

variable (r : Run)

theorem dark_tells (o : Fin 16) (x : OutletState) : Tells r.st (r.dark o x).st := .of_eq rfl rfl
theorem grant_tells (o : Fin 16) : Tells r.st (r.grant o).st := .of_eq rfl rfl

theorem judge_tells (o : Fin 16) : Tells r.st (r.judge o).st := by
  unfold judge; (repeat' split) <;> exact .of_eq rfl rfl

theorem passEnd_tells (g : Goal) : Tells r.st (r.passEnd g).st := by
  unfold passEnd
  split
  · exact .refl _
  · next o =>
    have hraise : Tells r.st (if r.revoked then r.onState (raise .outlets (bit 13)) else r).st := by
      split
      · exact raise_tells _ _ _
      · exact .refl _
    simp only
    refine hraise.trans ?_
    generalize (if r.revoked then r.onState (raise .outlets (bit 13)) else r) = q
    (repeat' split) <;> exact .of_eq rfl rfl

theorem pass_tells (g : Goal) : Tells r.st (r.pass g).st := by
  unfold pass
  split
  · exact passEnd_tells r g
  · split
    · exact passEnd_tells r g
    · split <;> exact .of_eq rfl rfl

theorem overLimit_tells (b : Bool) : Tells r.st (r.overLimit b).st := by
  unfold overLimit; split
  · exact raise_tells _ _ _
  · exact .refl _

theorem cut_tells (o : Fin 16) (c : Cut) : Tells r.st (r.cut o c).st := by
  unfold cut; (repeat' split) <;> exact .of_eq rfl rfl

theorem foldDark_tells (x : OutletState) (l : List (Fin 16)) :
    ∀ r : Run, Tells r.st (l.foldl (fun r o => r.dark o x) r).st := by
  induction l with
  | nil => exact fun r => .refl _
  | cons o l ih => exact fun r => (dark_tells r o x).trans (ih _)

theorem shedLevel_tells (n : Nat) : Tells r.st (r.shedLevel n).st := by
  unfold shedLevel
  simp only
  split
  · exact .of_eq rfl rfl
  · split
    · have hset : Tells r.st { r.st with outlets := { r.st.outlets with shedLevel := n } } := .of_eq rfl rfl
      exact hset.trans (foldDark_tells .waiting _ (r.onState fun s => { s with outlets := { s.outlets with shedLevel := n } }))
    · exact .of_eq rfl rfl

theorem limit_tells (n : Nat) : Tells r.st (r.limit n).st := by
  unfold limit; simp only; (repeat' split) <;> exact .of_eq rfl rfl

theorem rejudge_tells (o : Fin 16) (c : Class) : Tells r.st (r.rejudge o c).st := by
  unfold rejudge; (repeat' split) <;> exact .of_eq rfl rfl

theorem consider_tells (o : Fin 16) : Tells r.st (r.consider o).st := by
  unfold consider; (repeat' split) <;> exact .of_eq rfl rfl

theorem clearTrip_tells (o : Fin 16) : Tells r.st (r.clearTrip o).st := by
  unfold clearTrip; split <;> exact .of_eq rfl rfl

theorem trip_tells (o : Fin 16) : Tells r.st (r.trip o).st := (dark_tells r o .tripped).trans (raise_tells _ _ _)

/-- One count of an evaluation's rises. -/
theorem rises_cons (p : Fin 16 × Nat) (l : List (Fin 16 × Nat)) : r.rises (p :: l) = Run.rises l
    (if (outlet r.st p.1).inhibit = 0 ∧ ((outlet r.st p.1).state = .on ∨ (outlet r.st p.1).state = .waiting ∨
        (outlet r.st p.1).state = .shed)
      then (r.onState (setOutlet p.1 { outlet r.st p.1 with inhibit := (outlet r.st p.1).inhibit + p.2 })).dark p.1 .inhibited
      else r.onState (setOutlet p.1 { outlet r.st p.1 with inhibit := (outlet r.st p.1).inhibit + p.2 })) := rfl

theorem rises_tells (l : List (Fin 16 × Nat)) : ∀ r : Run, Tells r.st (r.rises l).st := by
  induction l with
  | nil => exact fun r => .refl _
  | cons p l ih =>
    intro r
    rw [rises_cons]
    refine .trans ?_ (ih _)
    split <;> exact .of_eq rfl rfl

theorem fall_tells (o : Fin 16) (k : Nat) : Tells r.st (r.fall o k).st := by
  unfold fall; simp only; split <;> exact .of_eq rfl rfl

theorem takeReq_tells (q : Req) : Tells r.st (takeReq q r).st := by
  cases q with
  | demand o d => exact show Tells r.st (r.takeDemand o d).st by unfold takeDemand; simp only; split <;> exact .of_eq rfl rfl
  | withdraw o => exact show Tells r.st (r.takeWithdraw o).st by unfold takeWithdraw; split <;> exact .of_eq rfl rfl
  | charge o k =>
    exact show Tells r.st (r.takeCharge o k).st by unfold takeCharge; simp only; (repeat' split) <;> exact .of_eq rfl rfl
  | heater h => exact .of_eq rfl rfl

theorem take_tells (q : Req) : Tells r.st (r.take q).st := by
  unfold take; split
  · exact .refl _
  · exact takeReq_tells r q

theorem req_tells (q : Req) : Tells r.st (r.req q).st := by unfold req; split <;> exact .refl _
theorem drain_tells : Tells r.st r.drain.st := by unfold drain; split <;> exact .refl _
theorem arbiterIf_tells : Tells r.st r.arbiterIf.st := by unfold arbiterIf; split <;> exact .refl _
theorem flush_tells : Tells r.st r.flush.st := by unfold flush; (repeat' split) <;> exact .refl _
theorem drainIfDone_tells : Tells r.st r.drainIfDone.st := by unfold drainIfDone; split <;> exact .refl _
theorem actEnd_tells : Tells r.st r.actEnd.st :=
  have hsync : Tells r.st (syncPart .outlets r.st) := .of_eq rfl rfl
  hsync.trans (drainIfDone_tells { r with acting := r.acting - 1, st := syncPart .outlets r.st })
theorem evalEnd_tells : Tells r.st r.evalEnd.st := drainIfDone_tells { r with evals := r.evals - 1 }
theorem seqReport_tells : Tells r.st r.seqReport.st := by unfold seqReport; simp only; split <;> exact .refl _

end Run

theorem afterReports_tells (s : State) : Tells s (afterReports s) := by
  have hidle : (afterReports s).charge.idle = s.charge.idle ∨ (afterReports s).charge.idle = 0 := by
    unfold afterReports idleCheck
    split
    · exact .inl rfl
    · exact .inr rfl
  obtain ⟨_, _, h⟩ := afterReports_shows s
  rw [h] at hidle ⊢
  exact .of_eq rfl rfl hidle

theorem evalNotices_tells (l : List Nat) (c : Bool) (s : State) : Tells s (evalNotices l c s) := by
  have hcodes : Tells s (if l = [] then s else raise .outlets (l.foldl (fun b n => b ||| bit n) 0) s) := by
    split
    · exact .refl s
    · exact raise_tells _ _ s
  have htravel : ∀ u, Tells u (if c then raise .movers (bit 15) u else u) := fun u => by
    split
    · exact raise_tells _ _ u
    · exact .refl u
  exact (hcodes.trans (htravel _)).trans (.of_eq rfl rfl)

/-! ### The split relay through aloof acts -/

/-- What is left to do leaves a split relay that is watched alone: its demand is `d`, and it is OFF or TRIPPED where nothing may decide
on it. -/
structure Run.Shuns (k : Care) (d : Option Demand) (r : Run) : Prop where
  work : Aloof k r.work
  deferred : ∀ q ∈ r.deferred, q.spares k = true
  demand : k.lax = false → (outlet r.st 6).demand = d
  dark : k.decides = false → (outlet r.st 6).state = .off ∨ (outlet r.st 6).state = .tripped

namespace Run.Shuns

variable {k : Care} {d : Option Demand} {r : Run}

theorem withState {t : State} (h : r.Shuns k d) (hd : k.lax = false → (outlet t 6).demand = (outlet r.st 6).demand)
    (hs : k.decides = false → (outlet t 6).state = (outlet r.st 6).state) : ({ r with st := t } : Run).Shuns k d :=
  ⟨h.work, h.deferred, fun hk => (hd hk).trans (h.demand hk), fun hk => hs hk ▸ h.dark hk⟩

theorem of_outlets {t : State} (h : r.Shuns k d) (ht : t.outlets.table = r.st.outlets.table) : ({ r with st := t } : Run).Shuns k d :=
  have e : outlet t 6 = outlet r.st 6 := by rw [outlet, outlet, ht]
  h.withState (fun _ => by rw [e]) fun _ => by rw [e]

theorem of_stirred {t : State} (h : r.Shuns k d) (ht : t.still = r.st.still ∨ t.still = { r.st.still with idle := 0 }) :
    ({ r with st := t } : Run).Shuns k d :=
  have e : t.still.relay = r.st.still.relay := by rcases ht with e | e <;> rw [e]
  h.withState (fun _ => (congrArg Prod.fst e :)) fun _ => (congrArg Prod.snd e :)

theorem of_still {t : State} (h : r.Shuns k d) (ht : t.still = r.st.still) : ({ r with st := t } : Run).Shuns k d :=
  h.of_stirred (.inl ht)

theorem push {l : List Act} (h : r.Shuns k d) (hl : Aloof k l) : (r.push l).Shuns k d :=
  ⟨aloof_append.2 ⟨hl, h.work⟩, h.deferred, h.demand, h.dark⟩

theorem stir {f : State → React} (h : r.Shuns k d) (hf : Stirs k r.st (f r.st)) : (r.react f).Shuns k d :=
  (h.of_stirred hf.1).push hf.2

theorem react {f : State → React} (h : r.Shuns k d) (hf : Sedate k r.st (f r.st)) : (r.react f).Shuns k d := h.stir hf.stirs

/-- A decision on outlet `o` may be taken. -/
theorem ne_of_free {o : Fin 16} (ho : (o != 6 || k.decides) = true) (hk : k.decides = false) : o ≠ 6 := by
  simpa [hk] using ho

theorem setOutlet {o : Fin 16} {x : Outlet} (h : r.Shuns k d) (hd : k.lax = false → x.demand = (outlet r.st o).demand ∨ o ≠ 6)
    (hs : k.decides = false → x.state = (outlet r.st o).state ∨ o ≠ 6) : (r.onState (setOutlet o x)).Shuns k d := by
  refine h.withState (fun hk => ?_) fun hk => ?_ <;> rw [outlet_setOutlet] <;> split
  · next e => exact e ▸ (hd hk).resolve_right (fun c => c e.symm)
  · rfl
  · next e => exact e ▸ (hs hk).resolve_right (fun c => c e.symm)
  · rfl

theorem dark_of {o : Fin 16} {x : OutletState} (h : r.Shuns k d) (ho : k.decides = false → o ≠ 6) : (r.dark o x).Shuns k d :=
  have g := h.setOutlet (o := o) (x := { outlet r.st o with
    state := x, charge := 0, measured := 0, sum := 0, samples := 0, whole := false, overMs := 0, pullIn := false })
    (fun _ => .inl rfl) fun hk => .inr (ho hk)
  ⟨h.work, h.deferred, g.demand, g.dark⟩

theorem grant {o : Fin 16} (h : r.Shuns k d) (ho : k.decides = false → o ≠ 6) : (r.grant o).Shuns k d :=
  have g := h.setOutlet (o := o) (x := { outlet r.st o with
    state := .on, charge := requested r.st o, grantOrder := r.st.outlets.nextGrant, measured := 0, sum := 0, samples := 0,
    whole := false, overMs := 0, pullIn := decide (o = 1 ∨ o = 7) }) (fun _ => .inl rfl) fun hk => .inr (ho hk)
  ⟨h.work, h.deferred, g.demand, g.dark⟩

/-- An outlet in a state other than OFF and TRIPPED is not a relay that is watched. -/
theorem ne_of_state {o : Fin 16} (h : r.Shuns k d) (h0 : (outlet r.st o).state ≠ .off) (h1 : (outlet r.st o).state ≠ .tripped)
    (hk : k.decides = false) : o ≠ 6 := fun e => by
  subst e
  exact (h.dark hk).elim h0 h1

theorem free_of_state {o : Fin 16} (h : r.Shuns k d) (h0 : (outlet r.st o).state ≠ .off) (h1 : (outlet r.st o).state ≠ .tripped) :
    (o != 6 || k.decides) = true := by
  cases hk : k.decides with
  | true => exact Bool.or_true _
  | false => simpa using h.ne_of_state h0 h1 hk

theorem judge {o : Fin 16} (h : r.Shuns k d) (ho : (o != 6 || k.decides) = true) : (r.judge o).Shuns k d := by
  unfold Run.judge
  split
  · exact h.dark_of (ne_of_free ho)
  · split
    · exact h.dark_of (ne_of_free ho)
    · split
      · exact h.grant (ne_of_free ho)
      · split
        · exact h.push (aloof_cons.2 ⟨ho, rfl⟩)
        · exact h.dark_of (ne_of_free ho)

theorem passEnd {g : Goal} (h : r.Shuns k d) (hg : (Act.pass g).aloof k = true) : (r.passEnd g).Shuns k d := by
  unfold Run.passEnd
  split
  · exact h
  · next o =>
    have ho : k.decides = false → o ≠ 6 := ne_of_free hg
    have hraise : (if r.revoked then r.onState (raise .outlets (bit 13)) else r).Shuns k d := by
      split
      · exact h.of_outlets rfl
      · exact h
    simp only
    generalize (if r.revoked then r.onState (raise .outlets (bit 13)) else r) = q at hraise
    split
    · exact hraise.dark_of ho
    · split
      · exact hraise.dark_of ho
      · exact (hraise.grant ho).push rfl

theorem candidate_on {s : State} {c : Fin 16} (h : Run.candidate s = some c) : (outlet s c).state = .on := by
  suffices hall : ∀ c, Run.candidate s = some c → (outlet s c).state = .on from hall c h
  unfold Run.candidate
  refine List.foldlRecOn outletsAll _ (motive := fun b => ∀ c, b = some c → (outlet s c).state = .on) nofun
    fun b hb o _ c hc => ?_
  split at hc
  · next ho =>
    split at hc
    · cases hc; exact ho.1
    · split at hc
      · cases hc; exact ho.1
      · exact hb c hc
  · exact hb c hc

theorem pass {g : Goal} (h : r.Shuns k d) (hg : (Act.pass g).aloof k = true) : (r.pass g).Shuns k d := by
  unfold Run.pass
  split
  · exact h.passEnd hg
  · split
    · exact h.passEnd hg
    · next c hc =>
      have hon := candidate_on hc
      split
      · exact h.push (aloof_cons.2 ⟨rfl, aloof_cons.2 ⟨rfl, aloof_cons.2 ⟨hg, rfl⟩⟩⟩)
      · have hdark := h.dark_of (x := .waiting) (h.ne_of_state (o := c) (by simp [hon]) (by simp [hon]))
        exact Run.Shuns.push (r := { r.dark c .waiting with revoked := true }) ⟨hdark.work, hdark.deferred, hdark.demand, hdark.dark⟩
          (aloof_cons.2 ⟨hg, rfl⟩)

theorem overLimit {c : Bool} (h : r.Shuns k d) : (r.overLimit c).Shuns k d := by
  unfold Run.overLimit; split
  · exact h.of_outlets rfl
  · exact h

theorem cut {o : Fin 16} {c : Cut} (h : r.Shuns k d) : (r.cut o c).Shuns k d := by
  unfold Run.cut
  split
  · next hon =>
    have hdark : ∀ x, (r.dark o x).Shuns k d := fun x => h.dark_of (h.ne_of_state (by simp [hon.1]) (by simp [hon.1]))
    split
    · exact hdark _
    · exact ⟨(hdark .waiting).work, (hdark .waiting).deferred, (hdark .waiting).demand, (hdark .waiting).dark⟩
  · exact h

theorem foldDark {x : OutletState} (l : List (Fin 16)) : ∀ {r : Run}, r.Shuns k d → (∀ o ∈ l, k.decides = false → o ≠ 6) →
    (l.foldl (fun r o => r.dark o x) r).Shuns k d := by
  induction l with
  | nil => exact fun h _ => h
  | cons o l ih => exact fun h hl => ih (h.dark_of (hl o (by simp))) fun q hq => hl q (by simp [hq])

theorem cutRest (h : r.Shuns k d) : r.cutRest.Shuns k d := h.foldDark _ fun o ho => by
  have hs : (outlet r.st o).state = .on ∨ (outlet r.st o).state = .waiting := by
    simpa [Run.toShed] using (Bool.and_eq_true_iff.1 (List.mem_filter.1 ho).2).1
  exact h.ne_of_state (by rcases hs with e | e <;> simp [e]) (by rcases hs with e | e <;> simp [e])

theorem unshed (h : r.Shuns k d) : r.unshed.Shuns k d := h.foldDark _ fun o ho => by
  have hs : (outlet r.st o).state = .shed := by simpa using (Bool.and_eq_true_iff.1 (List.mem_filter.1 ho).2).1
  exact h.ne_of_state (by simp [hs]) (by simp [hs])

theorem aloof_askShed (s : State) (o : Fin 16) : Aloof k (askShed s o) := by unfold askShed; split <;> rfl

theorem aloof_action {l : List Act} (h : Aloof k l) : Aloof k [.action l] := aloof_cons.2 ⟨h, rfl⟩

theorem shedLevel {n : Nat} (h : r.Shuns k d) : (r.shedLevel n).Shuns k d := by
  have hset : (r.onState fun s => { s with outlets := { s.outlets with shedLevel := n } }).Shuns k d := h.of_outlets rfl
  unfold Run.shedLevel
  simp only
  split
  · exact hset.push (aloof_action (aloof_append.2 ⟨aloof_append.2 ⟨aloof_askShed _ _, aloof_askShed _ _⟩, rfl⟩))
  · split
    · exact hset.unshed.push rfl
    · exact hset

theorem limit {n : Nat} (h : r.Shuns k d) : (r.limit n).Shuns k d := by
  have hset : (r.onState fun s => { s with outlets := { s.outlets with limit := n } }).Shuns k d := h.of_outlets rfl
  unfold Run.limit
  simp only
  split
  · exact hset.push rfl
  · split
    · exact hset.push rfl
    · exact hset

theorem rejudge {o : Fin 16} {c : Class} (h : r.Shuns k d) : (r.rejudge o c).Shuns k d := by
  unfold Run.rejudge
  split
  · exact h
  · split
    · next hon =>
      have ho : k.decides = false → o ≠ 6 := h.ne_of_state (by simp [hon]) (by simp [hon])
      split
      · split
        · exact h.push rfl
        · exact h.dark_of ho
      · split
        · exact h
        · exact h.push rfl
    · next hwait =>
      have hfree := h.free_of_state (o := o) (by simp [hwait]) (by simp [hwait])
      split
      · exact h.dark_of (ne_of_free hfree)
      · split
        · exact h.push (aloof_cons.2 ⟨hfree, rfl⟩)
        · exact h
    · next hshed =>
      have hfree := h.free_of_state (o := o) (by simp [hshed]) (by simp [hshed])
      split
      · exact h
      · split
        · exact h.push (aloof_cons.2 ⟨hfree, rfl⟩)
        · exact (h.dark_of (ne_of_free hfree)).push rfl
    · exact h

theorem arbiter (h : r.Shuns k d) : r.arbiter.Shuns k d :=
  Run.Shuns.push (r := { r with room := false }) ⟨h.work, h.deferred, h.demand, h.dark⟩ (aloof_iff.2 fun a ha => by
    obtain ⟨o, -, rfl⟩ := List.mem_map.1 ha
    rfl)

theorem consider {o : Fin 16} (h : r.Shuns k d) : (r.consider o).Shuns k d := by
  unfold Run.consider
  split
  · next hwait =>
    have hfree := h.free_of_state (o := o) (by simp [hwait]) (by simp [hwait])
    split
    · exact h.dark_of (ne_of_free hfree)
    · split
      · exact h.grant (ne_of_free hfree)
      · split
        · exact h.push (aloof_cons.2 ⟨hfree, rfl⟩)
        · exact h
  · exact h

theorem setDemand {o : Fin 16} {x : Option Demand} (h : r.Shuns k d) (ho : k.lax = false → o ≠ 6) :
    (r.onState (setDemand o x)).Shuns k d :=
  h.setOutlet (fun hk => .inr (ho hk)) fun _ => .inl rfl

theorem newRequest {o : Fin 16} (h : r.Shuns k d) : (r.onState (newRequest o)).Shuns k d :=
  have g := h.setOutlet (o := o) (x := { outlet r.st o with requestOrder := r.st.outlets.nextRequest })
    (fun _ => .inl rfl) fun _ => .inl rfl
  ⟨g.work, g.deferred, g.demand, g.dark⟩

theorem clearTrip {o : Fin 16} (h : r.Shuns k d) (ho : (o != 6 || k.decides) = true) : (r.clearTrip o).Shuns k d := by
  unfold Run.clearTrip; split
  · exact h.dark_of (ne_of_free ho)
  · exact h.newRequest.push (aloof_cons.2 ⟨ho, rfl⟩)

theorem trip {o : Fin 16} (h : r.Shuns k d) (ho : (o != 6 || k.decides) = true) : (r.trip o).Shuns k d :=
  (h.dark_of (x := .tripped) (ne_of_free ho)).of_outlets rfl

theorem rises (l : List (Fin 16 × Nat)) : ∀ {r : Run}, r.Shuns k d → (r.rises l).Shuns k d := by
  induction l with
  | nil => exact fun h => h
  | cons p l ih =>
    intro r h
    have hcount := h.setOutlet (o := p.1) (x := { outlet r.st p.1 with inhibit := (outlet r.st p.1).inhibit + p.2 }) (fun _ => .inl rfl)
      fun _ => .inl rfl
    rw [rises_cons]
    refine ih ?_
    split
    · next hc =>
      refine hcount.dark_of (h.ne_of_state ?_ ?_) <;> obtain ⟨-, e | e | e⟩ := hc <;> simp [e]
    · exact hcount

theorem fall {o : Fin 16} {n : Nat} (h : r.Shuns k d) : (r.fall o n).Shuns k d := by
  have hcount := h.setOutlet (o := o) (x := { outlet r.st o with inhibit := (outlet r.st o).inhibit - n })
    (fun _ => .inl rfl) fun _ => .inl rfl
  unfold Run.fall
  simp only
  split
  · next hc => exact hcount.push (aloof_cons.2 ⟨h.free_of_state (by simp [hc.2]) (by simp [hc.2]), rfl⟩)
  · exact hcount

/-! ### Requests -/

theorem ne_of_spares {o : Fin 16} (ho : (!o == 6 || k.lax) = true) (hk : k.lax = false) : o ≠ 6 := by simpa [hk] using ho

/-- A relay that may be asked for may be decided on. -/
theorem free_of_spares {o : Fin 16} (ho : (!o == 6 || k.lax) = true) : (o != 6 || k.decides) = true := by
  cases k with
  | none | demand => exact Bool.or_true _
  | dark => simpa [Care.lax, Care.decides] using ho

theorem takeCharge {o : Fin 16} {n : Nat} (h : r.Shuns k d) (ho : (!o == 6 || k.lax) = true) : (r.takeCharge o n).Shuns k d := by
  unfold Run.takeCharge
  simp only
  split
  · exact h
  · next d0 _ =>
    split
    · exact h
    · split
      · split
        · have hset := h.setOutlet (o := o) (x := { outlet r.st o with demand := some { d0 with charge := n }, charge := n })
            (fun hk => .inr (ne_of_spares ho hk)) fun _ => .inl rfl
          exact ⟨hset.work, hset.deferred, hset.demand, hset.dark⟩
        · exact h.push (aloof_cons.2 ⟨ho, aloof_cons.2 ⟨rfl, aloof_cons.2 ⟨ho, rfl⟩⟩⟩)
      · exact h.setDemand (ne_of_spares ho)

theorem takeDemand {o : Fin 16} {x : Demand} (h : r.Shuns k d) (ho : (!o == 6 || k.lax) = true) : (r.takeDemand o x).Shuns k d := by
  have hset : ∀ x, (r.onState (Machine.setDemand o x)).Shuns k d := fun x => h.setDemand (ne_of_spares ho)
  unfold Run.takeDemand
  simp only
  split
  · exact ((hset (some x)).newRequest (o := o)).push (aloof_cons.2 ⟨free_of_spares ho, rfl⟩)
  · exact ⟨(hset (some x)).work, (hset (some x)).deferred, (hset (some x)).demand, (hset (some x)).dark⟩
  · exact (hset _).push (aloof_cons.2 ⟨rfl, aloof_cons.2 ⟨ho, rfl⟩⟩)
  · exact h

theorem takeWithdraw {o : Fin 16} (h : r.Shuns k d) (ho : (!o == 6 || k.lax) = true) : (r.takeWithdraw o).Shuns k d := by
  have hset : (r.onState (Machine.setDemand o none)).Shuns k d := h.setDemand (ne_of_spares ho)
  unfold Run.takeWithdraw
  split
  · exact hset
  · exact hset
  · exact hset.dark_of (ne_of_free (free_of_spares ho))

theorem takeHeater {x : SeqState} (h : r.Shuns k d) : (r.takeHeater x).Shuns k d :=
  have hset : (r.onState fun s => { s with outlets := { s.outlets with heater := x } }).Shuns k d := h.of_outlets rfl
  hset.push rfl

theorem takeReq {q : Req} (h : r.Shuns k d) (hq : q.spares k = true) : (takeReq q r).Shuns k d := by
  cases q with
  | demand o x => exact h.takeDemand hq
  | withdraw o => exact h.takeWithdraw hq
  | charge o n => exact h.takeCharge hq
  | heater x => exact h.takeHeater

theorem action {l : List Act} (h : r.Shuns k d) (hl : Aloof k l) : (r.action l).Shuns k d :=
  Run.Shuns.push (r := { r with acting := r.acting + 1, room := false }) ⟨h.work, h.deferred, h.demand, h.dark⟩
    (aloof_append.2 ⟨hl, rfl⟩)

theorem aloof_take {q : Req} (hq : q.spares k = true) : (Act.take q).aloof k = true := by simp [Act.aloof, hq]

theorem take {q : Req} (h : r.Shuns k d) (hq : q.spares k = true) : (r.take q).Shuns k d := by
  unfold Run.take; split
  · exact h.action (aloof_cons.2 ⟨aloof_take hq, rfl⟩)
  · exact h.takeReq hq

theorem defer {q : Req} (h : r.Shuns k d) (hq : q.spares k = true) : ({ r with deferred := r.deferred ++ [q] } : Run).Shuns k d :=
  ⟨h.work, fun p hp => (List.mem_append.1 hp).elim (h.deferred p) fun e => List.mem_singleton.1 e ▸ hq, h.demand, h.dark⟩

theorem req {q : Req} (h : r.Shuns k d) (hq : q.spares k = true) : (r.req q).Shuns k d := by
  unfold Run.req; split
  · exact h.push (aloof_cons.2 ⟨aloof_take hq, rfl⟩)
  · exact h.defer hq

theorem drain (h : r.Shuns k d) : r.drain.Shuns k d := by
  unfold Run.drain
  split
  · exact h
  · next q l e =>
    have hl : ∀ p ∈ q :: l, p.spares k = true := e ▸ h.deferred
    exact Run.Shuns.push (r := { r with deferred := l }) ⟨h.work, fun p hp => hl p (by simp [hp]), h.demand, h.dark⟩
      (aloof_cons.2 ⟨aloof_take (hl q (by simp)), rfl⟩)

theorem arbiterIf (h : r.Shuns k d) : r.arbiterIf.Shuns k d := by
  unfold Run.arbiterIf; split
  · exact h.push rfl
  · exact h

theorem flush (h : r.Shuns k d) : r.flush.Shuns k d := by
  unfold Run.flush
  split
  · next c l _ =>
    exact Run.Shuns.push (r := { r with changed := l, told := true }) ⟨h.work, h.deferred, h.demand, h.dark⟩ rfl
  · split
    · exact Run.Shuns.push (r := { r with told := false }) ⟨h.work, h.deferred, h.demand, h.dark⟩ rfl
    · split
      · exact h.push rfl
      · exact h

theorem drainIfDone (h : r.Shuns k d) : r.drainIfDone.Shuns k d := by
  unfold Run.drainIfDone; split
  · exact h.push rfl
  · exact h

theorem actEnd (h : r.Shuns k d) : r.actEnd.Shuns k d :=
  have hend := h.of_outlets (t := syncPart .outlets r.st) rfl
  Run.Shuns.drainIfDone (r := { r with acting := r.acting - 1, st := syncPart .outlets r.st })
    ⟨hend.work, hend.deferred, hend.demand, hend.dark⟩

theorem evalEnd (h : r.Shuns k d) : r.evalEnd.Shuns k d :=
  Run.Shuns.drainIfDone (r := { r with evals := r.evals - 1 }) ⟨h.work, h.deferred, h.demand, h.dark⟩

theorem apart (h : r.Shuns k d) : r.apart.Shuns k d :=
  have hpush := h.push (l := [.resume r.acting]) rfl
  ⟨hpush.work, hpush.deferred, hpush.demand, hpush.dark⟩

theorem seqReport (h : r.Shuns k d) : r.seqReport.Shuns k d := by
  unfold Run.seqReport; simp only; split
  · exact h.defer rfl
  · exact h.push rfl

theorem signal {g : Signal} {v : Nat} (h : r.Shuns k d) : (r.signal g v).Shuns k d := by
  unfold Run.signal
  split
  · exact h
  · split
    · have heval := h.of_outlets (t := (evaluate (fun b => b.names g) (fun t => TermRec.names t g) (setSignal g v r.st)).1) rfl
      exact Run.Shuns.push (r := { r with
        st := (evaluate (fun b => b.names g) (fun t => TermRec.names t g) (setSignal g v r.st)).1, evals := r.evals + 1 })
        ⟨heval.work, heval.deferred, heval.demand, heval.dark⟩ (aloof_handOut _)
    · exact h.of_outlets rfl

end Run.Shuns

end Sys2Proof.Machine
end

section
/-!
SUPPORT. What any cascade does to the levels, the notices, the slots and the link (`Follows`).
-/
namespace Sys2Proof.Machine

variable {s t u : State}

/-! ### One act -/

/-- What an act may do: the shed level and the budget limit stay or become those of their inputs, no notice is lost, the slots stay in
canonical form, the idle timer stays or restarts, a link that is not idle stays in its phase and keeps a posted FLOAT. -/
structure State.Moves (s t : State) : Prop where
  shed : t.charge.shedLevel = s.charge.shedLevel ∨ t.charge.shedLevel = shedOf s
  limit : t.charge.limit = s.charge.limit ∨ t.charge.limit = limitOf s
  notices : ∀ g k, Noticed s g k → Noticed t g k
  slots : Mem.Wf 0 s.ram.slots → Mem.Wf 0 t.ram.slots
  idle : t.charge.idle = s.charge.idle ∨ t.charge.idle = 0
  link : s.link.phase ≠ .idle → t.link.phase = s.link.phase ∧ (s.link.solar = true → t.link.solar = true)

theorem Tells.moves (h : Tells s t) : s.Moves t := by
  obtain ⟨houter, hnotices, hidle⟩ := h
  obtain ⟨hshed, hlimit, -, hlink, hslots⟩ : t.charge.shedLevel = s.charge.shedLevel ∧ t.charge.limit = s.charge.limit ∧
      t.interlock.signals = s.interlock.signals ∧ t.link = s.link ∧ t.ram.slots = s.ram.slots := by
    simpa only [State.outer, Prod.mk.injEq] using houter
  exact ⟨.inl hshed, .inl hlimit, hnotices, fun h => hslots ▸ h, hidle, fun _ => ⟨by rw [hlink], fun h => by rw [hlink, h]⟩⟩

theorem Sedate.tells {k : Care} {x : React} (h : Sedate k s x) : Tells s x.1 := .of_still h.1

theorem Stirs.tells {k : Care} {x : React} (h : Stirs k s x) : Tells s x.1 := .of_stirred h.1

/-- All acts but the ones that change a signal, a slot, a level or the link. -/
def Act.tells : Act → Bool
  | .signal _ _ | .finish _ _ | .tripDone _ _ | .shedEval | .limitEval | .post _ | .postFloat => false
  | _ => true

theorem service_notices {g : Group} {k : Nat} (h : Noticed s g k) (n : Fin 32) (f : Finish) : Noticed (service n f s) g k := by
  have hwritten : (dropOwner n (writeFinish n f s.time s)).port = s.port := rfl
  unfold service
  exact (raise_tells _ _ _).notices g k (by rw [Noticed, hwritten]; exact h)

theorem finish_notices {g : Group} {k : Nat} (h : Noticed s g k) (n : Fin 32) (f : Finish) : Noticed (finish n f s) g k := by
  unfold finish
  refine chainEffect_keeps (P := fun t => Noticed t g k) (fun t m _ ht => ?_) (fun _ _ ht => ht) n f.outcome _ (service_notices h n f)
  exact service_notices (s := dropHeld m t) ht m _

theorem finish_moves (n : Fin 32) (f : Finish) (s : State) : s.Moves (finish n f s) where
  shed := .inl (congrArg (fun u : State => u.charge.shedLevel) (finish_sansOrders n f s) :)
  limit := .inl (congrArg (fun u : State => u.charge.limit) (finish_sansOrders n f s) :)
  notices _ _ h := finish_notices h n f
  slots h := finish_wf h n f
  idle := .inl (congrArg (fun u : State => u.charge.idle) (finish_sansOrders n f s) :)
  link _ := by
    have e : (finish n f s).link = s.link := (congrArg State.link (finish_sansOrders n f s) :)
    rw [e]
    exact ⟨rfl, id⟩

theorem shedEval_moves (s : State) : s.Moves (shedEval s).1 := by
  unfold shedEval; simp only; split
  · exact (Tells.refl s).moves
  · exact ⟨.inr rfl, .inl rfl, fun _ _ h => h, id, .inl rfl, fun _ => ⟨rfl, id⟩⟩

theorem limitEval_moves (s : State) : s.Moves (limitEval s).1 := by
  unfold limitEval; simp only; split
  · exact (Tells.refl s).moves
  · exact ⟨.inl rfl, .inr rfl, fun _ _ h => h, id, .inl rfl, fun _ => ⟨rfl, id⟩⟩

/-- What a choice of the link leaves of the state. -/
theorem linkChoose_outside (now : Nat) (s : State) : ∃ k, linkChoose now s = { s with link := k } := by
  unfold linkChoose
  simp only
  split
  · exact ⟨_, rfl⟩
  · unfold sendHeater; simp only; split <;> exact ⟨_, rfl⟩
  · split
    · exact ⟨_, rfl⟩
    · split <;> exact ⟨_, rfl⟩

theorem chooseIfIdle_outside (s : State) : ∃ k, chooseIfIdle s = { s with link := k } := by
  unfold chooseIfIdle; split
  · exact linkChoose_outside _ _
  · exact ⟨_, rfl⟩

theorem chooseIfIdle_moves (h : s.link.phase = t.link.phase) (hs : t.link.solar = true → s.link.solar = true)
    (ho : s.outer = ({ t with link := s.link } : State).outer) (hp : s.port = t.port)
    (hi : s.charge.idle = t.charge.idle) : t.Moves (chooseIfIdle s) := by
  obtain ⟨k, hk⟩ := chooseIfIdle_outside s
  obtain ⟨hshed, hlimit, -, -, hslots⟩ : s.charge.shedLevel = t.charge.shedLevel ∧ s.charge.limit = t.charge.limit ∧
      s.interlock.signals = t.interlock.signals ∧ s.link = s.link ∧ s.ram.slots = t.ram.slots := by
    simpa only [State.outer, Prod.mk.injEq] using ho
  have hbusy : t.link.phase ≠ .idle → (chooseIfIdle s).link.phase = t.link.phase ∧
      (t.link.solar = true → (chooseIfIdle s).link.solar = true) := fun hb => by
    rw [chooseIfIdle_of_busy (h ▸ hb)]
    exact ⟨h, hs⟩
  refine ⟨.inl ?_, .inl ?_, fun g j e => ?_, fun hw => ?_, .inl ?_, hbusy⟩ <;> rw [hk]
  · exact hshed
  · exact hlimit
  · rw [Noticed, show ({ s with link := k } : State).port = t.port from hp]; exact e
  · exact (hslots ▸ hw :)
  · exact hi

theorem postHeater_moves (e : HeaterEntry) (s : State) : s.Moves (postHeater e s).1 := by
  unfold postHeater; split
  · exact (Tells.refl s).moves
  · exact chooseIfIdle_moves rfl id rfl rfl rfl

theorem postFloat_moves (s : State) : s.Moves (postFloat s).1 := by
  unfold postFloat; split
  · exact (Tells.refl s).moves
  · exact chooseIfIdle_moves rfl (fun _ => rfl) rfl rfl rfl

theorem signal_moves (g : Signal) (v : Nat) (r : Run) : r.st.Moves (r.signal g v).st := by
  have hset : ∀ t, t.charge = r.st.charge → t.port = r.st.port → t.ram = r.st.ram → t.link = r.st.link → r.st.Moves t :=
    fun t hc hp hr hl => ⟨.inl (by rw [hc]), .inl (by rw [hc]), fun g k e => by rw [Noticed, hp]; exact e, fun hw => hr ▸ hw,
      .inl (by rw [hc]), fun _ => ⟨by rw [hl], fun h => by rw [hl, h]⟩⟩
  unfold Run.signal
  split
  · exact (Tells.refl _).moves
  · split <;> exact hset _ rfl rfl rfl rfl

theorem perform_tells {a : Act} (ha : a.tells = true) (r : Run) : Tells r.st (perform a r).st := by
  have hsame : Tells r.st r.st := .refl r.st
  cases a <;> simp only [perform]
  case req q => exact Run.req_tells r q
  case take q => exact Run.take_tells r q
  case drain => exact Run.drain_tells r
  case action l => exact hsame
  case arbiterIf => exact Run.arbiterIf_tells r
  case restore c => exact hsame
  case flush => exact Run.flush_tells r
  case flushEnd => exact afterReports_tells r.st
  case actEnd => exact Run.actEnd_tells r
  case judge o => exact Run.judge_tells r o
  case preempt o => exact hsame
  case pass g => exact Run.pass_tells r g
  case ask o c =>
    split
    · exact (ownerAsk_sedate (k := .none) r.st o).tells
    · exact hsame
  case cut o c => exact Run.cut_tells r o c
  case cutRest => exact Run.foldDark_tells .shed _ r
  case rejudge o c => exact Run.rejudge_tells r o c
  case arbiter => exact hsame
  case consider o => exact Run.consider_tells r o
  case clearTrip o => exact Run.clearTrip_tells r o
  case trip o => exact Run.trip_tells r o
  case rises l => exact Run.rises_tells l r
  case fall o j => exact Run.fall_tells r o j
  case shedLevel n => exact Run.shedLevel_tells r n
  case limit n => exact Run.limit_tells r n
  case overLimit c => exact Run.overLimit_tells r c
  case report o x y => exact (ownerReport_stirs (k := .none) r.st o x y).tells
  case blockRise m j => exact (blockRise_sedate (k := .none) r.st m j).tells
  case blockFall m j => exact Tells.of_still (blockFall_still r.st m j)
  case notices l c => exact evalNotices_tells l c r.st
  case evalEnd => exact Run.evalEnd_tells r
  case resume j => exact hsame
  case raise g c => exact raise_tells g c r.st
  case shown m l => exact Tells.of_eq (s := r.st) (t := showAction m l r.st) rfl rfl
  case solar => exact (showing_sedate (k := .none) r.st (solarEval_sedate r.st)).tells
  case floatResult x => exact (showing_sedate (k := .none) r.st (floatDone_sedate r.st x)).tells
  case result c x y => exact (heaterResult_sedate (k := .none) r.st c x y).tells
  case freshPump => exact (freshPump_sedate (k := .none) r.st).tells
  case freshFill => exact (freshFill_sedate (k := .none) r.st).tells
  case pumpStart => exact (pumpStart_sedate (k := .none) r.st).tells
  case pumpDry c => exact (showing_sedate (k := .none) r.st (pumpDry_sedate r.st c)).tells
  case fillEnd e => exact (fillEnd_sedate (k := .none) r.st e).tells
  case fillFinish e => exact (showing_sedate (k := .none) r.st (fillFinish_sedate r.st e)).tells
  case frostTemp c => exact (showing_sedate (k := .none) r.st (frostEval_sedate r.st c)).tells
  case stage x c => exact (stageChange_sedate (k := .none) r.st x c).tells
  case stageFill x => exact (stageFill_sedate (k := .none) r.st x).tells
  case stageLeave x y => exact (stageLeave_sedate (k := .none) r.st x y).tells
  case stageBegin x y => exact (stageBegin_sedate (k := .none) r.st x y).tells
  case drainLatch => exact (drainLatch_sedate (k := .none) r.st).tells
  case delivered c => exact Tells.of_eq (s := r.st) (t := showChange [.water] r.st (setDelivered c r.st)) rfl rfl
  case zoneFollow z => exact (zoneFollow_sedate (k := .none) r.st z).tells
  case heatDemand => exact (heatDemand_sedate (k := .none) r.st).tells
  case frostDemand c => exact (frostDemand_sedate (k := .none) r.st c).tells
  case seqFrost c => exact (seqFrost_sedate (k := .none) r.st c).tells
  case seqShed => exact (seqShed_sedate (k := .none) r.st).tells
  case seqDemand => exact (seqDemand_sedate (k := .none) r.st).tells
  case seqLevel => exact (seqLevel_sedate (k := .none) r.st).tells
  case heaterTest => exact (heaterTest_sedate (k := .none) r.st).tells
  case enter x c => exact (enter_sedate (k := .none) r.st x c).tells
  case seqReport => exact Run.seqReport_tells r
  case seqFlags => exact Tells.of_still (seqFlags_still r.st)
  case igniting => exact (igniting_sedate (k := .none) r.st).tells
  case running => exact (running_sedate (k := .none) r.st).tells
  case stopping x => exact (stopping_sedate (k := .none) r.st x).tells
  case startFail c => exact (startFail_sedate (k := .none) r.st c).tells
  case runJudge => exact (runJudge_sedate (k := .none) r.st).tells
  case runShed => exact (runShed_sedate (k := .none) r.st).tells
  case cooldownEnd => exact (cooldownEnd_sedate (k := .none) r.st).tells
  case unitReading u x => exact (unitReading_sedate (k := .none) r.st u x).tells
  case unitLost => exact (unitLost_sedate (k := .none) r.st).tells
  case offFaulty => exact (offFaulty_sedate (k := .none) r.st).tells
  case blockBegins m => exact (blockBegins_sedate (k := .none) r.st m).tells
  case stowSignal m => exact (stowSignal_sedate (k := .none) r.st m).tells
  case claim m => exact (claim_sedate (k := .none) r.st m).tells
  case moveEnd m f x => exact (moveEnd_sedate (k := .none) r.st m f x).tells
  case moveFree m => exact Tells.of_still (moveFree_still r.st m)
  case moveResult m f x => exact (moveResult_sedate (k := .none) r.st m f x).tells
  case serveRelease => exact (serveRelease_sedate (k := .none) r.st).tells
  case retract m => exact (requestRetract_sedate (k := .none) r.st m).tells
  case extension => exact (extension_sedate (k := .none) r.st).tells
  case doorScene => exact (doorScene_sedate (k := .none) r.st).tells
  case recallOn l n c cs lost => exact (recallStep_sedate (k := .none) r.st l n c cs lost).tells
  case applied n j c => exact (applied_sedate (k := .none) r.st n j c).tells
  case supersede p o c => exact (supersede_sedate (k := .none) r.st p o c).tells
  case recallTest n => exact (recallTest_sedate (k := .none) r.st n).tells
  case ramp c => exact (ramp_sedate (k := .none) r.st c).tells
  all_goals exact absurd ha (by simp [Act.tells])

theorem perform_moves (a : Act) (r : Run) : r.st.Moves (perform a r).st := by
  by_cases ha : a.tells = true
  · exact (perform_tells ha r).moves
  · cases a
    case tripDone n o => exact finish_moves _ _ _
    case signal g v => exact signal_moves g v r
    case finish n f => exact finish_moves _ _ _
    case shedEval => exact shedEval_moves r.st
    case limitEval => exact limitEval_moves r.st
    case post e => exact postHeater_moves e r.st
    case postFloat => exact postFloat_moves r.st
    all_goals exact absurd rfl ha

/-! ### Whole cascades -/

theorem shedOf_congr (h : t.steady = s.steady) : shedOf t = shedOf s := by
  simp only [shedOf, show t.charge.hostFloor = s.charge.hostFloor from congrArg Steady.hostFloor h,
    show t.charge.floor = s.charge.floor from congrArg Steady.floor h,
    show t.charge.shore = s.charge.shore from congrArg Steady.shore h,
    show t.charge.socLevel = s.charge.socLevel from congrArg Steady.socLevel h]

theorem limitOf_congr (h : t.steady = s.steady) : limitOf t = limitOf s := by
  simp only [limitOf, cfg, show t.store = s.store from congrArg Steady.store h,
    show t.charge.shore = s.charge.shore from congrArg Steady.shore h,
    show t.charge.alternator = s.charge.alternator from congrArg Steady.alternator h]

/-- What a cascade may do, its steady part apart. -/
structure State.Follows (s t : State) : Prop extends State.Moves s t where
  steady : t.steady = s.steady

theorem State.Follows.refl (s : State) : s.Follows s := ⟨(Tells.refl s).moves, rfl⟩

theorem State.Follows.trans (h : s.Follows t) (g : t.Follows u) : s.Follows u where
  steady := g.steady.trans h.steady
  shed := by
    rcases g.shed with e | e
    · rw [e]; exact h.shed
    · exact .inr (e.trans (shedOf_congr h.steady))
  limit := by
    rcases g.limit with e | e
    · rw [e]; exact h.limit
    · exact .inr (e.trans (limitOf_congr h.steady))
  notices i k e := g.notices i k (h.notices i k e)
  slots w := g.slots (h.slots w)
  idle := g.idle.elim (fun e => e ▸ h.idle) .inr
  link hb :=
    have e := h.link hb
    have e' := g.link (e.1 ▸ hb)
    ⟨e'.1.trans e.1, fun hs => e'.2 (e.2 hs)⟩

theorem perform_follows (a : Act) (r : Run) : r.st.Follows (perform a r).st := ⟨perform_moves a r, perform_steady a r⟩

theorem settle_follows (k : Nat) (r : Run) : r.st.Follows (settle k r) :=
  settle_keeps (P := fun t => r.st.Follows t) (fun a q h => h.trans (perform_follows a q))
    (fun _ _ h => ⟨⟨h.shed, h.limit, h.notices, h.slots, h.idle, h.link⟩, h.steady⟩) k r (.refl _)

/-- R20, R52, R56: what a cascade may do to the levels, the notices, the slots and the link. -/
theorem run_follows (l : List Act) (s : State) : s.Follows (run l s) := settle_follows cascadeBound { st := s, work := l }

theorem runEval_follows (l : List Act) (s : State) : s.Follows (runEval l s) :=
  settle_follows cascadeBound { st := s, work := l, evals := 1 }

/-- A cascade from its first act on. -/
theorem run_cons_follows (a : Act) (l : List Act) (s : State) : (perform a { st := s, work := l }).st.Follows (run (a :: l) s) :=
  settle_follows 9999 (perform a { st := s, work := l })

/-- R56: the shed level evaluated first stays that of its inputs to the end of the cascade. -/
theorem run_shedEval (l : List Act) (s : State) : (run (.shedEval :: l) s).charge.shedLevel = shedOf (run (.shedEval :: l) s) := by
  have hfirst : (shedEval s).1.charge.shedLevel = shedOf (shedEval s).1 := by
    unfold shedEval; simp only; split
    · next h => exact h.symm
    · rfl
  have h := run_cons_follows .shedEval l s
  rw [shedOf_congr h.steady]
  exact h.shed.elim (fun e => e.trans hfirst) id

/-- R52: the budget limit evaluated first stays that of its inputs to the end of the cascade. -/
theorem run_limitEval (l : List Act) (s : State) : (run (.limitEval :: l) s).charge.limit = limitOf (run (.limitEval :: l) s) := by
  have hfirst : (limitEval s).1.charge.limit = limitOf (limitEval s).1 := by
    unfold limitEval; simp only; split
    · next h => exact h.symm
    · rfl
  have h := run_cons_follows .limitEval l s
  rw [limitOf_congr h.steady]
  exact h.limit.elim (fun e => e.trans hfirst) id

theorem State.Follows.shed_eq (h : s.Follows t) (hs : s.charge.shedLevel = shedOf s) : t.charge.shedLevel = shedOf t := by
  rw [shedOf_congr h.steady]
  exact h.shed.elim (fun e => e.trans hs) id

theorem State.Follows.limit_eq (h : s.Follows t) (hs : s.charge.limit = limitOf s) : t.charge.limit = limitOf t := by
  rw [limitOf_congr h.steady]
  exact h.limit.elim (fun e => e.trans hs) id

/-- The causes a notice raises are pending. -/
theorem raise_noticed (g : Group) {n : Nat} (hn : n < 32) (s : State) : Noticed (raise g (bit n) s) g n := by
  refine ⟨markNotice_notice g _ s, ?_⟩
  show (markNotice g (bit n) s).port.causes[g.index].getLsbD n = true
  rw [markNotice_causes, BitVec.getLsbD_or, bit, ofNat_two_pow_getLsbD n hn, Bool.or_true]

theorem run_raise_noticed (g : Group) {n : Nat} (hn : n < 32) (l : List Act) (s : State) :
    Noticed (run (.raise g (bit n) :: l) s) g n :=
  (run_cons_follows (.raise g (bit n)) l s).notices g n (raise_noticed g hn s)

end Sys2Proof.Machine
end

section
/-!
SUPPORT. The tally and the levels through what every command is made of (`Tallies`): cascades, the power states, a start, a second.
-/
namespace Sys2Proof.Machine

variable {s t u : State}

/-! ### From invariant to invariant -/

/-- The part of the state that the invariant of the tally speaks of. -/
def State.banks (s : State) : Tally × Nat × Nat × Nat := (s.charge.tally, s.charge.socLevel, s.charge.hostFloor, s.charge.shedLevel)

theorem State.TallyInv.congr (h : t.banks = s.banks) (hs : s.TallyInv) : t.TallyInv := by
  simp only [State.banks, Prod.mk.injEq] at h
  obtain ⟨ht, hl, hf, hd⟩ := h
  unfold State.TallyInv
  rw [ht, hl, hf, hd]
  exact hs

/-- R46, R54 to R57: what is done keeps the charge within the capacity and the levels within 0 to 3. -/
def Tallies (s t : State) : Prop := s.TallyInv → t.TallyInv

theorem Tallies.refl (s : State) : Tallies s s := id

theorem Tallies.trans (h : Tallies s t) (g : Tallies t u) : Tallies s u := g ∘ h

theorem Tallies.of_banks (h : t.banks = s.banks) : Tallies s t := State.TallyInv.congr h

theorem shedOf_le_three (h : s.TallyInv) : shedOf s ≤ 3 := by
  obtain ⟨-, hsoc, hhost, -⟩ := h
  unfold shedOf
  split <;> split <;> omega

/-- R56: a cascade leaves the tally, the SoC level and the host floor; the shed level stays or becomes that of its inputs. -/
theorem State.Follows.tallies (h : s.Follows t) : Tallies s t := fun hs => by
  obtain ⟨hcharge, hsoc, hhost, hshed⟩ := hs
  have htally : t.charge.tally = s.charge.tally := congrArg Steady.tally h.steady
  have hlevel : t.charge.socLevel = s.charge.socLevel := congrArg Steady.socLevel h.steady
  have hfloor : t.charge.hostFloor = s.charge.hostFloor := congrArg Steady.hostFloor h.steady
  refine ⟨by rw [htally]; exact hcharge, hlevel ▸ hsoc, hfloor ▸ hhost, ?_⟩
  rcases h.shed with e | e
  · exact e ▸ hshed
  · exact e ▸ shedOf_le_three ⟨hcharge, hsoc, hhost, hshed⟩

theorem run_tallies {l : List Act} (h : t.banks = s.banks) : Tallies s (run l t) :=
  (Tallies.of_banks h).trans (run_follows l t).tallies

theorem runReact_tallies {f : State → React} (h : (f s).1.banks = s.banks) : Tallies s (runReact f s) := run_tallies h

theorem runEach_tallies (l : List Act) : ∀ s : State, Tallies s (runEach l s) := by
  induction l with
  | nil => exact Tallies.refl
  | cons a l ih => exact fun s => (run_tallies rfl).trans (ih _)

theorem finish_banks (n : Fin 32) (f : Finish) (s : State) : (finish n f s).banks = s.banks :=
  (congrArg State.banks (finish_sansOrders n f s) :)

theorem finish_tallies (n : Fin 32) (f : Finish) (s : State) : Tallies s (finish n f s) := .of_banks (finish_banks n f s)

theorem close_tallies (s : State) : Tallies s (close s) := by
  obtain ⟨d, h⟩ := close_eq s
  exact .of_banks (by rw [h]; rfl)

theorem closeFrom_tallies (old s : State) : Tallies s (closeFrom old s) := by
  obtain ⟨d, h⟩ := closeFrom_digest old s
  exact .of_banks (by rw [h]; rfl)

theorem inRun_tallies {f : State → State} (h : Tallies s (f s)) : Tallies s (inRun f s) := by
  unfold inRun; split
  · exact h.trans (close_tallies _)
  · exact .refl s

theorem live_tallies {f : State → State} (h : Tallies s (f s)) : Tallies s (live f s) := by
  unfold live; split
  · exact .refl s
  · exact h.trans (closeFrom_tallies s _)

/-! ### The digest -/

theorem withRam_banks (r : Ram) (s : State) : ({ s with ram := r } : State).banks = s.banks := rfl

theorem digestUpdate_banks (l : List (Nat × Word)) (s : State) : (digestUpdate l s).banks = s.banks := withRam_banks _ s

/-! ### Power states and accesses -/

theorem overNodes_banks (f : Fin 12 → Node → Node) (l : List (Fin 12)) (s : State) : (overNodes f l s).banks = s.banks := by
  rw [State.banks, overNodes_charge]; rfl

theorem wake_tallies (s : State) : Tallies s (wake s) := by
  have hrun : Tallies s (run [.signal .rest 0] (setPower .active s)) := run_tallies rfl
  unfold wake
  generalize run [.signal .rest 0] (setPower .active s) = r at hrun
  exact hrun.trans (.of_banks (overNodes_banks _ _ r))

theorem enterRest_tallies (s : State) : Tallies s (enterRest s) := by
  have hrun : Tallies s (run [.signal .rest 1] (setPower .rest s)) := run_tallies rfl
  unfold enterRest
  generalize run [.signal .rest 1] (setPower .rest s) = r at hrun
  exact hrun.trans (.of_banks (overNodes_banks _ _ r))

theorem wakeEvent_tallies (s : State) : Tallies s (wakeEvent s) := by
  unfold wakeEvent; split
  · exact wake_tallies s
  · exact .of_banks rfl

theorem access_tallies (s : State) : Tallies s (access s) := by
  unfold access; split
  · exact (wake_tallies s).trans (close_tallies _)
  · exact .of_banks rfl

/-! ### The tally and the SoC level (R46, R54) -/

theorem riseLevel_le_three (i : Image) (c k : Nat) : ∀ n, n ≤ 3 → riseLevel i c k n ≤ 3 := by
  induction k with
  | zero => exact fun n h => h
  | succ k ih =>
    intro n h
    unfold riseLevel
    split
    · next hn => exact ih (n + 1) hn.1
    · exact h

theorem fallLevel_le (i : Image) (c n : Nat) : fallLevel i c n ≤ n := by
  induction n with
  | zero => exact Nat.le_refl 0
  | succ n ih =>
    unfold fallLevel
    split
    · exact Nat.le_succ_of_le ih
    · exact Nat.le_refl _

theorem nextSocLevel_le_three {i : Image} {c n : Nat} (h : n ≤ 3) : nextSocLevel i c n ≤ 3 := by
  unfold nextSocLevel
  simp only
  split
  · exact riseLevel_le_three i c 3 n h
  · exact Nat.le_trans (fallLevel_le i c n) h

/-- The SoC level evaluated on a tally that lies within its capacity. -/
theorem socEval_tallyInv (hc : s.charge.tally.charge ≤ s.charge.tally.capacity)
    (hl : s.charge.socLevel ≤ 3 ∧ s.charge.hostFloor ≤ 3 ∧ s.charge.shedLevel ≤ 3) : (socEval s).TallyInv :=
  ⟨hc, nextSocLevel_le_three hl.1, hl.2⟩

theorem tallySecond_tallies (a : Int) (s : State) : Tallies s (tallySecond a s) := fun h =>
  socEval_tallyInv (s := setTally _ s) (moveCharge_le s.charge.tally a) h.2

theorem fullSecond_tallies (v : Nat) (a : Int) (s : State) : Tallies s (runReact (fullSecond v a) s) := by
  have hreact : Tallies s (fullSecond v a s).1 := by
    unfold fullSecond; simp only; split
    · exact fun h => socEval_tallyInv (s := setTally _ (setTally _ s)) (Nat.le_refl _) h.2
    · exact id
  exact hreact.trans (run_follows _ _).tallies

theorem emptySecond_tallies (v : Nat) (a : Int) (s : State) : Tallies s (runReact (emptySecond v a) s) := by
  have hreact : Tallies s (emptySecond v a s).1 := by
    unfold emptySecond; simp only; split
    · exact fun h => socEval_tallyInv (s := setTally _ (setTally _ s)) (Nat.zero_le _) h.2
    · exact id
  exact hreact.trans (run_follows _ _).tallies

theorem floorSecond_tallies (v : Nat) (s : State) : Tallies s (runReact (floorSecond v) s) := by
  have hreact : (floorSecond v s).1.banks = s.banks := by
    unfold floorSecond; simp only; (repeat' split) <;> rfl
  exact runReact_tallies hreact

/-! ### A start (R62, R63) -/

theorem startTally_le (k : StartKind) (s : State) : (startTally k s).charge ≤ (startTally k s).capacity := by
  unfold startTally
  cases k with
  | powerOn => exact Nat.div_le_self _ 2
  | restart =>
    simp only
    split
    · exact Nat.le_refl _
    · next h => exact Nat.not_lt.1 h

/-- R62: a start's levels are evaluated from level 0, host floor 0 and no voltage floor. -/
theorem startBlocks_tallyInv (k : StartKind) (s : State) : (startBlocks k s).TallyInv := by
  have htally := startBlocks_tally k s
  have hcharge := startBlocks_charge k s
  unfold State.TallyInv
  rw [htally, hcharge]
  refine ⟨startTally_le k s, nextSocLevel_le_three (Nat.zero_le 3), Nat.zero_le 3, ?_⟩
  show max 0 (max 0 (if _ then 0 else nextSocLevel _ _ 0)) ≤ 3
  have hsoc := fun i c => nextSocLevel_le_three (i := i) (c := c) (Nat.zero_le 3)
  split
  · omega
  · exact Nat.max_le.2 ⟨Nat.zero_le 3, Nat.max_le.2 ⟨Nat.zero_le 3, hsoc _ _⟩⟩

theorem powerOn_tallyInv (s : State) : (powerOn s).TallyInv := startBlocks_tallyInv _ _

theorem resetAssert_tallyInv (d : Bool) (s : State) : (resetAssert d s).TallyInv := by
  have hstart := startBlocks_tallyInv .restart (resetBase d s)
  unfold resetAssert
  generalize startBlocks .restart (resetBase d s) = t at hstart ⊢
  exact hstart

theorem resetRelease_tallyInv (s : State) : (resetRelease s).TallyInv := startBlocks_tallyInv _ _

end Sys2Proof.Machine
end

section
/-!
PROOF. Every command keeps the charge within the capacity and the levels within 0 to 3 (O3).
-/
namespace Sys2Proof.Machine

variable {s t u : State}

/-! ### Host accesses -/

theorem hostRead_tallies (a : BitVec 13) (s : State) : Tallies s (hostReadOf a s) := by
  unfold hostReadOf; split
  · exact .of_banks rfl
  · have hbus : ∀ (w : Word) (t : State), (setBus w t).banks = t.banks := fun _ _ => rfl
    exact ((access_tallies s).trans (.of_banks (hbus _ _))).trans (closeFrom_tallies s _)

theorem OnlyLights.banks (h : OnlyLights s t) : t.banks = s.banks := by
  obtain ⟨_, rfl⟩ := h
  rfl

theorem tellCancel_banks (n : Fin 32) (s : State) : (tellCancel n s).1.banks = s.banks := by
  unfold tellCancel
  split
  case h_3 => exact (cancelRecall_onlyLights n s).banks
  case h_4 => unfold cancelStore; split <;> rfl
  all_goals rfl

theorem portFault_banks (k : PortFault) (a : BitVec 13) (s : State) : (portFault k a s).banks = s.banks := by
  unfold portFault; split <;> rfl

theorem clearPending_banks (l : List Group) (s : State) : (clearPending l s).banks = s.banks := by
  have hdrop : ∀ (l : List Group) (t : State), (l.foldl (fun t g => dropGroup g t) t).banks = t.banks := fun l => by
    induction l with
    | nil => exact fun _ => rfl
    | cons g l ih => exact fun t => (ih _).trans (congrArg State.banks (dropGroup_outside g t t.port) :)
  unfold clearPending; split
  · rfl
  · exact (rfl : (digestUpdate _ _).banks = _).trans (hdrop _ s)

theorem stateWrite_tallies (n : Fin 32) (v : Word) (a : BitVec 13) (s : State) : Tallies s (stateWrite n v a s) := by
  have hfault : Tallies s (portFault .slotState a s) := .of_banks (portFault_banks _ _ s)
  have hcancel : Tallies s (cancelTaken n s) :=
    (Tallies.of_banks (t := setSlotState n .cancel s) rfl).trans (runReact_tallies (tellCancel_banks n _))
  have hpost : (post n s).banks = s.banks := by unfold post; simp only; split <;> rfl
  have hgive : (giveBack n s).banks = s.banks := by
    unfold giveBack; simp only; split
    · exact clearPending_banks _ _
    · rfl
  have hfinished : Tallies s (if v = 3 then s else if v = 0 then giveBack n s else portFault .slotState a s) := by
    split
    · exact .refl s
    · split
      · exact .of_banks hgive
      · exact hfault
  unfold stateWrite
  split
  case h_1 => split; exacts [.of_banks hpost, hfault]
  case h_2 => split; exacts [.of_banks rfl, hfault]
  case h_3 => split; exacts [hcancel, hfault]
  case h_4 => exact hfault
  all_goals exact hfinished

theorem store_tallies (a : BitVec 13) (v : Word) (s : State) : Tallies s (store a v s) := by
  have hfault : ∀ k, Tallies s (portFault k a s) := fun k => .of_banks (portFault_banks k a s)
  have hslot : ∀ n i, Tallies s (slotWrite n i v a s) := fun n i => by
    unfold slotWrite; split
    case h_4 => exact hfault _
    all_goals exact .of_banks rfl
  have hscene : Tallies s (sceneStore a.toNat v s) := .of_banks (by unfold sceneStore invalidate; split <;> rfl)
  unfold store
  simp only
  split
  · split
    · exact stateWrite_tallies _ v a s
    · exact hslot _ _
  · split
    · exact hfault _
    · split
      · exact hscene
      · have hregister : Tallies s (if a.toNat = 0x1001 then controlWrite v s else if a.toNat = 0x1002 then clearGroups v groups s
            else if a.toNat = 0x1003 then maskWrite v s
            else if a.toNat = 0x1000 ∨ a.toNat = 0x1004 ∨ a.toNat = 0x1005 then portFault .readOnly a s
            else portFault .unmapped a s) := by
          split
          · exact .of_banks rfl
          · split
            · exact .of_banks (clearPending_banks _ s)
            · split
              · exact .of_banks rfl
              · split <;> exact hfault _
        split
        · exact .of_banks rfl
        · split
          · exact hfault _
          · split
            · exact .of_banks rfl
            · exact hregister

theorem restart_tallyInv (s : State) : (restart s).TallyInv := resetRelease_tallyInv _

theorem hostWrite_tallies (a : BitVec 13) (v : Word) (s : State) : Tallies s (hostWrite a v s) := by
  unfold hostWrite; split
  · exact .refl s
  · split
    · exact fun _ => restart_tallyInv s
    · exact ((access_tallies s).trans (store_tallies a v _)).trans (closeFrom_tallies s _)

/-! ### Orders -/

theorem badParam_claimFollower (k : Kind) (n f : Fin 32) (s : State) : badParam k (claimFollower n f s) n = badParam k s n := by
  cases k <;> rfl

theorem dispatchSlot_tallies {k : Kind} {body : Fin 32 → State → State} {n : Fin 32}
    (h : ∀ t, badParam k t n = none → Tallies t (body n t)) : Tallies s (dispatchSlot k body n s) := by
  unfold dispatchSlot
  split
  · exact finish_tallies n _ s
  · next hgood =>
    split
    · exact finish_tallies n _ s
    · exact h s hgood
    · exact (Tallies.of_banks rfl).trans (h _ ((badParam_claimFollower k n _ s).trans hgood))

theorem order_tallies {k : Kind} {body : Fin 32 → State → State} (h : ∀ n t, badParam k t n = none → Tallies t (body n t)) :
    Tallies s (inRun (dispatch k body) s) := by
  refine inRun_tallies ?_
  unfold dispatch
  split
  · next n _ =>
    split
    · exact (Tallies.of_banks (t := takeSlot n s) rfl).trans (dispatchSlot_tallies (h n))
    · exact .refl s
  · exact .refl s

theorem dispatchBad_tallies (s : State) : Tallies s (dispatchBad s) := by
  unfold dispatchBad
  split
  · next n _ =>
    split
    · exact (Tallies.of_banks (t := takeSlot n s) rfl).trans (finish_tallies n _ _)
    · exact .refl s
  · exact .refl s

section
variable (n : Fin 32) (s)

/-- R49: the charge of an accepted order is within the capacity. -/
theorem chargeSet_tallies (h : badParam .chargeSet s n = none) : Tallies s (chargeSet n s) := by
  have hc : newCharge s n ≤ s.charge.tally.capacity := by simpa [badParam, firstBad] using h
  have hset : Tallies s (setCharge (newCharge s n) s) := fun hs => socEval_tallyInv (s := setTally _ s) hc hs.2
  exact (hset.trans (run_follows _ _).tallies).trans (finish_tallies n _ _)

/-- R57: the host floor of an accepted order is at most 3. -/
theorem shedFloor_tallies (h : badParam .shedFloor s n = none) : Tallies s (shedFloor n s) := by
  have hp : p s n 0 ≤ 3 := by simpa [badParam, firstBad] using h
  have hset : Tallies s { s with charge := { s.charge with hostFloor := p s n 0 } } := fun hs => ⟨hs.1, hs.2.1, hp, hs.2.2.2⟩
  exact (hset.trans (run_follows _ _).tallies).trans (finish_tallies n _ _)

theorem restNow_tallies : Tallies s (restNow n s) := by
  unfold restNow
  split
  · exact finish_tallies n _ s
  · split
    · exact (enterRest_tallies s).trans (finish_tallies n _ _)
    · exact finish_tallies n _ s

theorem tripClear_tallies : Tallies s (tripClear n s) := by
  unfold tripClear; simp only; split
  · exact run_tallies rfl
  · exact finish_tallies n _ s

theorem termsLoad_tallies : Tallies s (termsLoad n s) := by
  unfold termsLoad; split
  · exact finish_tallies n _ s
  · have hload : Tallies s (replaceTerms (stagedTerms s (p s n 0)) s).1 := .of_banks rfl
    exact (hload.trans (settle_follows cascadeBound { st := _, work := _, evals := 1 }).tallies).trans (finish_tallies n _ _)

theorem pumpMode_tallies : Tallies s (pumpMode n s) := by
  have hset : ∀ auto, Tallies s (pumpModeSet auto s) := fun auto => by
    unfold pumpModeSet
    split
    · exact .refl s
    · simp only
      split
      · exact .of_banks rfl
      · split
        · split
          · exact run_tallies rfl
          · exact .of_banks rfl
        · exact run_tallies rfl
  exact (hset _).trans (finish_tallies n _ _)

theorem pumpReset_tallies : Tallies s (pumpReset n s) := by
  unfold pumpReset; split
  · exact finish_tallies n _ s
  · split
    · exact finish_tallies n _ s
    · have hleave : (pumpLeaveDry s).1.banks = s.banks := by unfold pumpLeaveDry; (repeat' split) <;> rfl
      exact (runReact_tallies hleave).trans (finish_tallies n _ _)

theorem fill_tallies : Tallies s (fill n s) := by
  unfold fill; split
  · exact finish_tallies n _ s
  · split
    · exact finish_tallies n _ s
    · split
      · exact finish_tallies n _ s
      · unfold acceptFill; simp only; split <;> exact run_tallies rfl

theorem closeDrain_tallies : Tallies s (closeDrain s) := by
  unfold closeDrain
  have h1 : Tallies s (setHeld 1 false (run [.req (.withdraw 1)] s)) := (run_follows _ s).tallies.trans (.of_banks rfl)
  generalize setHeld 1 false (run [.req (.withdraw 1)] s) = s1 at h1
  have h2 : Tallies s1 (setLatch false (run [.signal .drainOpen 0] s1)) := (run_follows _ s1).tallies.trans (.of_banks rfl)
  simp only
  generalize setLatch false (run [.signal .drainOpen 0] s1) = s2 at h2
  have h3 : Tallies s2 (run [.signal .frostStage 0] (setFrost (fun f => { f with stage := .watch }) s2)) := run_tallies rfl
  generalize run [.signal .frostStage 0] (setFrost (fun f => { f with stage := .watch }) s2) = s3 at h3
  have h4 : Tallies s3 (showAction [.water] [] (raise .water (bit 1 ||| bit 6) s3)) := .of_banks rfl
  generalize showAction [.water] [] (raise .water (bit 1 ||| bit 6) s3) = s4 at h4
  have h := ((h1.trans h2).trans h3).trans h4
  split
  · exact h.trans (run_follows _ _).tallies
  · exact h

theorem drainClose_tallies : Tallies s (drainClose n s) := by
  unfold drainClose; split
  · exact finish_tallies n _ s
  · split
    · exact finish_tallies n _ s
    · split
      · exact finish_tallies n _ s
      · exact (closeDrain_tallies s).trans (finish_tallies n _ _)

theorem climateChange_banks (f : Climate → Climate) : (climateChange f s).1.banks = s.banks := rfl

theorem climateMode_tallies : Tallies s (climateMode n s) := by
  have hset : ∀ m, Tallies s (setMode m s) := fun m => by
    unfold setMode; split
    · exact .refl s
    · simp only
      split
      · exact (runReact_tallies (climateChange_banks s _)).trans (run_follows _ _).tallies
      · exact runReact_tallies (climateChange_banks s _)
  exact (hset _).trans (finish_tallies n _ _)

theorem zoneSet_tallies : Tallies s (zoneSet n s) := by
  have hset : ∀ z target on, Tallies s (setHost z target on s) := fun z target on => by
    unfold setHost; simp only; split
    · exact .of_banks rfl
    · exact run_tallies rfl
  exact (hset _ _ _).trans (finish_tallies n _ _)

theorem heaterClear_tallies : Tallies s (heaterClear n s) := by
  unfold heaterClear; split
  · exact (run_tallies (t := setSeq (fun q => { q with failed := 0, lockout := false, clearPending := true }) s) rfl).trans
      (finish_tallies n _ _)
  · exact finish_tallies n _ s

theorem acceptMove_tallies : Tallies s (acceptMove n s) := by
  have hleave : (leaveStalled (moverArg s n) (takeLong n .movers s)).banks = s.banks := by
    unfold leaveStalled; simp only; split
    · rw [State.banks, setMover_charge]; rfl
    · rfl
  have hbegin : ∀ x, (setMover (moverArg s n) x (leaveStalled (moverArg s n) (takeLong n .movers s))).banks = s.banks := fun x =>
    (congrArg (fun c : Charge => (c.tally, c.socLevel, c.hostFloor, c.shedLevel)) (setMover_charge _ _ _) :).trans hleave
  unfold acceptMove
  simp only
  split <;> exact (run_tallies (hbegin _)).trans (run_follows _ _).tallies

theorem move_tallies : Tallies s (move n s) := by
  unfold move; simp only; split
  · exact finish_tallies n _ s
  · split
    · exact finish_tallies n _ s
    · split
      · exact finish_tallies n _ s
      · split
        · exact finish_tallies n _ s
        · exact acceptMove_tallies s n

theorem moverStop_tallies : Tallies s (moverStop n s) := by
  have hpending : ∀ (m : Mover) (b : Bool) (t : State), (setPending m b t).banks = t.banks := fun m b t => by cases m <;> rfl
  exact ((run_tallies (hpending _ _ s)).trans (.of_banks (hpending _ _ _))).trans (finish_tallies n _ _)

theorem sceneRecall_tallies : Tallies s (sceneRecall n s) := by
  have hlookup : ∀ k : Fin 32, (lookup k s).1.banks = s.banks := fun k => by unfold lookup; simp only; (repeat' split) <;> rfl
  unfold sceneRecall; split
  · exact finish_tallies n _ s
  · have h := hlookup (Fin.ofNat 32 (p s n 0))
    split
    · next e => rw [e] at h; exact (Tallies.of_banks h).trans (finish_tallies n _ _)
    · next e =>
      rw [e] at h
      exact ((Tallies.of_banks h).trans (.of_banks (t := takeLong n .lights _) rfl)).trans (runReact_tallies rfl)

theorem lightSet_tallies : Tallies s (lightSet n s) := by
  unfold lightSet; split
  · exact finish_tallies n _ s
  · exact (Tallies.of_banks (t := takeLong n .lights s) rfl).trans (runReact_tallies rfl)

theorem settingsFetch_tallies : Tallies s (settingsFetch n s) := by
  have hwindow : ∀ m, Tallies s { s with ram := { s.ram with window := m } } := fun _ => .of_banks rfl
  exact (hwindow _).trans (finish_tallies n _ _)

theorem settingsStore_tallies : Tallies s (settingsStore n s) := by
  unfold settingsStore; split
  · exact finish_tallies n _ s
  · split
    · exact .of_banks rfl
    · exact finish_tallies n _ s

end

end Sys2Proof.Machine
end

section
/-!
PROOF. Every command keeps the charge within the capacity and the levels within 0 to 3 (O3): the commands beside the host's and the
orders, and the step.
-/
namespace Sys2Proof.Machine

variable {s t u : State}

section
variable (s)

/-! ### Store events and the start -/

theorem endStore_tallies (f : Finish) : Tallies s (endStore f s) := by
  unfold endStore; simp only; split
  · next n _ =>
    exact (Tallies.of_banks (t := { s with store := { s.store with phase := .idle, slot := none } }) rfl).trans (finish_tallies n f _)
  · exact .of_banks rfl

theorem validateEnd_tallies : Tallies s (validateEnd s) := by
  unfold validateEnd; split
  · split
    · exact endStore_tallies s _
    · split
      · exact .of_banks rfl
      · exact endStore_tallies s _
  · exact .refl s

theorem setFlash_banks (f : Flash) : (setFlash f s).banks = s.banks := rfl
theorem setPhase_banks (x : StorePhase) : (setPhase x s).banks = s.banks := rfl

theorem eraseEnd_tallies (ok : Bool) : Tallies s (eraseEnd ok s) := by
  unfold eraseEnd; split
  · split
    · exact .of_banks rfl
    · exact endStore_tallies s _
  · exact .refl s

theorem programEnd_tallies (ok : Bool) : Tallies s (programEnd ok s) := by
  unfold programEnd; split
  · split
    · exact .of_banks ((setPhase_banks _ _).trans (setFlash_banks s _))
    · exact endStore_tallies s _
  · exact .refl s

theorem verifyEnd_tallies (l : List FlashCell) : Tallies s (verifyEnd l s) := by
  unfold verifyEnd; split
  · split
    · exact endStore_tallies s _
    · next c cs _ =>
      generalize Mem.writeCells 0xFFFF s.store.flash.cells ((c :: cs).map fun d => (d.offset, d.word)) = m
      exact (Tallies.of_banks (setFlash_banks s _)).trans (endStore_tallies _ _)
  · exact .refl s

theorem timeoutIn_tallies (x : StorePhase) (r : Nat) : Tallies s (timeoutIn x r s) := by
  unfold timeoutIn; split
  · exact endStore_tallies s _
  · exact .refl s

theorem linkChoose_banks (k : Nat) : (linkChoose k s).banks = s.banks := by
  obtain ⟨_, h⟩ := linkChoose_outside k s
  rw [h]; rfl

theorem linkBegins_banks (k : Nat) : (linkBegins k s).banks = s.banks := by
  have hdue : (startDue k s).banks = s.banks := overNodes_banks _ _ s
  unfold linkBegins; simp only; split
  · exact (linkChoose_banks _ k).trans hdue
  · exact hdue

theorem quietEnd_banks (k : Nat) : (quietEnd k s).banks = s.banks := by
  unfold quietEnd; split
  · simp only
    split
    · rfl
    · exact (linkBegins_banks _ _).trans rfl
  · rfl

theorem initialEvaluation_tallies : Tallies s (initialEvaluation s) := by
  unfold initialEvaluation
  generalize he : evaluate (fun _ => true) (fun _ => true) { s with interlock := { s.interlock with evaluated := true } } = e
  have hbanks : e.1.banks = s.banks := by rw [← he]; rfl
  exact (Tallies.of_banks hbanks).trans (runEval_follows _ _).tallies

theorem serviceInput_tallies (b : Bool) : Tallies s (if s.pins.reset then setService b s else closeFrom s (setService b s)) := by
  have h : Tallies s (setService b s) := .of_banks rfl
  split
  · exact h
  · exact h.trans (closeFrom_tallies s _)

theorem resetAssert_tallies (d : Bool) : Tallies s (if s.pins.reset then s else resetAssert d s) := by
  split
  · exact .refl s
  · exact fun _ => resetAssert_tallyInv d s

theorem resetRelease_tallies : Tallies s (if s.pins.reset then resetRelease s else s) := by
  split
  · exact fun _ => resetRelease_tallyInv s
  · exact .refl s

theorem startComplete_tallies : Tallies s (startComplete s) := by
  unfold startComplete
  split
  · exact .refl s
  · have hfull : ∀ t : State, (fullUpdate t).banks = t.banks := fun t => withRam_banks _ t
    have hactive : ∀ t : State, (becomeActive t).banks = t.banks := fun t => digestUpdate_banks _ (markNotice _ _ (setPower .active t))
    have hdue : ∀ t : State, (recordsDue t).banks = t.banks := fun t => by
      unfold recordsDue; split
      · rfl
      · exact linkBegins_banks t _
    have h := (initialEvaluation_tallies s).trans (.of_banks ((hdue _).trans ((hactive _).trans (hfull _))))
    simp only
    generalize recordsDue (becomeActive (fullUpdate (initialEvaluation s))) = t at h
    have hacts : Tallies t (runEach (activeActs t) (clearStop t)) :=
      (Tallies.of_banks (t := clearStop t) rfl).trans (runEach_tallies _ _)
    exact (h.trans hacts).trans (close_tallies _)

/-! ### The second close -/

theorem tick_banks : (tick s).banks = s.banks := rfl

theorem chargeSecond_tallies (v : Nat) (a : Int) : Tallies s (chargeSecond v a s) := by
  have hbank : Tallies s (tallySecond a (setBank v a s)) :=
    (Tallies.of_banks (t := setBank v a s) rfl).trans (tallySecond_tallies a _)
  unfold chargeSecond
  simp only
  generalize tallySecond a (setBank v a s) = s1 at hbank
  have h := (hbank.trans (fullSecond_tallies v a s1)).trans (emptySecond_tallies v a _)
  generalize runReact (emptySecond v a) (runReact (fullSecond v a) s1) = s2 at h
  have hkeep : (keepTally s2).banks = s2.banks := rfl
  exact ((h.trans (.of_banks hkeep)).trans (floorSecond_tallies v _)).trans (run_follows _ _).tallies

theorem idleSecond_tallies : Tallies s (idleSecond s) := by
  unfold idleSecond; split
  · have hset : (setIdle (s.charge.idle + 1) s).banks = s.banks := rfl
    simp only
    split
    · exact (Tallies.of_banks hset).trans (enterRest_tallies _)
    · exact .of_banks hset
  · exact .refl s

theorem windSecond_banks : (windSecond s).1.banks = s.banks := by
  unfold windSecond; simp only; (repeat' split) <;> rfl

theorem windClose_tallies : Tallies s (windClose s) := by
  have h : Tallies s (if windCrossed s && s.charge.power != .starting then wakeEvent s else s) := by
    split
    · exact wakeEvent_tallies s
    · exact .refl s
  exact h.trans (runReact_tallies (windSecond_banks _))

theorem handReading_banks (i : Fin 12) (b : Bool) : (handReading i b s).1.banks = s.banks := by
  unfold handReading; split <;> rfl

theorem handStale_banks (i : Fin 12) : (handStale i s).1.banks = s.banks := by
  unfold handStale; split
  · rfl
  · exact handReading_banks s i false

theorem handLoss_banks (i : Fin 12) : (handLoss i s).1.banks = s.banks := by unfold handLoss; split <;> rfl

theorem testStale_banks (i : Fin 12) : (testStale i s).1.banks = s.banks := by
  unfold testStale; simp only; split
  · split
    · exact (handStale_banks _ i).trans rfl
    · rfl
  · rfl

theorem setNode_banks (i : Fin 12) (x : Node) : (setNode i x s).banks = s.banks := rfl

theorem ageNodes_tallies (l : List (Fin 12)) : ∀ s : State, Tallies s (ageNodes l s) := by
  induction l with
  | nil => exact .refl
  | cons i l ih =>
    exact fun s => ((Tallies.of_banks (setNode_banks s i _)).trans (runReact_tallies (testStale_banks _ i))).trans (ih _)

theorem secondClose_tallies (l : List Sample) : Tallies s (secondClose l s) := by
  unfold secondClose
  have h := ((((Tallies.of_banks (tick_banks s)).trans (chargeSecond_tallies _ (meanVolts l) (meanAmps l))).trans
    (idleSecond_tallies _)).trans (windClose_tallies _))
  generalize windClose (idleSecond (chargeSecond (meanVolts l) (meanAmps l) (tick s))) = t at h
  have hmeasure : ∀ u : State, (measure s (measureOutlets u)).banks = u.banks := fun u => digestUpdate_banks _ (measureOutlets u)
  exact (h.trans (ageNodes_tallies _ t)).trans (.of_banks (hmeasure _))

theorem thresholdClose_tallies (f : State → Bool) (l : List Sample) : Tallies s (thresholdClose f l s) := by
  unfold thresholdClose; split
  · exact secondClose_tallies s l
  · exact .refl s

/-! ### Inputs -/

theorem setLine_banks (i : FilteredInput) (x : Line) : (setLine i x s).banks = s.banks :=
  (congrArg State.banks (setLine_outside i x s).1 :)

theorem vehicleTaken_tallies (i : VehicleInput) (b : Bool) : Tallies s (vehicleTaken i b s) := by
  have hsignal : ∀ t, Tallies t (signalTaken i b t) := fun t => run_tallies (setLine_banks t _ _)
  have hsource : ∀ t, Tallies t (sourceTaken i b t) := fun t => by
    have hset : (setSource i b t).banks = t.banks := by unfold setSource; split <;> rfl
    exact (Tallies.of_banks hset).trans (runEach_tallies _ _)
  have hwake : Tallies s (if wakesBy i b && s.charge.power == .rest then wake s else s) := by
    split
    · exact wake_tallies s
    · exact .refl s
  have hidle : ∀ t : State, (idleCheck (if wakesBy i b then setIdle 0 t else t)).banks = t.banks := fun t => by
    unfold idleCheck; split <;> split <;> rfl
  unfold vehicleTaken
  split
  · split
    · exact (hsignal s).trans (hsource _)
    · unfold inputTaken
      exact ((((hwake.trans (hsignal _)).trans (runEach_tallies _ _)).trans (hsource _)).trans (runEach_tallies _ _)).trans
        (.of_banks (hidle _))
  · exact .refl s

theorem pullInEnd_banks (o : Fin 16) : (pullInEnd o s).banks = s.banks := by unfold pullInEnd; split <;> rfl

theorem currentSample_tallies (o : Fin 16) (k : Nat) : Tallies s (currentSample o k s) := by
  have hrecord : (recordSample o k s).banks = s.banks := by unfold recordSample stallTick; split <;> rfl
  unfold currentSample; split
  · simp only
    split
    · exact run_tallies hrecord
    · exact .of_banks hrecord
  · exact .refl s

theorem tripIf_tallies (b : Bool) (o : Fin 16) (k : Nat) : Tallies s (tripIf b o k s) := by
  unfold tripIf; split
  · exact currentSample_tallies s o k
  · exact .refl s

/-! ### Node link -/

theorem resultActs_banks (c : LinkCmd) (r : CmdResult) : (resultActs c r s).1.banks = s.banks := by
  unfold resultActs; split
  case h_3 => split <;> rfl
  all_goals rfl

theorem goodEnd_tallies (x : Txn) (r : Role) (w : Word) (l : List Word) (k : Nat) : Tallies s (goodEnd x r w l k s) := by
  unfold goodEnd
  simp only
  generalize hs1 : endTxn (setDue x.record k (setNode x.record (goodNode r w l (resting s) (node s x.record)) s)) = s1
  have h1 : Tallies s s1 := .of_banks (by rw [← hs1]; rfl)
  have h2 : ∀ (c : Prop) [Decidable c] (g : Group) (b : BitVec 32) (t : State), Tallies t (if c then raise g b t else t) :=
    fun c _ g b t => by split <;> exact .of_banks rfl
  have h3 : ∀ t, Tallies t (runReact (handReading x.record ((node s x.record).state == .missing)) t) := fun t =>
    runReact_tallies (handReading_banks t _ _)
  exact (((h1.trans (h2 _ _ _ _)).trans (h3 _)).trans (h2 _ _ _ _)).trans (runReact_tallies (resultActs_banks _ _ _))

theorem goodReply_tallies (w : Word) (l : List Word) (k : Nat) : Tallies s (goodReply w l k s) := by
  unfold goodReply; split
  · split
    · split
      · exact goodEnd_tallies s _ _ _ _ _
      · exact .refl s
    · exact .refl s
  · exact .refl s

theorem missHanded_tallies (i : Fin 12) (c stale : Prop) [Decidable c] [Decidable stale] :
    Tallies s (if c then
        if stale then runReact (handLoss i) (raise .link (bit i.val) s)
        else runReact (handStale i) (runReact (handLoss i) (raise .link (bit i.val) s))
      else runReact (testStale i) s) := by
  have hraise : (raise .link (bit i.val) s).banks = s.banks := rfl
  have hloss : Tallies s (runReact (handLoss i) (raise .link (bit i.val) s)) :=
    (Tallies.of_banks hraise).trans (runReact_tallies (handLoss_banks _ i))
  split
  · split
    · exact hloss
    · exact hloss.trans (runReact_tallies (handStale_banks _ i))
  · exact runReact_tallies (testStale_banks s i)

theorem missEnd_tallies (m : MissKind) (k : Nat) : Tallies s (missEnd m k s) := by
  unfold missEnd; split
  · exact .refl s
  · next x _ =>
    simp only
    generalize hs1 : endTxn (setDue x.record k (setNode x.record (missNode m (resting s) (node s x.record)) s)) = s1
    have h1 : Tallies s s1 := .of_banks (by rw [← hs1]; rfl)
    exact (h1.trans (missHanded_tallies s1 _ _ _)).trans (runReact_tallies (resultActs_banks _ _ _))

theorem ackExpiry_tallies (k : Nat) : Tallies s (ackExpiry k s) := by
  unfold ackExpiry; split
  · exact missEnd_tallies s _ _
  · exact .refl s

theorem quietAfter_tallies (k : Nat) : Tallies s (quietAfter k s) := by
  unfold quietAfter; split
  · exact missEnd_tallies s _ _
  · exact .refl s

theorem replyWordFault_banks (k : Nat) (w : Word) (a b : Bool) : (replyWordFault k w a b s).banks = s.banks := by
  unfold replyWordFault; split
  · split <;> rfl
  · rfl

theorem replyGap_banks : (replyGap s).banks = s.banks := by unfold replyGap; split <;> rfl
theorem requestSent_banks : (requestSent s).banks = s.banks := by unfold requestSent; split <;> rfl

theorem turnaround_banks (k : Nat) : (turnaround k s).banks = s.banks := by
  unfold turnaround; split
  · exact linkChoose_banks s _
  · rfl

theorem pollDue_banks (i : Fin 12) (k : Nat) : (pollDue i k s).banks = s.banks := by
  unfold pollDue; split
  · exact linkChoose_banks s _
  · rfl

/-! ### Water, climate, movers -/

theorem pressureLow_tallies (b : Bool) : Tallies s (pressureLow b s) := by
  have htake : (takeLine .pressureLow b s).banks = s.banks := rfl
  have htaken : ∀ t, (pressureTaken b t).1.banks = t.banks := fun t => by
    unfold pressureTaken pumpStart; (repeat' split) <;> rfl
  unfold pressureLow; split
  · simp only
    split
    · exact .of_banks htake
    · exact (Tallies.of_banks htake).trans (runReact_tallies (htaken _))
  · exact .refl s

/-- A timer's row that runs a cascade where its time has come. -/
theorem runIf_tallies {c : Prop} [Decidable c] {l : List Act} (h : t.banks = s.banks) : Tallies s (if c then run l t else s) := by
  split
  · exact run_tallies h
  · exact .refl s

theorem pumpRunLimit_tallies : Tallies s (pumpRunLimit s) := runIf_tallies s rfl
theorem padTimeout_tallies : Tallies s (padTimeout s) := runIf_tallies s rfl
theorem heatTimeout_tallies : Tallies s (heatTimeout s) := runIf_tallies s rfl
theorem grantTimeout_tallies : Tallies s (grantTimeout s) := runIf_tallies s rfl
theorem seqExpiry_tallies (x : SeqState) (f : State → Bool) (l : List Act) : Tallies s (seqExpiry x f l s) := runIf_tallies s rfl
theorem supplyHoldEnd_tallies : Tallies s (supplyHoldEnd s) := runIf_tallies s rfl

theorem fillPulse_banks : (fillPulse s).1.banks = s.banks := by
  have hcount : ∀ g : Fill, (if g.target ≤ metered (setFill g s) g then fillEnd (.done false) (setFill g s)
      else (setFill g s, [])).1.banks = s.banks := fun g => by
    split
    · unfold fillEnd; split <;> rfl
    · rfl
  unfold fillPulse; split
  · rfl
  · exact hcount _

theorem fillTimeout_tallies (x : OutletState) (f : Fill → Nat) (k : Nat) (o : Outcome) : Tallies s (fillTimeout x f k o s) := by
  unfold fillTimeout; split
  · split
    · exact run_tallies rfl
    · exact .refl s
  · exact .refl s

theorem blindGrace_banks : (blindGrace s).banks = s.banks := by
  unfold blindGrace; simp only; (repeat' split) <;> rfl

theorem setMover_banks (m : Mover) (x : MoverRec) : (setMover m x s).banks = s.banks := by rw [State.banks, setMover_charge]; rfl

theorem endStopTaken_tallies (e : EndStop) (b : Bool) : Tallies s (endStopTaken e b s) := by
  have hasserted : ∀ t, (stopAsserted e t).1.banks = t.banks := fun t => by
    unfold stopAsserted; simp only; split <;> exact setMover_banks t _ _
  have hreleased : ∀ t, (stopReleased e t).1.banks = t.banks := fun t => by
    unfold stopReleased; simp only; split
    · rfl
    · exact setMover_banks t _ _
  have hstop : ∀ t, ((if b then stopAsserted e else stopReleased e) t).1.banks = t.banks := fun t => by
    split
    · exact hasserted t
    · exact hreleased t
  unfold endStopTaken; split
  · exact (Tallies.of_banks (setLine_banks s _ _)).trans (runReact_tallies (hstop _))
  · exact .refl s

theorem hallPulse_banks (m : Mover) : (hallPulse m s).1.banks = s.banks := by
  have hrest : (restPulse m s).1.banks = s.banks := by
    unfold restPulse; simp only; split
    · rfl
    · exact setMover_banks s _ _
  have hdrive : ∀ v, (drivePulse m v s).1.banks = s.banks := fun v => by
    unfold drivePulse; simp only; (repeat' split) <;> exact (rfl : _ = _).trans (setMover_banks s _ _)
  unfold hallPulse; split
  · split
    · exact hdrive _
    · exact hrest
  · exact hrest

theorem moveExpiry_tallies (m : Mover) (f : Move → Bool) (g : Move → Outcome) : Tallies s (moveExpiry m f g s) := by
  unfold moveExpiry; split
  · split
    · exact run_tallies rfl
    · exact .refl s
  · exact .refl s

end

/-! ### Every command -/

/-- What a command does to the invariant of the tally. -/
def KeepsTally (i : Instr) (s : State) : Prop := ∀ t, exec i s = .next t → Tallies s t

theorem KeepsTally.of_tallies {i : Instr} (h : Tallies s t) (he : exec i s = .next t := by rfl) : KeepsTally i s :=
  fun u hu => by
    obtain rfl : t = u := by simpa using he.symm.trans hu
    exact h

theorem KeepsTally.live {i : Instr} {f : State → State} (h : Tallies s (f s)) (he : exec i s = .next (live f s) := by rfl) :
    KeepsTally i s := .of_tallies (live_tallies h) he

theorem KeepsTally.inRun {i : Instr} {f : State → State} (h : Tallies s (f s)) (he : exec i s = .next (inRun f s) := by rfl) :
    KeepsTally i s := .of_tallies (inRun_tallies h) he

theorem KeepsTally.host {i : Instr} {a : BitVec 13} {v : Word} (he : exec i s = .next (hostWrite a v s) := by rfl) :
    KeepsTally i s := .of_tallies (hostWrite_tallies a v s) he

theorem KeepsTally.order {i : Instr} {k : Kind} {body : Fin 32 → State → State}
    (h : ∀ n t, badParam k t n = none → Tallies t (body n t)) (he : exec i s = .next (Machine.inRun (dispatch k body) s) := by rfl) :
    KeepsTally i s := .of_tallies (order_tallies h) he

theorem exec_keepsTally (i : Instr) (s : State) : KeepsTally i s := by
  cases i
  case hostRead a => exact .of_tallies (hostRead_tallies a s)
  case slotWordWrite | slotPost | slotCancelPosted | slotCancelTaken | slotCancelLate | slotGiveBack | slotStateFault | sceneWrite
      | stagingWrite | digestWrite | unmappedWrite | registerWrite | restart | attnEn | ordAutoclr | noticeClear | noticeMask =>
    exact .host
  case badKind => exact .inRun (dispatchBad_tallies s)
  case chargeSet => exact .order fun n t h => chargeSet_tallies t n h
  case shedFloor => exact .order fun n t h => shedFloor_tallies t n h
  case restNow => exact .order fun n t _ => restNow_tallies t n
  case auxSet => exact .order fun n t _ => (run_follows _ t).tallies.trans (finish_tallies n _ _)
  case tripClear => exact .order fun n t _ => tripClear_tallies t n
  case termsLoad => exact .order fun n t _ => termsLoad_tallies t n
  case pumpMode => exact .order fun n t _ => pumpMode_tallies t n
  case pumpReset => exact .order fun n t _ => pumpReset_tallies t n
  case fill => exact .order fun n t _ => fill_tallies t n
  case drainDump => exact .order fun n t _ => (run_follows _ t).tallies.trans (finish_tallies n _ _)
  case drainClose => exact .order fun n t _ => drainClose_tallies t n
  case climateMode => exact .order fun n t _ => climateMode_tallies t n
  case zoneSet => exact .order fun n t _ => zoneSet_tallies t n
  case heaterClear => exact .order fun n t _ => heaterClear_tallies t n
  case move => exact .order fun n t _ => move_tallies t n
  case moverStop => exact .order fun n t _ => moverStop_tallies t n
  case sceneRecall => exact .order fun n t _ => sceneRecall_tallies t n
  case lightSet => exact .order fun n t _ => lightSet_tallies t n
  case settingsFetch => exact .order fun n t _ => settingsFetch_tallies t n
  case settingsStore => exact .order fun n t _ => settingsStore_tallies t n
  case validateEnd => exact .inRun (validateEnd_tallies s)
  case eraseEnd ok => exact .inRun (eraseEnd_tallies s ok)
  case eraseTimeout => exact .inRun (timeoutIn_tallies s .erase 1)
  case programEnd ok => exact .inRun (programEnd_tallies s ok)
  case programTimeout => exact .inRun (timeoutIn_tallies s .program 2)
  case verifyEnd l => exact .inRun (verifyEnd_tallies s l)
  case serviceInput b => exact .of_tallies (serviceInput_tallies s b)
  case powerOn => exact .of_tallies (t := powerOn s) fun _ => powerOn_tallyInv s
  case resetAssert d => exact .of_tallies (resetAssert_tallies s d)
  case resetRelease => exact .of_tallies (resetRelease_tallies s)
  case linkStartQuiet k => exact .live (.of_banks (quietEnd_banks s k))
  case startComplete => exact .of_tallies (startComplete_tallies s)
  case secondClose l => exact .live (secondClose_tallies s l)
  case fullSync | emptySync | voltageFloorEntry | voltageFloorExit | restEntry | readingStale | windHighSet | windHighClear =>
    exact .live (thresholdClose_tallies s _ _)
  case filteredInputEdge i b => exact .of_tallies (.of_banks (setLine_banks s i _))
  case vehicleInput i b => exact .live (vehicleTaken_tallies s i b)
  case valvePullInEnd o => exact .of_tallies (.of_banks (pullInEnd_banks s o))
  case immediateTrip o k => exact .of_tallies ((tripIf_tallies s _ o k).trans (closeFrom_tallies s _))
  case sustainedTrip o k => exact .of_tallies ((tripIf_tallies s _ o k).trans (closeFrom_tallies s _))
  case currentSample o k => exact .of_tallies ((currentSample_tallies s o k).trans (closeFrom_tallies s _))
  case turnaroundEnd k => exact .inRun (.of_banks (turnaround_banks s k))
  case pollDue i k => exact .inRun (.of_banks (pollDue_banks s i k))
  case requestSent => exact .inRun (.of_banks (requestSent_banks s))
  case ackWindowExpiry k => exact .inRun (ackExpiry_tallies s k)
  case replyGapExpiry => exact .inRun (.of_banks (replyGap_banks s))
  case replyWordFault k w a b => exact .inRun (.of_banks (replyWordFault_banks s k w a b))
  case replyQuietEnd k => exact .inRun (quietAfter_tallies s k)
  case goodReply w l k => exact .inRun (goodReply_tallies s w l k)
  case pressureLow b => exact .live (pressureLow_tallies s b)
  case pumpRunLimit => exact .inRun (pumpRunLimit_tallies s)
  case fillFlowPulse => exact .inRun (runReact_tallies (fillPulse_banks s))
  case fillWaitTimeout | fillFlowTimeout => exact .inRun (fillTimeout_tallies s _ _ _ _)
  case frostBlindGrace => exact .inRun (.of_banks (blindGrace_banks s))
  case padTimeout => exact .inRun (padTimeout_tallies s)
  case heatTimeout => exact .inRun (heatTimeout_tallies s)
  case retryHoldEnd | ignitionLimit | runOnEnd | cooldownMinimum | cooldownMaximum => exact .inRun (seqExpiry_tallies s _ _ _)
  case grantWaitTimeout => exact .inRun (grantTimeout_tallies s)
  case supplyHoldEnd => exact .inRun (supplyHoldEnd_tallies s)
  case hallPulse m => exact .live (runReact_tallies (hallPulse_banks s m))
  case endStop e b => exact .live (endStopTaken_tallies s e b)
  case grantWindowExpiry | stallWindowExpiry | moveTimeout => exact .inRun (moveExpiry_tallies s _ _ _)
  case windPulse => exact .live (.of_banks rfl)
  case rampTick => exact .inRun (runEach_tallies _ s)

/-- Settles O3: the step's command keeps the invariant, whichever it is. -/
theorem stepKeepsTally : Obligations.StepKeepsTally := by
  intro s t hs hstep
  unfold step at hstep
  split at hstep
  · obtain rfl : s = t := by simpa using hstep
    exact hs
  · next c l _ => exact exec_keepsTally c { s with pending := l } t hstep hs

end Sys2Proof.Machine
end

section
/-!
SUPPORT. An order that passes its checks, as a change of the dispatcher's collections followed by its body.
-/
namespace Sys2Proof.Machine

variable {s t u : State} {n : Fin 32} {k : Kind}

/-- The state in which the body of a dispatched order begins: its slot is in no collection, and no owner has changed. -/
structure Begins (n : Fin 32) (s u : State) : Prop where
  rest : ∃ d, u = { s with disp := d }
  free : n ∉ u.disp.held.map (·.slot)
  owners : u.disp.owners = s.disp.owners

/-- R12 to R14: the body of an order that passes its checks. -/
theorem Dispatches.begins (h : Dispatches s n k) : ∃ u, Begins n s u ∧ dispatch k (bodyOf k) s = bodyOf k n u := by
  obtain ⟨-, hnext, hkind, hgood, hfollow⟩ := h
  have hgood' : badParam k (takeSlot n s) n = none := (badParam_takeSlot k s n n).trans hgood
  rw [dispatch_eq hnext hkind, dispatchSlot, hgood']
  simp only
  cases hf : followCheck (takeSlot n s) n with
  | bad r => rw [hf] at hfollow; exact absurd hfollow (by simp [isBad])
  | none => exact ⟨takeSlot n s, ⟨⟨_, rfl⟩, not_mem_held_dropHeld n _, rfl⟩, rfl⟩
  | claim f => exact ⟨claimFollower n f (takeSlot n s), ⟨⟨_, rfl⟩, claimed_not_held n f s, rfl⟩, rfl⟩

/-- The state with this digest. -/
def State.withDigest (s : State) (d : Mem) : State := { s with ram := { s.ram with digest := d } }

theorem State.withDigest_sansDigest (s : State) (d : Mem) : (s.withDigest d).sansDigest = s.sansDigest := rfl

/-- The row of an order that passes its checks, the digest apart. -/
theorem Dispatches.exec {c : Instr} (h : Dispatches s n k) (hc : orderKind c = some k) :
    ∃ u d, Begins n s u ∧ Machine.exec c s = .next ((bodyOf k n u).withDigest d) := by
  obtain ⟨u, hu, hbody⟩ := Dispatches.begins h
  obtain ⟨d, hd⟩ := exec_dispatched hc h.1 hbody
  exact ⟨u, d, hu, hd⟩

/-- A cascade from the start of a body leaves the slot out of every collection, so that its end is told. -/
theorem Begins.finished (hu : Begins n s u) (hw : Mem.Wf 0 s.ram.slots) {t : State} (hdrain : Drains u t)
    (hslots : Mem.Wf 0 u.ram.slots → Mem.Wf 0 t.ram.slots) (f : Finish) : Finished (finish n f t) n f := by
  obtain ⟨⟨d, rfl⟩, hfree, -⟩ := hu
  exact finish_finished (hslots hw) (fun hn => hfree (hdrain.held n hn)) f

theorem finish_charge (n : Fin 32) (f : Finish) (s : State) : (finish n f s).charge = s.charge :=
  (congrArg State.charge (finish_sansOrders n f s) :)

theorem shedOf_of_charge (h : t.charge = s.charge) : shedOf t = shedOf s := by rw [shedOf, shedOf, h]

end Sys2Proof.Machine
end

section
/-!
PROOF. CHARGE_SET (O28).
-/
namespace Sys2Proof.Machine

variable {s t u : State} {n : Fin 32}

/-- The tally, the SoC level and the retained copies of a new charge. -/
theorem setCharge_tally (c : Nat) (s : State) :
    (setCharge c s).charge.tally = { s.charge.tally with charge := c, acc := 0, synced := true } ∧
      (setCharge c s).charge.socLevel = nextSocLevel (cfg s) (c * 1000 / s.charge.tally.capacity) s.charge.socLevel ∧
      ((setCharge c s).retained.charge, (setCharge c s).retained.acc, (setCharge c s).retained.synced) = (c, 0, true) :=
  ⟨rfl, rfl, rfl⟩

/-- Settles O28: the cascade evaluates the shed level first, and neither it nor the order's end touches the tally. -/
theorem chargeSetSetsTally : Obligations.ChargeSetSetsTally := by
  intro s n hw hd c
  obtain ⟨u, d, hu, hexec⟩ := Dispatches.exec (c := .chargeSet) hd rfl
  obtain ⟨e, rfl⟩ := hu.rest
  obtain ⟨htally, hsoc, hretained⟩ := setCharge_tally c { s with disp := e }
  have hfollow := run_follows [.shedEval, .shown [] [.charge]] (setCharge c { s with disp := e })
  have hdrain : Drains { s with disp := e } (run [.shedEval, .shown [] [.charge]] (setCharge c { s with disp := e })) :=
    Drains.trans (t := setCharge c { s with disp := e }) ⟨id, rfl, fun _ h => h⟩ (run_drains _ _)
  have hshed := run_shedEval [.shown [] [.charge]] (setCharge c { s with disp := e })
  change Machine.exec .chargeSet s = .next ((finish n
      (done (Word.nat (soc (run [.shedEval, .shown [] [.charge]] (setCharge c { s with disp := e }))))
        (Word.nat (run [.shedEval, .shown [] [.charge]] (setCharge c { s with disp := e })).charge.shedLevel))
      (run [.shedEval, .shown [] [.charge]] (setCharge c { s with disp := e }))).withDigest d) at hexec
  generalize run [.shedEval, .shown [] [.charge]] (setCharge c { s with disp := e }) = r at *
  have hrtally := (congrArg Steady.tally hfollow.steady).trans htally
  have hrsoc := (congrArg Steady.socLevel hfollow.steady).trans hsoc
  have hrretained := (congrArg Steady.charge hfollow.steady).trans hretained
  have hnow : soc r = c * 1000 / s.charge.tally.capacity := by rw [soc, show r.charge.tally = _ from hrtally]
  rw [hnow] at hexec
  have hfinished := hu.finished hw.1 hdrain hfollow.slots
    (done (Word.nat (c * 1000 / s.charge.tally.capacity)) (Word.nat r.charge.shedLevel))
  have hrest := finish_sansOrders n (done (Word.nat (c * 1000 / s.charge.tally.capacity)) (Word.nat r.charge.shedLevel)) r
  generalize finish n (done (Word.nat (c * 1000 / s.charge.tally.capacity)) (Word.nat r.charge.shedLevel)) r = w at *
  have hcharge : w.charge = r.charge := (congrArg State.charge hrest :)
  have hkept : w.retained = r.retained := (congrArg State.retained hrest :)
  refine ⟨_, hexec, ?_⟩
  have hshown : (w.withDigest d).charge = r.charge := hcharge
  have hheld : (w.withDigest d).retained = r.retained := hkept
  rw [hshown, hheld, shedOf_of_charge hshown]
  exact ⟨hrtally, hrsoc, hshed, hrretained, hfinished⟩

end Sys2Proof.Machine
end

section
/-!
PROOF. REST_NOW (O30).
-/
namespace Sys2Proof.Machine

variable {s t u : State} {n : Fin 32}

theorem overNodes_slots (f : Fin 12 → Node → Node) (l : List (Fin 12)) :
    ∀ s : State, (overNodes f l s).ram.slots = s.ram.slots := by
  induction l with
  | nil => exact fun _ => rfl
  | cons i l ih => exact fun s => (ih _).trans rfl

/-- The long interval takes every record of the roster. -/
theorem restScale_scaled {i : Fin 12} (hi : i ∈ roster s) : (node (restScale s) i).scaled = true := by
  unfold restScale
  rw [node_overNodes _ _ _ (roster_nodup s) hi]

/-- R59: what an entry into REST leaves of the power state, the idle timer, ENERGY and the records. -/
theorem enterRest_rests (s : State) : (enterRest s).charge.power = .rest ∧ (enterRest s).charge.idle = 0 ∧
    Noticed (enterRest s) .energy 2 ∧ (∀ i ∈ roster s, (node (enterRest s) i).scaled = true) ∧
    (Mem.Wf 0 s.ram.slots → Mem.Wf 0 (enterRest s).ram.slots) := by
  have hfollow := run_follows [.signal .rest 1] (setPower .rest s)
  have hidle : (run [.signal .rest 1] (setPower .rest s)).charge.idle = 0 := (run_drains _ _).idle rfl
  have hpower := congrArg Steady.power hfollow.steady
  have hstore := congrArg Steady.store hfollow.steady
  have hslots := hfollow.slots
  unfold enterRest
  generalize run [.signal .rest 1] (setPower .rest s) = w at *
  have hcharge : (restScale w).charge = w.charge := overNodes_charge _ _ _
  have hscaled : ∀ i ∈ roster s, (node (restScale w) i).scaled = true := fun i hi =>
    restScale_scaled (by rwa [roster_congr hstore])
  have hkept : (restScale w).ram.slots = w.ram.slots := overNodes_slots _ _ _
  generalize restScale w = x at hcharge hscaled hkept ⊢
  have hraise : (raise .energy (bit 2) (syncPart .charge x)).charge = w.charge := by rw [raise_charge, syncPart_charge, hcharge]
  refine ⟨by rw [hraise]; exact hpower, by rw [hraise, hidle], raise_noticed .energy (by decide) _, hscaled, fun hw => ?_⟩
  exact (hkept ▸ hslots hw :)

theorem enterRest_drains (s : State) : Drains s (enterRest s) := (enterRest_course s).drains

/-- The dispatcher's collections are no idle condition; the owner table is. -/
theorem Begins.idleBroken (hu : Begins n s u) : idleBroken u = idleBroken s := by
  obtain ⟨⟨e, rfl⟩, -, howners⟩ := hu
  have howners' : e.owners = s.disp.owners := howners
  unfold Machine.idleBroken
  rw [howners']
  rfl

theorem Begins.sansOrders (hu : Begins n s u) : u.sansOrders = s.sansOrders := by
  obtain ⟨e, rfl⟩ := hu.rest
  rfl

/-- An order that its body ends at once. -/
theorem Begins.finish_now (hu : Begins n s u) (hw : Mem.Wf 0 s.ram.slots) (f : Finish) :
    Finished (finish n f u) n f ∧ (finish n f u).sansOrders = s.sansOrders :=
  ⟨hu.finished hw (.refl u) id f, (finish_sansOrders n f u).trans hu.sansOrders⟩

/-- Settles O30: the three branches of the body. -/
theorem restNowNeedsIdleConditions : Obligations.RestNowNeedsIdleConditions := by
  intro s n hw hd
  obtain ⟨u, d, hu, hexec⟩ := Dispatches.exec (c := .restNow) hd rfl
  have hpower : u.charge.power = s.charge.power := by obtain ⟨e, rfl⟩ := hu.rest; rfl
  have hroster : roster u = roster s := by obtain ⟨e, rfl⟩ := hu.rest; rfl
  have hbroken := hu.idleBroken
  change exec .restNow s = .next ((restNow n u).withDigest d) at hexec
  refine ⟨fun hp => ?_, fun hp hi => ?_, fun hp hi => ?_⟩
  · have hbody : restNow n u = finish n done u := if_pos (hpower.trans hp)
    rw [hbody] at hexec
    have hend := hu.finish_now hw.1 done
    generalize finish n done u = w at *
    exact ⟨_, hexec, hend⟩
  · have hbody : restNow n u = finish n done (enterRest u) :=
      (if_neg (by rw [hpower, hp]; decide)).trans (if_pos (hbroken.trans hi))
    rw [hbody] at hexec
    obtain ⟨hrest, hidle, hnotice, hscaled, hslots⟩ := enterRest_rests u
    have hend := hu.finished hw.1 (enterRest_drains u) hslots done
    have hcharge := finish_charge n done (enterRest u)
    have hnotice' := finish_notices hnotice n done
    have hnodes : ∀ i, node (finish n done (enterRest u)) i = node (enterRest u) i := fun i =>
      (congrArg (fun t : State => node t i) (finish_sansOrders n done (enterRest u)) :)
    generalize finish n done (enterRest u) = w at *
    refine ⟨_, hexec, ?_, ?_, hnotice', fun i hi => ?_, hend⟩
    · exact (congrArg Charge.power hcharge).trans hrest
    · exact (congrArg Charge.idle hcharge).trans hidle
    · exact (congrArg Node.scaled (hnodes i)).trans (hscaled i (hroster ▸ hi))
  · have hbody : restNow n u = finish n (fail .notPermitted (Word.nat (idleBroken u))) u :=
      (if_neg (by rw [hpower, hp]; decide)).trans (if_neg (by rwa [hbroken]))
    rw [hbody, hbroken] at hexec
    have hend := hu.finish_now hw.1 (fail .notPermitted (Word.nat (idleBroken s)))
    generalize finish n (fail .notPermitted (Word.nat (idleBroken s))) u = w at *
    exact ⟨_, hexec, hend⟩

end Sys2Proof.Machine
end

section
/-!
SUPPORT. The steps of a second close: what each leaves of the tally, of the levels and of the rest (`Passes`).
-/
namespace Sys2Proof.Machine

variable {s t u : State}

/-! ### The tally in one second (R46 to R48) -/

theorem countUp_of_reaches {met : Bool} {n k : Nat} (h : reaches met n k = true) : countUp met n k = k := by
  obtain ⟨hmet, hn⟩ : met = true ∧ n + 1 = k := by simpa [reaches] using h
  rw [countUp, if_pos hmet, hn, Nat.min_self]

/-- R47: the second close that reaches the count. -/
theorem fullSecond_reached {v : Nat} {a : Int} (h : reaches (fullCondition s v a) s.charge.tally.fullCount 600 = true) :
    fullSecond v a s =
      (socEval (setTally (fun t => { t with charge := t.capacity, acc := 0, synced := true, fullCount := 600 }) s),
       [.raise .energy (bit 4), .postFloat]) := by
  have hc : countUp (fullCondition s v a) s.charge.tally.fullCount Config.fullSyncHold = 600 := countUp_of_reaches h
  refine (if_pos h).trans ?_
  simp only [setTally, hc]

/-- R47: any other second close. -/
theorem fullSecond_counted {v : Nat} {a : Int} (h : reaches (fullCondition s v a) s.charge.tally.fullCount 600 = false) :
    fullSecond v a s = (setTally (fun t => { t with fullCount := countUp (fullCondition s v a) t.fullCount 600 }) s, []) :=
  if_neg fun e => absurd (h.symm.trans e) (by decide)

/-- R48: the second close that reaches the count. -/
theorem emptySecond_reached {v : Nat} {a : Int} (h : reaches (emptyCondition s v a) s.charge.tally.emptyCount 60 = true) :
    emptySecond v a s =
      (socEval (setTally (fun t => { t with charge := 0, acc := 0, synced := true, emptyCount := 60 }) s),
       [.raise .energy (bit 5)]) := by
  have hc : countUp (emptyCondition s v a) s.charge.tally.emptyCount Config.emptySyncHold = 60 := countUp_of_reaches h
  refine (if_pos h).trans ?_
  simp only [setTally, hc]

/-- R48: any other second close. -/
theorem emptySecond_counted {v : Nat} {a : Int} (h : reaches (emptyCondition s v a) s.charge.tally.emptyCount 60 = false) :
    emptySecond v a s = (setTally (fun t => { t with emptyCount := countUp (emptyCondition s v a) t.emptyCount 60 }) s, []) :=
  if_neg fun e => absurd (h.symm.trans e) (by decide)

/-! ### What stays through the later steps of a second -/

/-- The steady part without the power state, the records, the readings handed out and the wind. -/
def Steady.lasting (x : Steady) : Steady :=
  { x with
    power := .active, nodes := Vector.replicate 12 {}, fresh := none, grey := none, zones := Vector.replicate 3 (0, false, none)
    windPulses := 0, windSpeed := 0, windSet := 0, windClear := 0, windHigh := false }

/-- What every step of a second close after the tally does at most. -/
structure Passes (s t : State) : Prop where
  lasting : t.steady.lasting = s.steady.lasting
  shed : s.charge.shedLevel = shedOf s → t.charge.shedLevel = shedOf t
  notices : ∀ g k, Noticed s g k → Noticed t g k
  link : s.link.phase ≠ .idle → t.link.phase = s.link.phase ∧ (s.link.solar = true → t.link.solar = true)

namespace Passes

theorem refl (s : State) : Passes s s := ⟨rfl, id, fun _ _ h => h, fun _ => ⟨rfl, id⟩⟩

theorem trans (h : Passes s t) (g : Passes t u) : Passes s u where
  lasting := g.lasting.trans h.lasting
  shed e := g.shed (h.shed e)
  notices i k e := g.notices i k (h.notices i k e)
  link hb :=
    have e := h.link hb
    have e' := g.link (e.1 ▸ hb)
    ⟨e'.1.trans e.1, fun hs => e'.2 (e.2 hs)⟩

/-- A change of something else. -/
theorem of_eq (hl : t.steady.lasting = s.steady.lasting) (hshed : t.charge.shedLevel = s.charge.shedLevel)
    (hn : ∀ g k, Noticed s g k → Noticed t g k) (hphase : t.link.phase = s.link.phase) (hsolar : t.link.solar = s.link.solar) :
    Passes s t where
  lasting := hl
  shed e := by
    have hof : shedOf t = shedOf s := by
      simp only [shedOf, show t.charge.hostFloor = s.charge.hostFloor from congrArg Steady.hostFloor hl,
        show t.charge.floor = s.charge.floor from congrArg Steady.floor hl,
        show t.charge.shore = s.charge.shore from congrArg Steady.shore hl,
        show t.charge.socLevel = s.charge.socLevel from congrArg Steady.socLevel hl]
    rw [hshed, hof, e]
  notices := hn
  link _ := ⟨hphase, fun h => hsolar ▸ h⟩

end Passes

theorem State.Follows.passes (h : s.Follows t) : Passes s t where
  lasting := congrArg Steady.lasting h.steady
  shed := h.shed_eq
  notices := h.notices
  link := h.link

theorem run_passes (l : List Act) (s : State) : Passes s (run l s) := (run_follows l s).passes

theorem runReact_passes {f : State → React} (h : Passes s (f s).1) : Passes s (runReact f s) := h.trans (run_passes _ _)

theorem raise_passes (g : Group) (b : BitVec 32) (s : State) : Passes s (raise g b s) :=
  .of_eq rfl rfl (raise_tells g b s).notices rfl rfl

theorem setIdle_passes (k : Nat) (s : State) : Passes s (setIdle k s) := .of_eq rfl rfl (fun _ _ h => h) rfl rfl

theorem setPower_passes (x : PowerState) (s : State) : Passes s (setPower x s) := .of_eq rfl rfl (fun _ _ h => h) rfl rfl

theorem syncPart_passes (x : Part) (s : State) : Passes s (syncPart x s) := .of_eq rfl rfl (fun _ _ h => h) rfl rfl

theorem setNode_passes (i : Fin 12) (x : Node) (s : State) : Passes s (setNode i x s) := .of_eq rfl rfl (fun _ _ h => h) rfl rfl

theorem overNodes_passes (f : Fin 12 → Node → Node) (l : List (Fin 12)) : ∀ s : State, Passes s (overNodes f l s) := by
  induction l with
  | nil => exact .refl
  | cons i l ih => exact fun s => (setNode_passes i _ s).trans (ih _)

theorem enterRest_passes (s : State) : Passes s (enterRest s) :=
  ((((setPower_passes .rest s).trans (run_passes [.signal .rest 1] _)).trans (overNodes_passes _ _ _)).trans
    (syncPart_passes .charge _)).trans (raise_passes .energy (bit 2) _)

theorem wake_passes (s : State) : Passes s (wake s) :=
  ((((setPower_passes .active s).trans (run_passes [.signal .rest 0] _)).trans (overNodes_passes _ _ _)).trans
    (syncPart_passes .charge _)).trans (raise_passes .energy (bit 3) _)

theorem idleSecond_passes (s : State) : Passes s (idleSecond s) := by
  unfold idleSecond; split
  · simp only
    split
    · exact (setIdle_passes _ s).trans (enterRest_passes _)
    · exact setIdle_passes _ s
  · exact .refl s

theorem wakeEvent_passes (s : State) : Passes s (wakeEvent s) := by
  unfold wakeEvent; split
  · exact wake_passes s
  · exact setIdle_passes 0 s

theorem windSecond_passes (s : State) : Passes s (windSecond s).1 := by
  unfold windSecond; simp only; (repeat' split) <;> exact .of_eq rfl rfl (fun _ _ h => h) rfl rfl

theorem windClose_passes (s : State) : Passes s (windClose s) := by
  have h : Passes s (if windCrossed s && s.charge.power != .starting then wakeEvent s else s) := by
    split
    · exact wakeEvent_passes s
    · exact .refl s
  exact h.trans (runReact_passes (windSecond_passes _))

theorem handReading_passes (i : Fin 12) (b : Bool) (s : State) : Passes s (handReading i b s).1 := by
  unfold handReading; split
  case h_4 => exact .of_eq rfl rfl (fun _ _ h => h) rfl rfl
  all_goals exact .of_eq rfl rfl (fun _ _ h => h) rfl rfl

theorem testStale_passes (i : Fin 12) (s : State) : Passes s (testStale i s).1 := by
  have hstale : ∀ t : State, Passes t (handStale i t).1 := fun t => by
    unfold handStale; split
    · exact .of_eq rfl rfl (fun _ _ h => h) rfl rfl
    · exact handReading_passes i false t
  unfold testStale; simp only; split
  · split
    · exact (setNode_passes i _ s).trans (hstale _)
    · exact setNode_passes i _ s
  · exact .refl s

theorem ageNodes_passes (l : List (Fin 12)) : ∀ s : State, Passes s (ageNodes l s) := by
  induction l with
  | nil => exact .refl
  | cons i l ih => exact fun s => ((setNode_passes i _ s).trans (runReact_passes (testStale_passes i _))).trans (ih _)

theorem digestUpdate_passes (l : List (Nat × Word)) (s : State) : Passes s (digestUpdate l s) := .of_eq rfl rfl (fun _ _ h => h) rfl rfl

theorem measure_passes (old s : State) : Passes s (measure old (measureOutlets s)) :=
  have h : Passes s (measureOutlets s) := .of_eq rfl rfl (fun _ _ h => h) rfl rfl
  h.trans (digestUpdate_passes _ _)

/-- R45: after the tally, the second close leaves what lasts. -/
theorem secondClose_passes (l : List Sample) (s : State) :
    Passes (chargeSecond (meanVolts l) (meanAmps l) (tick s)) (secondClose l s) :=
  ((((idleSecond_passes _).trans (windClose_passes _))).trans (ageNodes_passes _ _)).trans (measure_passes s _)

end Sys2Proof.Machine
end

section
/-!
PROOF. The second close on the averages (O45).
-/
namespace Sys2Proof.Machine

variable {s t u : State}

/-! ### The tally -/

/-- R47 on a tally. -/
def fullTally (met : Bool) (x : Tally) : Tally :=
  if reaches met x.fullCount 600 then { x with charge := x.capacity, acc := 0, synced := true, fullCount := 600 }
  else { x with fullCount := countUp met x.fullCount 600 }

/-- R48 on a tally. -/
def emptyTally (met : Bool) (x : Tally) : Tally :=
  if reaches met x.emptyCount 60 then { x with charge := 0, acc := 0, synced := true, emptyCount := 60 }
  else { x with emptyCount := countUp met x.emptyCount 60 }

theorem fullSecond_tally (v : Nat) (a : Int) (s : State) :
    (fullSecond v a s).1.charge.tally = fullTally (fullCondition s v a) s.charge.tally := by
  unfold fullTally
  split
  · next h => rw [fullSecond_reached h]; rfl
  · next h => rw [fullSecond_counted (by simpa using h)]; rfl

theorem emptySecond_tally (v : Nat) (a : Int) (s : State) :
    (emptySecond v a s).1.charge.tally = emptyTally (emptyCondition s v a) s.charge.tally := by
  unfold emptyTally
  split
  · next h => rw [emptySecond_reached h]; rfl
  · next h => rw [emptySecond_counted (by simpa using h)]; rfl

/-- The tally of a second, with its synchronisation windows (R46 to R48). -/
def secondTally (v : Nat) (a : Int) (s : State) : Tally :=
  emptyTally (emptyCondition s v a) (fullTally (fullCondition s v a) (moveCharge s.charge.tally a))

/-! ### The steady part -/

/-- The steady part without the tally, its copies, the SoC level and the voltage floor. -/
def Steady.untallied (x : Steady) : Steady :=
  { x with
    tally := { capacity := 0, charge := 0, acc := 0, synced := false, fullCount := 0, emptyCount := 0 }
    socLevel := 0, floor := false, floorEntry := 0, floorExit := 0, charge := (0, 0, false) }

theorem fullSecond_untallied (v : Nat) (a : Int) (s : State) :
    (runReact (fullSecond v a) s).steady.untallied = s.steady.untallied := by
  rw [runReact_steady]
  cases h : reaches (fullCondition s v a) s.charge.tally.fullCount 600 with
  | true => rw [fullSecond_reached h]; rfl
  | false => rw [fullSecond_counted h]; rfl

theorem emptySecond_untallied (v : Nat) (a : Int) (s : State) :
    (runReact (emptySecond v a) s).steady.untallied = s.steady.untallied := by
  rw [runReact_steady]
  cases h : reaches (emptyCondition s v a) s.charge.tally.emptyCount 60 with
  | true => rw [emptySecond_reached h]; rfl
  | false => rw [emptySecond_counted h]; rfl

/-- R55: the voltage floor touches its own fields. -/
theorem floorSecond_frame (v : Nat) (s : State) : (runReact (floorSecond v) s).steady.untallied = s.steady.untallied ∧
    (runReact (floorSecond v) s).charge.tally = s.charge.tally ∧
    (runReact (floorSecond v) s).steady.charge = s.steady.charge := by
  have hsteady := runReact_steady (floorSecond v) s
  have hfirst : (floorSecond v s).1.steady.untallied = s.steady.untallied ∧ (floorSecond v s).1.charge.tally = s.charge.tally ∧
      (floorSecond v s).1.steady.charge = s.steady.charge := by
    unfold floorSecond; simp only; (repeat' split) <;> exact ⟨rfl, rfl, rfl⟩
  obtain ⟨hu, ht, hc⟩ := hfirst
  exact ⟨hsteady ▸ hu, (congrArg Steady.tally hsteady).trans ht, hsteady ▸ hc⟩

/-- R45 to R48, R55, R56: what the steps of the second at the tally leave. -/
theorem chargeSecond_leaves (v : Nat) (a : Int) (s : State) :
    (chargeSecond v a s).charge.tally = secondTally v a s ∧
    (chargeSecond v a s).steady.charge = ((secondTally v a s).charge, (secondTally v a s).acc, (secondTally v a s).synced) ∧
    (chargeSecond v a s).steady.untallied = (setBank v a s).steady.untallied ∧
    (chargeSecond v a s).charge.shedLevel = shedOf (chargeSecond v a s) := by
  have hmoved : (tallySecond a (setBank v a s)).charge.tally = moveCharge s.charge.tally a := rfl
  have hbank : (tallySecond a (setBank v a s)).steady.untallied = (setBank v a s).steady.untallied := rfl
  have hstore : (tallySecond a (setBank v a s)).store = s.store := rfl
  unfold chargeSecond secondTally
  simp only
  generalize tallySecond a (setBank v a s) = s1 at hmoved hbank hstore ⊢
  have hconditions : ∀ x : State, x.store = s.store → fullCondition x v a = fullCondition s v a ∧
      emptyCondition x v a = emptyCondition s v a := fun x hx => by
    unfold fullCondition emptyCondition cfg; rw [hx]; exact ⟨rfl, rfl⟩
  have hfull : (runReact (fullSecond v a) s1).charge.tally = fullTally (fullCondition s v a) (moveCharge s.charge.tally a) := by
    rw [show (runReact (fullSecond v a) s1).charge.tally = _ from congrArg Steady.tally (runReact_steady _ s1), ← hmoved,
      ← (hconditions s1 hstore).1]
    exact fullSecond_tally v a s1
  have hfullSteady := fullSecond_untallied v a s1
  generalize runReact (fullSecond v a) s1 = s2 at hfull hfullSteady ⊢
  have hstore2 : s2.store = s.store := (congrArg Steady.store hfullSteady :).trans hstore
  have hempty : (runReact (emptySecond v a) s2).charge.tally =
      emptyTally (emptyCondition s v a) (fullTally (fullCondition s v a) (moveCharge s.charge.tally a)) := by
    rw [show (runReact (emptySecond v a) s2).charge.tally = _ from congrArg Steady.tally (runReact_steady _ s2), ← hfull,
      ← (hconditions s2 hstore2).2]
    exact emptySecond_tally v a s2
  have hemptySteady := emptySecond_untallied v a s2
  generalize runReact (emptySecond v a) s2 = s3 at hempty hemptySteady ⊢
  have hkeep : (keepTally s3).steady.untallied = s3.steady.untallied ∧ (keepTally s3).charge.tally = s3.charge.tally ∧
      (keepTally s3).steady.charge = (s3.charge.tally.charge, s3.charge.tally.acc, s3.charge.tally.synced) := ⟨rfl, rfl, rfl⟩
  generalize keepTally s3 = s4 at hkeep ⊢
  obtain ⟨hkeepSteady, hkeepTally, hkept⟩ := hkeep
  obtain ⟨hfloorSteady, hfloorTally, hfloorKept⟩ := floorSecond_frame v s4
  generalize runReact (floorSecond v) s4 = s5 at hfloorSteady hfloorTally hfloorKept ⊢
  have hlast := run_steady [.shedEval] s5
  refine ⟨?_, ?_, ?_, run_shedEval [] s5⟩
  · rw [show (run [.shedEval] s5).charge.tally = _ from congrArg Steady.tally hlast]
    exact hfloorTally.trans (hkeepTally.trans hempty)
  · rw [hlast, hfloorKept, hkept, hempty]
  · rw [hlast, hfloorSteady, hkeepSteady, hemptySteady, hfullSteady, hbank]

/-! ### The wind of the second -/

/-- The pulses counted and the speed held. -/
def State.wind (s : State) : Nat × Nat := (s.movers.windPulses, s.movers.windSpeed)

theorem run_wind (l : List Act) (s : State) : (run l s).wind = s.wind :=
  congrArg (fun x : Steady => (x.windPulses, x.windSpeed)) (run_steady l s)

theorem runReact_wind {f : State → React} (h : (f s).1.wind = s.wind) : (runReact f s).wind = s.wind := (run_wind _ _).trans h

theorem overNodes_wind (f : Fin 12 → Node → Node) (l : List (Fin 12)) : ∀ s : State, (overNodes f l s).wind = s.wind := by
  induction l with
  | nil => exact fun _ => rfl
  | cons i l ih => exact fun s => (ih _).trans rfl

theorem enterRest_wind (s : State) : (enterRest s).wind = s.wind := by
  have hrun := run_wind [.signal .rest 1] (setPower .rest s)
  unfold enterRest
  generalize run [.signal .rest 1] (setPower .rest s) = w at hrun ⊢
  exact (overNodes_wind _ _ w).trans hrun

theorem wake_wind (s : State) : (wake s).wind = s.wind := by
  have hrun := run_wind [.signal .rest 0] (setPower .active s)
  unfold wake
  generalize run [.signal .rest 0] (setPower .active s) = w at hrun ⊢
  exact (overNodes_wind _ _ w).trans hrun

theorem idleSecond_wind (s : State) : (idleSecond s).wind = s.wind := by
  unfold idleSecond; split
  · simp only
    split
    · exact enterRest_wind _
    · rfl
  · rfl

theorem wakeEvent_wind (s : State) : (wakeEvent s).wind = s.wind := by
  unfold wakeEvent; split
  · exact wake_wind s
  · rfl

theorem windSecond_wind (s : State) : (windSecond s).1.wind = (0, speedOf s) := by
  unfold windSecond; simp only; (repeat' split) <;> rfl

theorem speedOf_congr (h : t.wind = s.wind) (hs : t.store = s.store) : speedOf t = speedOf s := by
  rw [speedOf, speedOf, cfg, cfg, hs, show t.movers.windPulses = s.movers.windPulses from congrArg Prod.fst h]

/-- R158: the second's pulses become its speed. -/
theorem windClose_wind (s : State) : (windClose s).wind = (0, speedOf s) := by
  have hwake : ∀ c : Bool, (if c then wakeEvent s else s).wind = s.wind ∧ (if c then wakeEvent s else s).store = s.store :=
      fun c => by
    split
    · exact ⟨wakeEvent_wind s, congrArg Steady.store (wakeEvent_passes s).lasting⟩
    · exact ⟨rfl, rfl⟩
  obtain ⟨hw, hs⟩ := hwake (windCrossed s && s.charge.power != .starting)
  exact (run_wind _ _).trans ((windSecond_wind _).trans (by rw [speedOf_congr hw hs]))

theorem handReading_wind (i : Fin 12) (b : Bool) (s : State) : (handReading i b s).1.wind = s.wind := by
  unfold handReading; split <;> rfl

theorem testStale_wind (i : Fin 12) (s : State) : (testStale i s).1.wind = s.wind := by
  unfold testStale handStale; simp only; (repeat' split) <;> first | rfl | exact handReading_wind _ _ _

theorem ageNodes_wind (l : List (Fin 12)) : ∀ s : State, (ageNodes l s).wind = s.wind := by
  induction l with
  | nil => exact fun _ => rfl
  | cons i l ih => exact fun s => (ih _).trans ((runReact_wind (testStale_wind i _)).trans rfl)

/-! ### The whole second -/

theorem tick_leaves (s : State) : (tick s).time = s.time + 1 ∧ (tick s).charge = s.charge ∧ (tick s).store = s.store ∧
    (tick s).pins = s.pins ∧ (tick s).wind = s.wind ∧ (tick s).ram = s.ram ∧ (tick s).port = s.port ∧ (tick s).link = s.link :=
  ⟨rfl, rfl, rfl, rfl, rfl, rfl, rfl, rfl⟩

theorem secondClose_wind (l : List Sample) (s : State) : (secondClose l s).wind = (0, speedOf s) := by
  have hcharge := (chargeSecond_leaves (meanVolts l) (meanAmps l) (tick s)).2.2.1
  unfold secondClose
  generalize chargeSecond (meanVolts l) (meanAmps l) (tick s) = u at hcharge ⊢
  have hwind : u.wind = s.wind := congrArg (fun x : Steady => (x.windPulses, x.windSpeed)) hcharge
  have hstore : u.store = s.store := congrArg Steady.store hcharge
  have hidle : (idleSecond u).store = u.store := congrArg Steady.store (idleSecond_passes u).lasting
  have hmeasure : ∀ x : State, (measure s (measureOutlets x)).wind = x.wind := fun _ => rfl
  have hspeed : speedOf (idleSecond u) = speedOf s := speedOf_congr ((idleSecond_wind u).trans hwind) (hidle.trans hstore)
  exact (hmeasure _).trans ((ageNodes_wind _ _).trans ((windClose_wind _).trans (by rw [hspeed])))

theorem moveCharge_counts (x : Tally) (a : Int) :
    (moveCharge x a).fullCount = x.fullCount ∧ (moveCharge x a).emptyCount = x.emptyCount := by
  obtain ⟨-, h⟩ | ⟨-, -, h⟩ | ⟨-, -, h⟩ := moveCharge_cases x a <;> rw [h] <;> exact ⟨rfl, rfl⟩

theorem fullTally_emptyCount (met : Bool) (x : Tally) : (fullTally met x).emptyCount = x.emptyCount := by
  unfold fullTally; split <;> rfl

/-- What a second close leaves of the tally and of what it stands on. -/
theorem secondClose_leaves (l : List Sample) (s : State) :
    (secondClose l s).steady.lasting = (chargeSecond (meanVolts l) (meanAmps l) (tick s)).steady.lasting ∧
    (secondClose l s).charge.shedLevel = shedOf (secondClose l s) :=
  have h := secondClose_passes l s
  ⟨h.lasting, h.shed (chargeSecond_leaves _ _ _).2.2.2⟩

/-- The synchronisations as the statement writes them. -/
theorem secondTally_eq (l : List Sample) (s : State) :
    let x0 := moveCharge s.charge.tally (meanAmps l)
    let x1 : Tally := if meetsFull l s then { x0 with charge := x0.capacity, acc := 0, synced := true, fullCount := 600 }
      else { x0 with fullCount := if fullCondition s (meanVolts l) (meanAmps l) then min (x0.fullCount + 1) 600 else 0 }
    secondTally (meanVolts l) (meanAmps l) s =
      if meetsEmpty l s then { x1 with charge := 0, acc := 0, synced := true, emptyCount := 60 }
      else { x1 with emptyCount := if emptyCondition s (meanVolts l) (meanAmps l) then min (x1.emptyCount + 1) 60 else 0 } := by
  intro x0 x1
  obtain ⟨hfull, hempty⟩ := moveCharge_counts s.charge.tally (meanAmps l)
  have hmeets : reaches (fullCondition s (meanVolts l) (meanAmps l)) x0.fullCount 600 = meetsFull l s := by
    rw [show x0.fullCount = _ from hfull]; rfl
  have hx1 : fullTally (fullCondition s (meanVolts l) (meanAmps l)) x0 = x1 := by
    unfold fullTally
    rw [hmeets]
    rfl
  have hcount : x1.emptyCount = s.charge.tally.emptyCount := by rw [← hx1, fullTally_emptyCount]; exact hempty
  have hmeets' : reaches (emptyCondition s (meanVolts l) (meanAmps l)) x1.emptyCount 60 = meetsEmpty l s := by
    rw [hcount]; rfl
  unfold secondTally emptyTally
  rw [hx1, hmeets']
  rfl

/-- Settles O45: the tally's steps, each with what the later steps keep. -/
theorem secondCloseActsOnAverages : Obligations.SecondCloseActsOnAverages := by
  intro s l hr v a x0 x1 x2
  obtain ⟨d, hd⟩ := live_eq (f := secondClose l) hr
  obtain ⟨htally, hkept, hsteady, -⟩ := chargeSecond_leaves v a (tick s)
  obtain ⟨hlasting, hshed⟩ := secondClose_leaves l s
  have hwind := secondClose_wind l s
  have hx2 : secondTally v a (tick s) = x2 := secondTally_eq l s
  have hexec : exec (.secondClose l) s = .next ((secondClose l s).withDigest d) := congrArg Host.Outcome.next hd
  change (secondClose l s).steady.lasting = (chargeSecond v a (tick s)).steady.lasting at hlasting
  generalize secondClose l s = t at *
  generalize chargeSecond v a (tick s) = c at *
  rw [hx2] at htally hkept
  refine ⟨_, hexec, ?_, ?_, ?_, ?_, ?_, hshed, congrArg Prod.fst hwind, congrArg Prod.snd hwind, ?_, ?_, ?_, ?_⟩
  · exact (congrArg Steady.time hlasting).trans (congrArg Steady.time hsteady)
  · exact (congrArg Steady.volts hlasting).trans (congrArg Steady.volts hsteady)
  · exact (congrArg Steady.amps hlasting).trans (congrArg Steady.amps hsteady)
  · exact (congrArg Steady.tally hlasting).trans htally
  · exact (congrArg Steady.charge hlasting).trans hkept
  · exact (congrArg Steady.pins hlasting).trans (congrArg Steady.pins hsteady)
  · exact (congrArg Steady.store hlasting).trans (congrArg Steady.store hsteady)
  · exact (congrArg Steady.scenes hlasting).trans (congrArg Steady.scenes hsteady)
  · exact (congrArg Steady.window hlasting).trans (congrArg Steady.window hsteady)

end Sys2Proof.Machine
end

section
/-!
PROOF. The second closes that reach a synchronisation count or a floor count (O46).
-/
namespace Sys2Proof.Machine

variable {s t u : State}

/-! ### Notices and the link through the tally's steps -/

/-- No notice is lost, and a link that is not idle keeps its phase and a posted FLOAT. -/
structure Heeds (s t : State) : Prop where
  notices : ∀ g k, Noticed s g k → Noticed t g k
  link : s.link.phase ≠ .idle → t.link.phase = s.link.phase ∧ (s.link.solar = true → t.link.solar = true)

namespace Heeds

theorem refl (s : State) : Heeds s s := ⟨fun _ _ h => h, fun _ => ⟨rfl, id⟩⟩

theorem trans (h : Heeds s t) (g : Heeds t u) : Heeds s u where
  notices i k e := g.notices i k (h.notices i k e)
  link hb :=
    have e := h.link hb
    have e' := g.link (e.1 ▸ hb)
    ⟨e'.1.trans e.1, fun hs => e'.2 (e.2 hs)⟩

/-- A change of neither. -/
theorem of_eq (hp : t.port = s.port) (hl : t.link = s.link) : Heeds s t :=
  ⟨fun _ _ h => by rw [Noticed, hp]; exact h, fun _ => ⟨by rw [hl], fun h => by rw [hl, h]⟩⟩

/-- A posted FLOAT waits in a link that is not idle. -/
theorem solar (h : Heeds s t) (hb : s.link.phase ≠ .idle) (hs : s.link.solar = true) : t.link.solar = true := (h.link hb).2 hs

end Heeds

theorem Passes.heeds (h : Passes s t) : Heeds s t := ⟨h.notices, h.link⟩

theorem State.Follows.heeds (h : s.Follows t) : Heeds s t := ⟨h.notices, h.link⟩

theorem runReact_heeds {f : State → React} (hp : (f s).1.port = s.port) (hl : (f s).1.link = s.link) : Heeds s (runReact f s) :=
  (Heeds.of_eq hp hl).trans (run_follows _ _).heeds

/-! ### The steps of the second at the tally -/

section
variable (v : Nat) (a : Int) (s : State)

/-- The state at the full synchronisation of a second. -/
def banked : State := tallySecond a (setBank v a s)

/-- The state at the empty synchronisation. -/
def fulled : State := runReact (fullSecond v a) (banked v a s)

/-- The state at the voltage floor. -/
def emptied : State := keepTally (runReact (emptySecond v a) (fulled v a s))

/-- The state at the shed level. -/
def floored : State := runReact (floorSecond v) (emptied v a s)

theorem chargeSecond_eq : chargeSecond v a s = run [.shedEval] (floored v a s) := rfl

theorem fullSecond_heeds : Heeds s (runReact (fullSecond v a) s) := by
  cases h : reaches (fullCondition s v a) s.charge.tally.fullCount 600 with
  | true => exact runReact_heeds (by rw [fullSecond_reached h]; rfl) (by rw [fullSecond_reached h]; rfl)
  | false => exact runReact_heeds (by rw [fullSecond_counted h]; rfl) (by rw [fullSecond_counted h]; rfl)

theorem emptySecond_heeds : Heeds s (runReact (emptySecond v a) s) := by
  cases h : reaches (emptyCondition s v a) s.charge.tally.emptyCount 60 with
  | true => exact runReact_heeds (by rw [emptySecond_reached h]; rfl) (by rw [emptySecond_reached h]; rfl)
  | false => exact runReact_heeds (by rw [emptySecond_counted h]; rfl) (by rw [emptySecond_counted h]; rfl)

theorem floorSecond_heeds : Heeds s (runReact (floorSecond v) s) := by
  have h : (floorSecond v s).1.port = s.port ∧ (floorSecond v s).1.link = s.link := by
    unfold floorSecond; simp only; (repeat' split) <;> exact ⟨rfl, rfl⟩
  exact runReact_heeds h.1 h.2

theorem floored_heeds : Heeds (floored v a s) (chargeSecond v a s) := (run_follows _ _).heeds

theorem emptied_heeds : Heeds (runReact (emptySecond v a) (fulled v a s)) (chargeSecond v a s) :=
  ((Heeds.of_eq (s := runReact (emptySecond v a) (fulled v a s)) (t := emptied v a s) rfl rfl).trans
    (floorSecond_heeds v _)).trans (floored_heeds v a s)

theorem fulled_heeds : Heeds (fulled v a s) (chargeSecond v a s) := (emptySecond_heeds v a _).trans (emptied_heeds v a s)

/-! ### The counts met -/

/-- The voltage floor with its counts. -/
def State.floors (s : State) : Bool × Nat × Nat := (s.charge.floor, s.charge.floorEntry, s.charge.floorExit)

variable {s} in
theorem runReact_floors {f : State → React} (h : (f s).1.floors = s.floors) : (runReact f s).floors = s.floors :=
  (congrArg (fun x : Steady => (x.floor, x.floorEntry, x.floorExit)) (runReact_steady f s) :).trans h

theorem fullSecond_floors : (fullSecond v a s).1.floors = s.floors := by
  cases h : reaches (fullCondition s v a) s.charge.tally.fullCount 600 with
  | true => rw [fullSecond_reached h]; rfl
  | false => rw [fullSecond_counted h]; rfl

theorem emptySecond_floors : (emptySecond v a s).1.floors = s.floors := by
  cases h : reaches (emptyCondition s v a) s.charge.tally.emptyCount 60 with
  | true => rw [emptySecond_reached h]; rfl
  | false => rw [emptySecond_counted h]; rfl

theorem emptied_floors : (emptied v a s).floors = s.floors := by
  have hkeep : ∀ t : State, (keepTally t).floors = t.floors := fun _ => rfl
  have hbank : (banked v a s).floors = s.floors := rfl
  exact (hkeep _).trans ((runReact_floors (emptySecond_floors v a _)).trans ((runReact_floors (fullSecond_floors v a _)).trans hbank))

theorem fulled_store : (fulled v a s).store = s.store :=
  congrArg Steady.store (fullSecond_untallied v a (banked v a s))

theorem fulled_emptyCount : (fulled v a s).charge.tally.emptyCount = s.charge.tally.emptyCount := by
  have htally : (fulled v a s).charge.tally = (fullSecond v a (banked v a s)).1.charge.tally :=
    congrArg Steady.tally (runReact_steady (fullSecond v a) (banked v a s))
  rw [htally, fullSecond_tally, fullTally_emptyCount]
  exact (moveCharge_counts s.charge.tally a).2

end

/-- A cascade that begins with a notice, from its second act on. -/
theorem run_raise_cons_follows (g : Group) (c : BitVec 32) (a : Act) (l : List Act) (s : State) :
    (perform a { st := raise g c s, work := l }).st.Follows (run (.raise g c :: a :: l) s) :=
  settle_follows 9998 (perform a { st := raise g c s, work := l })

/-- R35: FLOAT waits in a link that is not idle. -/
theorem postFloat_busy {i : Fin 12} (hr : recordOf s .solar = some i) (hb : s.link.phase ≠ .idle) :
    (postFloat s).1 = setLink (fun k => { k with solar := true }) s := by
  unfold postFloat
  rw [hr]
  exact chooseIfIdle_of_busy hb

/-- R47, R35: the acts of a full synchronisation post FLOAT. -/
theorem run_postFloat {i : Fin 12} {c : BitVec 32} (hr : recordOf s .solar = some i) (hb : s.link.phase ≠ .idle) :
    (run [.raise .energy c, .postFloat] s).link.phase ≠ .idle ∧ (run [.raise .energy c, .postFloat] s).link.solar = true := by
  have hrun := run_raise_cons_follows .energy c .postFloat [] s
  have hfirst : (perform .postFloat { st := raise .energy c s, work := [] }).st =
        setLink (fun k => { k with solar := true }) (raise .energy c s) :=
    postFloat_busy (s := raise .energy c s) hr hb
  rw [hfirst] at hrun
  obtain ⟨hphase, hsolar⟩ := hrun.link hb
  exact ⟨fun e => hb (hphase.symm.trans e), hsolar rfl⟩

theorem recordOf_congr (r : Role) (h : t.store = s.store) : recordOf t r = recordOf s r := by
  unfold recordOf roleOf cfg
  rw [roster_congr h, h]

/-- R47 at the second close that reaches the count. -/
theorem fulled_eq {v : Nat} {a : Int} (h : reaches (fullCondition s v a) s.charge.tally.fullCount 600 = true) :
    fulled v a s = run [.raise .energy (bit 4), .postFloat]
      (socEval (setTally (fun t => { t with charge := t.capacity, acc := 0, synced := true, fullCount := 600 }) (banked v a s))) := by
  have hcount : (banked v a s).charge.tally.fullCount = s.charge.tally.fullCount := (moveCharge_counts s.charge.tally a).1
  have hreached : reaches (fullCondition (banked v a s) v a) (banked v a s).charge.tally.fullCount 600 = true := by
    rw [hcount]; exact h
  rw [fulled, runReact, fullSecond_reached hreached]

/-- R47: a full synchronisation is told. -/
theorem fulled_noticed {v : Nat} {a : Int} (h : reaches (fullCondition s v a) s.charge.tally.fullCount 600 = true) :
    Noticed (fulled v a s) .energy 4 := by
  rw [fulled_eq h]
  exact run_raise_noticed .energy (by decide) _ _

/-- R47, R35: it posts FLOAT. -/
theorem fulled_solar {v : Nat} {a : Int} (h : reaches (fullCondition s v a) s.charge.tally.fullCount 600 = true) {i : Fin 12}
    (hr : recordOf s .solar = some i) (hb : s.link.phase ≠ .idle) :
    (fulled v a s).link.phase ≠ .idle ∧ (fulled v a s).link.solar = true := by
  have hsynced : ∀ f, (socEval (setTally f (banked v a s))).store = s.store ∧ (socEval (setTally f (banked v a s))).link = s.link :=
    fun _ => ⟨rfl, rfl⟩
  rw [fulled_eq h]
  obtain ⟨hstore, hlink⟩ := hsynced fun t => { t with charge := t.capacity, acc := 0, synced := true, fullCount := 600 }
  exact run_postFloat ((recordOf_congr .solar hstore).trans hr) (by rw [hlink]; exact hb)

/-- R48: an empty synchronisation is told. -/
theorem emptied_noticed {v : Nat} {a : Int} (h : reaches (emptyCondition s v a) s.charge.tally.emptyCount 60 = true) :
    Noticed (runReact (emptySecond v a) (fulled v a s)) .energy 5 := by
  have hreached : reaches (emptyCondition (fulled v a s) v a) (fulled v a s).charge.tally.emptyCount 60 = true := by
    rw [fulled_emptyCount, ← h]
    unfold emptyCondition cfg
    rw [fulled_store]
  rw [runReact, emptySecond_reached hreached]
  exact run_raise_noticed .energy (by decide) _ _

/-- R55: the second close that enters the voltage floor. -/
theorem floorSecond_entry {v : Nat} (hf : s.charge.floor = false)
    (h : reaches (decide (v ≤ Config.floorEntryMv)) s.charge.floorEntry Config.floorEntryHold = true) :
    floorSecond v s = ({ s with charge := { s.charge with floor := true, floorExit := 0, floorEntry := Config.floorEntryHold } },
      [.raise .energy (bit 1)]) :=
  (if_neg (by rw [hf]; decide)).trans (if_pos h)

/-- R55: the second close that leaves it. -/
theorem floorSecond_exit {v : Nat} (hf : s.charge.floor = true)
    (h : reaches (decide (Config.floorExitMv ≤ v)) s.charge.floorExit Config.floorExitHold = true) :
    floorSecond v s = ({ s with charge := { s.charge with floor := false, floorEntry := 0, floorExit := Config.floorExitHold } },
      [.raise .energy (bit 1)]) :=
  (if_pos hf).trans (if_pos h)

/-- The state at the shed level, where the floor changes. -/
theorem floored_changed {v : Nat} {a : Int} {c : Charge} (h : floorSecond v (emptied v a s) =
    ({ emptied v a s with charge := c }, [.raise .energy (bit 1)])) :
    (floored v a s).floors = (c.floor, c.floorEntry, c.floorExit) ∧ Noticed (floored v a s) .energy 1 := by
  unfold floored
  refine ⟨?_, ?_⟩
  · exact (congrArg (fun x : Steady => (x.floor, x.floorEntry, x.floorExit)) (runReact_steady _ _) :).trans (by rw [h]; rfl)
  · rw [runReact, h]
    exact run_raise_noticed .energy (by decide) _ _

/-- R55: the entry of the voltage floor. -/
theorem floored_entry {l : List Sample} (h : meetsFloorEntry l s = true) :
    (floored (meanVolts l) (meanAmps l) s).floors = (true, Config.floorEntryHold, 0) ∧
      Noticed (floored (meanVolts l) (meanAmps l) s) .energy 1 := by
  obtain ⟨hf, hcount⟩ : s.charge.floor = false ∧
      reaches (decide (meanVolts l ≤ Config.floorEntryMv)) s.charge.floorEntry Config.floorEntryHold = true := by
    simpa [meetsFloorEntry] using h
  have hfloors := emptied_floors (meanVolts l) (meanAmps l) s
  simp only [State.floors, Prod.mk.injEq] at hfloors
  obtain ⟨efloor, eentry, -⟩ := hfloors
  exact floored_changed (floorSecond_entry (efloor.trans hf) (by rw [eentry]; exact hcount))

/-- R55: the exit. -/
theorem floored_exit {l : List Sample} (h : meetsFloorExit l s = true) :
    (floored (meanVolts l) (meanAmps l) s).floors = (false, 0, Config.floorExitHold) ∧
      Noticed (floored (meanVolts l) (meanAmps l) s) .energy 1 := by
  obtain ⟨hf, hcount⟩ : s.charge.floor = true ∧
      reaches (decide (Config.floorExitMv ≤ meanVolts l)) s.charge.floorExit Config.floorExitHold = true := by
    simpa [meetsFloorExit] using h
  have hfloors := emptied_floors (meanVolts l) (meanAmps l) s
  simp only [State.floors, Prod.mk.injEq] at hfloors
  obtain ⟨efloor, -, eexit⟩ := hfloors
  exact floored_changed (floorSecond_exit (efloor.trans hf) (by rw [eexit]; exact hcount))

/-! ### The rows -/

/-- A row that names a threshold, where the second reaches it: the second close, the digest apart. -/
theorem live_threshold_met {f : State → Bool} {l : List Sample} (hr : s.pins.reset = false) (h : f s = true) :
    ∃ d, live (thresholdClose f l) s = (secondClose l s).withDigest d := by
  obtain ⟨d, hd⟩ := live_eq (f := thresholdClose f l) hr
  have hclose : thresholdClose f l s = secondClose l s := if_pos h
  exact ⟨d, by rw [hd, hclose]; rfl⟩

/-- Where it does not, nothing happens. -/
theorem live_threshold_unmet {f : State → Bool} {l : List Sample} (hr : s.pins.reset = false) (h : f s = false) :
    (live (thresholdClose f l) s).sansDigest = s.sansDigest := by
  have hclose : thresholdClose f l s = s := if_neg (by rw [h]; decide)
  rw [live_sansDigest hr, hclose]

theorem secondTally_full {l : List Sample} (hf : meetsFull l s = true) (he : meetsEmpty l s = false) :
    let x := secondTally (meanVolts l) (meanAmps l) s
    x.charge = s.charge.tally.capacity ∧ x.acc = 0 ∧ x.synced = true ∧ x.fullCount = 600 := by
  have h := secondTally_eq l s
  simp only [hf, he, if_true, Bool.false_eq_true, if_false] at h
  rw [h]
  exact ⟨moveCharge_capacity _ _, rfl, rfl, rfl⟩

theorem secondTally_empty {l : List Sample} (he : meetsEmpty l s = true) :
    let x := secondTally (meanVolts l) (meanAmps l) s
    x.charge = 0 ∧ x.acc = 0 ∧ x.synced = true ∧ x.emptyCount = 60 := by
  have h := secondTally_eq l s
  simp only [he, if_true] at h
  rw [h]
  exact ⟨rfl, rfl, rfl, rfl⟩

/-- What a second close leaves of the time, the tally and the voltage floor. -/
theorem secondClose_keeps (l : List Sample) (s : State) : (secondClose l s).time = s.time + 1 ∧
    (secondClose l s).charge.tally = secondTally (meanVolts l) (meanAmps l) s ∧
    (secondClose l s).floors = (floored (meanVolts l) (meanAmps l) (tick s)).floors := by
  have hlasting := (secondClose_leaves l s).1
  obtain ⟨htally, -, hsteady, -⟩ := chargeSecond_leaves (meanVolts l) (meanAmps l) (tick s)
  have hfloors : (chargeSecond (meanVolts l) (meanAmps l) (tick s)).floors = (floored (meanVolts l) (meanAmps l) (tick s)).floors := by
    rw [chargeSecond_eq]
    exact congrArg (fun x : Steady => (x.floor, x.floorEntry, x.floorExit)) (run_steady [.shedEval] _)
  generalize secondClose l s = t at *
  generalize chargeSecond (meanVolts l) (meanAmps l) (tick s) = c at *
  exact ⟨(congrArg Steady.time hlasting :).trans (congrArg Steady.time hsteady),
    (congrArg Steady.tally hlasting :).trans htally,
    (congrArg (fun x : Steady => (x.floor, x.floorEntry, x.floorExit)) hlasting :).trans hfloors⟩

/-- R56: with the voltage floor the shed level is at least 3. -/
theorem three_le_shedOf (h : s.charge.floor = true) : 3 ≤ shedOf s := by
  unfold shedOf
  rw [if_pos h]
  omega

/-- Settles O46: each row's threshold met is one branch of the second's steps, whose notice and result the later steps keep; unmet, the row
does nothing. -/
theorem syncsAndFloorAtTheirCounts : Obligations.SyncsAndFloorAtTheirCounts := by
  intro s l hr
  obtain ⟨htime, htally, hfloors⟩ := secondClose_keeps l s
  have hshed := (secondClose_leaves l s).2
  have hlater := (secondClose_passes l s).heeds
  refine ⟨fun hf he => ?_, fun he => ?_, fun hf => ?_, fun hf => ?_, fun h => ⟨_, rfl, live_threshold_unmet hr h⟩,
    fun h => ⟨_, rfl, live_threshold_unmet hr h⟩, fun h => ⟨_, rfl, live_threshold_unmet hr h⟩,
    fun h => ⟨_, rfl, live_threshold_unmet hr h⟩⟩
  · obtain ⟨d, hd⟩ := live_threshold_met (f := meetsFull l) (l := l) hr hf
    have hexec : exec (.fullSync l) s = .next ((secondClose l s).withDigest d) := congrArg Host.Outcome.next hd
    have hreached : reaches (fullCondition (tick s) (meanVolts l) (meanAmps l)) (tick s).charge.tally.fullCount 600 = true := hf
    have hheeds := (fulled_heeds (meanVolts l) (meanAmps l) (tick s)).trans hlater
    have hnotice := hheeds.notices _ _ (fulled_noticed hreached)
    have hsolar : ∀ i, recordOf s .solar = some i → s.link.phase ≠ .idle → (secondClose l s).link.solar = true :=
        fun i hi hb => by
      obtain ⟨hbusy, hposted⟩ := fulled_solar hreached (s := tick s) hi hb
      exact hheeds.solar hbusy hposted
    obtain ⟨hcharge, hacc, hsynced, hcount⟩ := secondTally_full hf he
    rw [← htally] at hcharge hacc hsynced hcount
    generalize secondClose l s = t at *
    exact ⟨_, hexec, htime, hcharge, hacc, hsynced, hcount, hnotice, hsolar⟩
  · obtain ⟨d, hd⟩ := live_threshold_met (f := meetsEmpty l) (l := l) hr he
    have hexec : exec (.emptySync l) s = .next ((secondClose l s).withDigest d) := congrArg Host.Outcome.next hd
    have hreached : reaches (emptyCondition (tick s) (meanVolts l) (meanAmps l)) (tick s).charge.tally.emptyCount 60 = true := he
    have hnotice := ((emptied_heeds (meanVolts l) (meanAmps l) (tick s)).trans hlater).notices _ _ (emptied_noticed hreached)
    obtain ⟨hcharge, hacc, hsynced, hcount⟩ := secondTally_empty he
    rw [← htally] at hcharge hacc hsynced hcount
    generalize secondClose l s = t at *
    exact ⟨_, hexec, htime, hcharge, hacc, hsynced, hcount, hnotice⟩
  · obtain ⟨d, hd⟩ := live_threshold_met (f := meetsFloorEntry l) (l := l) hr hf
    have hexec : exec (.voltageFloorEntry l) s = .next ((secondClose l s).withDigest d) := congrArg Host.Outcome.next hd
    obtain ⟨hentered, htold⟩ := floored_entry (s := tick s) hf
    have hnotice := ((floored_heeds (meanVolts l) (meanAmps l) (tick s)).trans hlater).notices _ _ htold
    have hnow := hfloors.trans hentered
    generalize secondClose l s = t at *
    simp only [State.floors, Prod.mk.injEq] at hnow
    obtain ⟨hfloor, -, hexit⟩ := hnow
    exact ⟨_, hexec, htime, hfloor, hexit, hshed ▸ three_le_shedOf hfloor, hshed, hnotice⟩
  · obtain ⟨d, hd⟩ := live_threshold_met (f := meetsFloorExit l) (l := l) hr hf
    have hexec : exec (.voltageFloorExit l) s = .next ((secondClose l s).withDigest d) := congrArg Host.Outcome.next hd
    obtain ⟨hleft, htold⟩ := floored_exit (s := tick s) hf
    have hnotice := ((floored_heeds (meanVolts l) (meanAmps l) (tick s)).trans hlater).notices _ _ htold
    have hnow := hfloors.trans hleft
    generalize secondClose l s = t at *
    simp only [State.floors, Prod.mk.injEq] at hnow
    obtain ⟨hfloor, hentry, -⟩ := hnow
    exact ⟨_, hexec, htime, hfloor, hentry, hshed, hnotice⟩

end Sys2Proof.Machine
end

section
/-!
PROOF. The second closes that enter REST and that turn a reading stale (O47).
-/
namespace Sys2Proof.Machine

variable {s t u : State} {i : Fin 12}

/-! ### The records through a second -/

theorem node_congr (h : t.steady = s.steady) (i : Fin 12) : node t i = node s i :=
  congrArg (fun x : Steady => x.nodes[i]) h

theorem node_run (l : List Act) (s : State) (i : Fin 12) : node (run l s) i = node s i := node_congr (run_steady l s) i

theorem node_runReact (f : State → React) (s : State) (i : Fin 12) : node (runReact f s) i = node (f s).1 i := node_run _ _ i

theorem handStale_nodes (j i : Fin 12) (s : State) : node (handStale j s).1 i = node s i := by
  unfold handStale handReading
  split
  · rfl
  · split <;> rfl

/-- R32: what the test of a record's age leaves of the records. -/
theorem testStale_node (j i : Fin 12) (s : State) : node (testStale j s).1 i =
    if i = j ∧ (node s j).stale = false ∧ staleLimit s j < (node s j).age then { node s j with stale := true } else node s i := by
  unfold testStale
  simp only
  by_cases h : (!(node s j).stale && decide (staleLimit s j < (node s j).age)) = true
  · have hc : (node s j).stale = false ∧ staleLimit s j < (node s j).age := by simpa using h
    rw [if_pos h]
    have hset : node (setNode j { node s j with stale := true } s) i = if i = j then { node s j with stale := true } else node s i :=
      node_setNode j i _ s
    have hgoal : ∀ x : React, node x.1 i = node (setNode j { node s j with stale := true } s) i →
        node x.1 i = if i = j ∧ (node s j).stale = false ∧ staleLimit s j < (node s j).age then { node s j with stale := true }
          else node s i := fun x hx => by rw [hx, hset]; simp [hc]
    apply hgoal
    split
    · exact handStale_nodes j i _
    · rfl
  · have hc : ¬ ((node s j).stale = false ∧ staleLimit s j < (node s j).age) := by simpa using h
    rw [if_neg h, if_neg fun e => hc e.2]

theorem ageNodes_other (l : List (Fin 12)) : ∀ s : State, i ∉ l → node (ageNodes l s) i = node s i := by
  induction l with
  | nil => exact fun _ _ => rfl
  | cons j l ih =>
    intro s hi
    obtain ⟨hj, hl⟩ := not_or.1 (mt List.mem_cons.2 hi)
    rw [ageNodes, ih _ hl, node_runReact, testStale_node, if_neg fun e => hj e.1, node_setNode, if_neg hj]

/-- R32: a record whose age passes its limit in this second. -/
theorem ageNodes_stale (l : List (Fin 12)) : ∀ s : State, l.Nodup → i ∈ l →
    (node s i).stale = false → (node s i).age < 65535 →
    staleLimit s i < (node s i).age + 1 →
    node (ageNodes l s) i = { node s i with age := (node s i).age + 1, stale := true } := by
  induction l with
  | nil => exact fun _ _ h => absurd h (by simp)
  | cons j l ih =>
    intro s hd hi hs ha hlimit
    obtain ⟨hj, hd⟩ := List.nodup_cons.1 hd
    rw [ageNodes]
    simp only
    generalize hx : setNode j { node s j with age := min ((node s j).age + 1) Config.ageMax } s = x
    have hnode : node x i = if i = j then { node s j with age := min ((node s j).age + 1) Config.ageMax } else node s i := by
      rw [← hx]; exact node_setNode j i _ s
    have hstore : x.store = s.store := by rw [← hx]; rfl
    by_cases e : i = j
    · subst e
      rw [if_pos rfl] at hnode
      have hage : min ((node s i).age + 1) Config.ageMax = (node s i).age + 1 := Nat.min_eq_left (show _ ≤ 65535 by omega)
      rw [hage] at hnode
      have hlim : staleLimit x i = staleLimit s i := by rw [staleLimit, staleLimit, cfg, cfg, hstore, hnode]
      rw [ageNodes_other l _ hj, node_runReact, testStale_node, hnode, hlim, if_pos ⟨rfl, hs, hlimit⟩]
    · rw [if_neg e] at hnode
      have hkept : node (runReact (testStale j) x) i = node s i := by
        rw [node_runReact, testStale_node, if_neg fun h => e h.1, hnode]
      have hlim : staleLimit (runReact (testStale j) x) i = staleLimit s i := by
        rw [staleLimit, staleLimit, cfg, cfg, hkept,
          show (runReact (testStale j) x).store = s.store from
            (congrArg Steady.store ((runReact_passes (testStale_passes j x)).lasting)).trans hstore]
      rw [ih _ hd (by simpa [e] using hi) (by rw [hkept]; exact hs) (by rw [hkept]; exact ha) (by rw [hkept, hlim]; exact hlimit), hkept]

theorem chargeSecond_node (v : Nat) (a : Int) (s : State) (i : Fin 12) : node (chargeSecond v a s) i = node s i :=
  (congrArg (fun x : Steady => x.nodes[i]) (chargeSecond_leaves v a s).2.2.1 :)

/-- A record with, at most, another time to poll it. -/
def SameButDue (x y : Node) : Prop := y = { x with due := y.due }

theorem wake_node (s : State) (i : Fin 12) : SameButDue (node s i) (node (wake s) i) := by
  have hrun : ∀ i, node (run [.signal .rest 0] (setPower .active s)) i = node s i := node_run _ _
  unfold wake
  generalize run [.signal .rest 0] (setPower .active s) = w at hrun ⊢
  rw [← hrun i]
  show SameButDue (node w i) (node (allDue (nowMs s 0) w) i)
  unfold allDue SameButDue
  by_cases hi : i ∈ roster w
  · rw [node_overNodes _ _ _ (roster_nodup w) hi]
  · rw [node_overNodes_of_not_mem _ _ _ hi]

theorem windSecond_node (s : State) (i : Fin 12) : node (windSecond s).1 i = node s i := by
  unfold windSecond; simp only; (repeat' split) <;> rfl

theorem windClose_node (s : State) (i : Fin 12) : SameButDue (node s i) (node (windClose s) i) := by
  unfold windClose
  simp only
  rw [node_runReact, windSecond_node]
  split
  · unfold wakeEvent; split
    · exact wake_node s i
    · exact rfl
  · exact rfl

/-- R59: an idle timer short of the rest delay leaves the records alone. -/
theorem idleSecond_node (h : s.charge.idle + 1 < Image.restDelay (cfg s)) (i : Fin 12) : node (idleSecond s) i = node s i := by
  unfold idleSecond; split
  · simp only
    rw [if_neg (Nat.not_le.2 h)]
    rfl
  · rfl

/-! ### The idle timer in the steps at the tally -/

/-- The idle timer stays or restarts. -/
def Idles (s t : State) : Prop := t.charge.idle = s.charge.idle ∨ t.charge.idle = 0

theorem Idles.trans (h : Idles s t) (g : Idles t u) : Idles s u := by
  rcases g with e | e
  · unfold Idles; rw [e]; exact h
  · exact .inr e

theorem runReact_idles {f : State → React} (h : (f s).1.charge.idle = s.charge.idle) : Idles s (runReact f s) := by
  have hrun : Idles (f s).1 (runReact f s) := (run_follows (f s).2 (f s).1).idle
  exact Idles.trans (.inl h) hrun

theorem chargeSecond_idle (v : Nat) (a : Int) (s : State) : Idles s (chargeSecond v a s) := by
  have hfull : ∀ t, (fullSecond v a t).1.charge.idle = t.charge.idle := fun t => by unfold fullSecond; simp only; split <;> rfl
  have hempty : ∀ t, (emptySecond v a t).1.charge.idle = t.charge.idle := fun t => by unfold emptySecond; simp only; split <;> rfl
  have hfloor : ∀ t, (floorSecond v t).1.charge.idle = t.charge.idle := fun t => by
    unfold floorSecond; simp only; (repeat' split) <;> rfl
  have hbank : Idles s (banked v a s) := .inl rfl
  have hemptied : Idles (runReact (emptySecond v a) (fulled v a s)) (emptied v a s) := .inl rfl
  exact (((hbank.trans (runReact_idles (hfull _))).trans (runReact_idles (hempty _))).trans hemptied).trans
    ((runReact_idles (hfloor _)).trans (run_follows [.shedEval] _).idle)

/-! ### A reading gone stale -/

theorem mem_roster {n : Fin 12} : n ∈ roster s ↔ n.val < Image.rosterCount (cfg s) := by simp [roster]

theorem measure_node (old s : State) (i : Fin 12) : node (measure old (measureOutlets s)) i = node s i := rfl

theorem measure_frame (old s : State) : (measure old (measureOutlets s)).charge = s.charge ∧
    (measure old (measureOutlets s)).port = s.port := ⟨rfl, rfl⟩

/-- R32: in a second without an entry into REST. -/
theorem secondClose_stale {l : List Sample} (hm : meetsStale i s = true) (ha : (node s i).age < 65535)
    (hidle : s.charge.idle + 1 < Image.restDelay (cfg s)) :
    (node (secondClose l s) i).stale = true ∧ (node (secondClose l s) i).age = (node s i).age + 1 := by
  obtain ⟨⟨hroster, hfresh⟩, hlimit⟩ : (i.val < Image.rosterCount (cfg s) ∧ (node s i).stale = false) ∧
      staleLimit s i < (node s i).age + 1 := by simpa [meetsStale] using hm
  have hnode := chargeSecond_node (meanVolts l) (meanAmps l) (tick s) i
  have hrest := chargeSecond_idle (meanVolts l) (meanAmps l) (tick s)
  have hsteady := (chargeSecond_leaves (meanVolts l) (meanAmps l) (tick s)).2.2.1
  have htick : node (tick s) i = node s i ∧ (tick s).charge.idle = s.charge.idle := ⟨rfl, rfl⟩
  unfold secondClose
  generalize chargeSecond (meanVolts l) (meanAmps l) (tick s) = c at hnode hrest hsteady ⊢
  have hcstore : c.store = s.store := congrArg Steady.store hsteady
  have hshort : c.charge.idle + 1 < Image.restDelay (cfg c) := by
    have hc : cfg c = cfg s := by rw [cfg, cfg, hcstore]
    rcases hrest with e | e <;> rw [hc, e]
    · exact hidle
    · exact Nat.lt_of_le_of_lt (Nat.le_add_left _ _) hidle
  have hidled := idleSecond_node hshort i
  have hwind := windClose_node (idleSecond c) i
  have hstore : (windClose (idleSecond c)).store = s.store :=
    (congrArg Steady.store ((idleSecond_passes c).trans (windClose_passes _)).lasting :).trans hcstore
  simp only
  generalize windClose (idleSecond c) = w at hwind hstore ⊢
  rw [hidled, hnode, htick.1] at hwind
  have hmem : i ∈ roster w := by rw [roster_congr hstore]; exact mem_roster.2 hroster
  have hwlimit : staleLimit w i = staleLimit s i := by rw [staleLimit, staleLimit, cfg, cfg, hstore, hwind]
  have hage : (node w i).age = (node s i).age := by rw [hwind]
  have hstale := ageNodes_stale (roster w) w (roster_nodup w) hmem (by rw [hwind]; exact hfresh) (by rw [hage]; exact ha)
    (by rw [hwlimit, hage]; exact hlimit)
  rw [measure_node, hstale, hage]
  exact ⟨rfl, rfl⟩

theorem usable_of_stale {x : Node} (h : x.stale = true) : usable x = none := by simp [usable, h]

/-! ### A second that changes nothing at the tally -/

/-- The charge monitor's part of a state changed, but for the power state, the idle timer, the shed level and its inputs other than the
SoC level. -/
structure Recharged (s t : State) : Prop where
  only : ∃ c r, t = { s with charge := c, retained := r }
  power : t.charge.power = s.charge.power
  idle : t.charge.idle = s.charge.idle
  shedLevel : t.charge.shedLevel = s.charge.shedLevel
  hostFloor : t.charge.hostFloor = s.charge.hostFloor
  floor : t.charge.floor = s.charge.floor
  shore : t.charge.shore = s.charge.shore

theorem Recharged.trans (h : Recharged s t) (g : Recharged t u) : Recharged s u where
  only := by
    obtain ⟨c, r, rfl⟩ := h.only
    obtain ⟨c', r', rfl⟩ := g.only
    exact ⟨c', r', rfl⟩
  power := g.power.trans h.power
  idle := g.idle.trans h.idle
  shedLevel := g.shedLevel.trans h.shedLevel
  hostFloor := g.hostFloor.trans h.hostFloor
  floor := g.floor.trans h.floor
  shore := g.shore.trans h.shore

theorem Recharged.idleBroken (h : Recharged s t) : idleBroken t = idleBroken s := by
  obtain ⟨c, r, rfl⟩ := h.only
  rfl

theorem runReact_of_nil {f : State → React} (h : f s = (t, [])) : runReact f s = t := by
  rw [runReact, h]
  exact run_nil t

theorem run_shedEval_same (h : shedOf s = s.charge.shedLevel) : run [.shedEval] s = s := by
  have hsame : shedEval s = (s, []) := if_pos h
  have hfirst : firstActs 1 { st := s, work := [.shedEval] } = { st := s, work := [] } := by
    show perform .shedEval { st := s, work := [] } = _
    rw [perform, Run.react, hsame]
    rfl
  rw [run_first 1 _ _ (by decide) (by rw [hfirst]), hfirst]

/-- R55: a second that neither enters nor leaves the voltage floor. -/
theorem floorSecond_counted {v : Nat} (hin : (!s.charge.floor && reaches (decide (v ≤ Config.floorEntryMv)) s.charge.floorEntry
    Config.floorEntryHold) = false) (hout : (s.charge.floor && reaches (decide (Config.floorExitMv ≤ v)) s.charge.floorExit
    Config.floorExitHold) = false) :
    ∃ c, floorSecond v s = ({ s with charge := c }, []) ∧ Recharged s { s with charge := c } ∧ c.socLevel = s.charge.socLevel := by
  cases hf : s.charge.floor with
  | true =>
    rw [hf, Bool.true_and] at hout
    refine ⟨_, (if_pos hf).trans (if_neg (by rw [hout]; decide)), ⟨⟨_, _, rfl⟩, rfl, rfl, rfl, rfl, rfl, rfl⟩, rfl⟩
  | false =>
    rw [hf, Bool.not_false, Bool.true_and] at hin
    refine ⟨_, (if_neg (by rw [hf]; decide)).trans (if_neg (by rw [hin]; decide)),
      ⟨⟨_, _, rfl⟩, rfl, rfl, rfl, rfl, rfl, rfl⟩, rfl⟩

/-- The steps at the tally where no synchronisation, no floor change and no new shed level falls in this second. -/
theorem chargeSecond_quiet {l : List Sample} (hfull : meetsFull l s = false) (hempty : meetsEmpty l s = false)
    (hin : meetsFloorEntry l s = false) (hout : meetsFloorExit l s = false)
    (hshed : max s.charge.hostFloor (max (if s.charge.floor then 3 else 0) (if s.charge.shore then 0 else
      nextSocLevel (cfg s) ((moveCharge s.charge.tally (meanAmps l)).charge * 1000 / s.charge.tally.capacity) s.charge.socLevel)) =
      s.charge.shedLevel) : Recharged s (chargeSecond (meanVolts l) (meanAmps l) s) := by
  have hbank : Recharged s (banked (meanVolts l) (meanAmps l) s) := ⟨⟨_, _, rfl⟩, rfl, rfl, rfl, rfl, rfl, rfl⟩
  have hsoc : (banked (meanVolts l) (meanAmps l) s).charge.socLevel =
      nextSocLevel (cfg s) ((moveCharge s.charge.tally (meanAmps l)).charge * 1000 / s.charge.tally.capacity) s.charge.socLevel := by
    rw [← moveCharge_capacity s.charge.tally (meanAmps l)]; rfl
  have cfull := (moveCharge_counts s.charge.tally (meanAmps l)).1
  have hcounted : reaches (fullCondition (banked (meanVolts l) (meanAmps l) s) (meanVolts l) (meanAmps l))
      (banked (meanVolts l) (meanAmps l) s).charge.tally.fullCount 600 = false := by
    rw [show (banked (meanVolts l) (meanAmps l) s).charge.tally.fullCount = _ from cfull]
    exact hfull
  obtain ⟨f, hfulled⟩ : ∃ f, fulled (meanVolts l) (meanAmps l) s = setTally f (banked (meanVolts l) (meanAmps l) s) :=
    ⟨_, runReact_of_nil (fullSecond_counted hcounted)⟩
  have hreached : reaches (emptyCondition (fulled (meanVolts l) (meanAmps l) s) (meanVolts l) (meanAmps l))
      (fulled (meanVolts l) (meanAmps l) s).charge.tally.emptyCount 60 = false := by
    rw [fulled_emptyCount, ← hempty]
    unfold emptyCondition cfg
    rw [fulled_store]
    rfl
  obtain ⟨g, hemptied⟩ : ∃ g, runReact (emptySecond (meanVolts l) (meanAmps l)) (fulled (meanVolts l) (meanAmps l) s) =
      setTally g (fulled (meanVolts l) (meanAmps l) s) := ⟨_, runReact_of_nil (emptySecond_counted hreached)⟩
  have hfloors := emptied_floors (meanVolts l) (meanAmps l) s
  rw [chargeSecond_eq]
  unfold floored
  have hcharged : Recharged s (emptied (meanVolts l) (meanAmps l) s) ∧
      (emptied (meanVolts l) (meanAmps l) s).charge.socLevel = (banked (meanVolts l) (meanAmps l) s).charge.socLevel := by
    rw [emptied, hemptied, hfulled]
    exact ⟨hbank.trans ⟨⟨_, _, rfl⟩, rfl, rfl, rfl, rfl, rfl, rfl⟩, rfl⟩
  generalize emptied (meanVolts l) (meanAmps l) s = x at hfloors hcharged ⊢
  obtain ⟨hx, hxsoc⟩ := hcharged
  simp only [State.floors, Prod.mk.injEq] at hfloors
  obtain ⟨efloor, eentry, eexit⟩ := hfloors
  obtain ⟨c, hfloor, hc, hcsoc⟩ := floorSecond_counted (s := x) (v := meanVolts l) (by rw [efloor, eentry]; exact hin)
    (by rw [efloor, eexit]; exact hout)
  rw [runReact_of_nil hfloor]
  have hy := hx.trans hc
  have hysoc : ({ x with charge := c } : State).charge.socLevel = _ := hcsoc.trans (hxsoc.trans hsoc)
  generalize ({ x with charge := c } : State) = y at hy hysoc ⊢
  have hsame : shedOf y = y.charge.shedLevel := by
    rw [hy.shedLevel, ← hshed, shedOf, hy.hostFloor, hy.floor, hy.shore, hysoc]
  rw [run_shedEval_same hsame]
  exact hy

/-! ### REST through the later steps -/

/-- In REST, the idle timer at 0, the entry told, the records `l` at the long interval. -/
structure Rested (l : List (Fin 12)) (t : State) : Prop where
  power : t.charge.power = .rest
  idle : t.charge.idle = 0
  told : Noticed t .energy 2
  scaled : ∀ i ∈ l, (node t i).scaled = true

namespace Rested

variable {l : List (Fin 12)}

theorem run (h : Rested l s) (w : List Act) : Rested l (run w s) :=
  have hf := run_follows w s
  ⟨(congrArg Steady.power hf.steady).trans h.power, hf.idle.elim (fun e => e.trans h.idle) id, hf.notices _ _ h.told,
    fun i hi => by rw [node_run]; exact h.scaled i hi⟩

/-- A change of something else. -/
theorem of_eq (h : Rested l s) (hc : t.charge = s.charge) (hp : t.port = s.port)
    (hn : ∀ i, (node t i).scaled = (node s i).scaled) : Rested l t :=
  ⟨by rw [hc]; exact h.power, by rw [hc]; exact h.idle, by rw [Noticed, hp]; exact h.told,
    fun i hi => (hn i).trans (h.scaled i hi)⟩

theorem runReact {f : State → React} (h : Rested l (f s).1) : Rested l (runReact f s) := h.run _

theorem testStale (h : Rested l s) (j : Fin 12) : Rested l (testStale j s).1 := by
  have hstate : (Machine.testStale j s).1.charge = s.charge ∧ (Machine.testStale j s).1.port = s.port := by
    unfold Machine.testStale handStale handReading
    simp only
    (repeat' split) <;> exact ⟨rfl, rfl⟩
  refine h.of_eq hstate.1 hstate.2 fun i => ?_
  rw [testStale_node]
  split
  · next e => rw [e.1]
  · rfl

theorem ageNodes (w : List (Fin 12)) : ∀ {s : State}, Rested l s → Rested l (ageNodes w s) := by
  induction w with
  | nil => exact id
  | cons j w ih =>
    intro s h
    have hset : Rested l (setNode j { node s j with age := min ((node s j).age + 1) Config.ageMax } s) :=
      h.of_eq rfl rfl fun i => by
        rw [node_setNode]
        split
        · next e => rw [e]
        · rfl
    exact ih (hset.testStale j).runReact

theorem windClose (h : Rested l s) (hw : windCrossed s = false) : Rested l (windClose s) := by
  have hwind : (windSecond s).1.charge = s.charge ∧ (windSecond s).1.port = s.port := by
    unfold windSecond; simp only; (repeat' split) <;> exact ⟨rfl, rfl⟩
  unfold Machine.windClose
  rw [hw]
  exact (h.of_eq hwind.1 hwind.2 fun i => by rw [windSecond_node]).runReact

end Rested

theorem windCrossed_congr (h : t.wind = s.wind) (hs : t.store = s.store) : windCrossed t = windCrossed s := by
  rw [windCrossed, windCrossed, speedOf_congr h hs, cfg, cfg, hs,
    show t.movers.windSpeed = s.movers.windSpeed from congrArg Prod.snd h]

/-- R59: the second at which the idle timer reaches the rest delay. -/
theorem secondClose_rests {l : List Sample} (hm : meetsRest s = true) (hw : windCrossed s = false)
    (hq : Recharged (tick s) (chargeSecond (meanVolts l) (meanAmps l) (tick s))) : Rested (roster s) (secondClose l s) := by
  obtain ⟨⟨hpower, hidle⟩, hdelay⟩ :
      (s.charge.power = .active ∧ idleBroken s = 0) ∧ Image.restDelay (cfg s) ≤ s.charge.idle + 1 := by
    simpa [meetsRest] using hm
  have htick : (tick s).charge = s.charge ∧ (tick s).store = s.store ∧ (tick s).wind = s.wind ∧
      idleBroken (tick s) = idleBroken s :=
    ⟨rfl, rfl, rfl, rfl⟩
  unfold secondClose
  generalize chargeSecond (meanVolts l) (meanAmps l) (tick s) = c at hq ⊢
  generalize tick s = x at htick hq
  obtain ⟨hxcharge, hxstore, hxwind, hxbroken⟩ := htick
  have hcstore : c.store = s.store := by obtain ⟨_, _, rfl⟩ := hq.only; exact hxstore
  have hcwind : c.wind = s.wind := by obtain ⟨_, _, rfl⟩ := hq.only; exact hxwind
  have hcfg : cfg c = cfg s := by rw [cfg, cfg, hcstore]
  have hcpower : c.charge.power = .active := by rw [hq.power, hxcharge]; exact hpower
  have hcidle : c.charge.idle = s.charge.idle := by rw [hq.idle, hxcharge]
  have henter : idleSecond c = enterRest (setIdle (c.charge.idle + 1) c) := by
    unfold idleSecond
    rw [if_pos ⟨hcpower, hq.idleBroken.trans (hxbroken.trans hidle)⟩]
    exact if_pos (by rw [hcfg, hcidle]; exact hdelay)
  obtain ⟨hrest, hzero, htold, hscaled, -⟩ := enterRest_rests (setIdle (c.charge.idle + 1) c)
  have hroster : roster (setIdle (c.charge.idle + 1) c) = roster s := roster_congr hcstore
  have hrested : Rested (roster s) (idleSecond c) := henter ▸ ⟨hrest, hzero, htold, hroster ▸ hscaled⟩
  have hcross : windCrossed (idleSecond c) = false :=
    (windCrossed_congr ((idleSecond_wind c).trans hcwind)
      ((congrArg Steady.store (idleSecond_passes c).lasting :).trans hcstore)).trans hw
  have haged := (hrested.windClose hcross).ageNodes (roster (windClose (idleSecond c)))
  simp only
  generalize ageNodes (roster (windClose (idleSecond c))) (windClose (idleSecond c)) = y at haged ⊢
  exact haged.of_eq (measure_frame s y).1 (measure_frame s y).2 fun i => by rw [measure_node]

/-- Settles O47: in a second that nothing else touches the idle timer reaches its delay; in one without an entry into REST the record's
age passes its limit. -/
theorem restAndStalenessAtTheirSeconds : Obligations.RestAndStalenessAtTheirSeconds := by
  refine ⟨fun s l hr hm hfull hempty hin hout hw hshed => ?_, fun s l i hr => ⟨fun hm ha hidle => ?_, fun hm => ?_⟩⟩
  · obtain ⟨d, hd⟩ := live_threshold_met (f := meetsRest) (l := l) hr hm
    have hexec : exec (.restEntry l) s = .next ((secondClose l s).withDigest d) := congrArg Host.Outcome.next hd
    have htime := (secondClose_keeps l s).1
    have hrested := secondClose_rests (l := l) hm hw (chargeSecond_quiet (s := tick s) hfull hempty hin hout hshed)
    generalize secondClose l s = t at *
    exact ⟨_, hexec, htime, hrested.power, hrested.idle, hrested.told, hrested.scaled⟩
  · obtain ⟨d, hd⟩ := live_threshold_met (f := meetsStale i) (l := l) hr hm
    have hexec : exec (.readingStale i l) s = .next ((secondClose l s).withDigest d) := congrArg Host.Outcome.next hd
    have htime := (secondClose_keeps l s).1
    obtain ⟨hstale, hage⟩ := secondClose_stale (l := l) hm ha hidle
    generalize secondClose l s = t at *
    exact ⟨_, hexec, htime, hstale, hage, usable_of_stale hstale⟩
  · exact ⟨_, rfl, live_threshold_unmet hr hm⟩

end Sys2Proof.Machine
end

section
/-!
SUPPORT. A signal whose new value changes no term, and the end of a cascade from any of its first points on.
-/
namespace Sys2Proof.Machine

variable {s t u : State} {g : Signal} {v : Nat}

/-- A cascade ends where it ends from any of its first points on. -/
theorem Run.Reaches.run_settle {n : Nat} {l : List Act} {q : Run} (h : Run.Reaches n { st := s, work := l } q)
    (hn : n ≤ cascadeBound) : ∃ k, run l s = settle k q := by
  obtain ⟨k, hk, e⟩ := h
  have hsplit : run l s = settle (k + (cascadeBound - k)) { st := s, work := l } := by
    rw [Nat.add_sub_cancel' (hk.trans hn)]; rfl
  exact ⟨cascadeBound - k, by rw [hsplit, settle_firstActs, e]⟩

/-- One act. -/
theorem Run.Reaches.step {r q : Run} {a : Act} {l : List Act} (hw : r.work = a :: l) (h : perform a { r with work := l } = q) :
    Run.Reaches 1 r q := ⟨1, le_rfl, by simp only [firstActs, hw]; exact h⟩

theorem Run.Reaches.mono {a b : Nat} {r q : Run} (h : Run.Reaches a r q) (hab : a ≤ b) : Run.Reaches b r q := by
  obtain ⟨k, hk, e⟩ := h
  exact ⟨k, hk.trans hab, e⟩

/-! ### An evaluation that changes no flag -/

theorem builtInEval_settled {x : Signals} {sel : BuiltIn → Bool} : ∀ {bs : List BuiltIn} {fs : List Bool},
    (builtInEval x sel bs fs).filterMap (·.2) = [] → ∀ (y : Signals) (sel' : BuiltIn → Bool),
      builtInEval y sel' bs ((builtInEval x sel bs fs).map (·.1)) = builtInEval y sel' bs fs
  | [], _, _, _, _ => by simp only [builtInEval]
  | _ :: _, [], _, _, _ => by simp only [builtInEval, List.map_nil]
  | b :: bs, f :: fs, h, y, sel' => by
    obtain ⟨hhead, htail⟩ := List.forall_mem_cons.1 (List.filterMap_eq_nil_iff.1 h)
    have hkept : (if sel b then b.holds x else f) = f := by
      by_contra hne
      exact absurd ((if_neg hne).symm.trans hhead) (by simp)
    simp only [builtInEval, List.map_cons, hkept]
    rw [builtInEval_settled (List.filterMap_eq_nil_iff.2 htail)]

theorem termEval_settled {x : Signals} {sel : TermRec → Bool} {l : List Term} (h : (l.map (termEval x sel)).filterMap (·.2) = []) :
    (l.map (termEval x sel)).map (·.1) = l := by
  rw [List.map_map]
  refine (List.map_congr_left fun t ht => ?_).trans (List.map_id l)
  have hnone := List.filterMap_eq_nil_iff.1 h (termEval x sel t) (List.mem_map_of_mem ht)
  unfold termEval at hnone ⊢
  simp only [ite_eq_left_iff, reduceCtorEq, imp_false, not_not] at hnone
  simp only [Function.comp, hnone, id]

/-- After an evaluation without a change any other finds what it would have found before. -/
theorem evaluate_settled {f : BuiltIn → Bool} {h : TermRec → Bool} {x : State} (hnil : (evaluate f h x).2 = [])
    (f' : BuiltIn → Bool) (h' : TermRec → Bool) (q : Signal) (w : Nat) :
    (evaluate f' h' (setSignal q w (evaluate f h x).1)).2 = (evaluate f' h' (setSignal q w x)).2 := by
  obtain ⟨hbuilt, hterms⟩ := List.append_eq_nil_iff.1 hnil
  simp only [evaluate, setSignal, builtInEval_settled hbuilt, termEval_settled hterms]

/-- `t` is `s` with the signal at its new value, the terms' flags and the digest aside. -/
structure Heard (g : Signal) (v : Nat) (s t : State) : Prop where
  rest : ∃ k d, t = { s with interlock := k, ram := { s.ram with digest := d } }
  signals : t.interlock.signals = s.interlock.signals.set g.index v
  awning : t.interlock.blockAwning = s.interlock.blockAwning
  step : t.interlock.blockStep = s.interlock.blockStep
  quiet : ∀ q w, Quiet (setSignal g v s) q w → Quiet t q w

theorem Heard.outlets (h : Heard g v s t) : t.outlets = s.outlets := by obtain ⟨_, _, rfl⟩ := h.rest; rfl
theorem Heard.lights (h : Heard g v s t) : t.lights = s.lights := by obtain ⟨_, _, rfl⟩ := h.rest; rfl
theorem Heard.movers (h : Heard g v s t) : t.movers = s.movers := by obtain ⟨_, _, rfl⟩ := h.rest; rfl
theorem Heard.climate (h : Heard g v s t) : t.climate = s.climate := by obtain ⟨_, _, rfl⟩ := h.rest; rfl
theorem Heard.store (h : Heard g v s t) : t.store = s.store := by obtain ⟨_, _, rfl⟩ := h.rest; rfl
theorem Heard.charge (h : Heard g v s t) : t.charge = s.charge := by obtain ⟨_, _, rfl⟩ := h.rest; rfl

theorem handOut_nil : handOut [] = [.notices [] false, .evalEnd] := rfl

/-- The end of an evaluation's hand-out; what the owners asked waits on only inside an action or an evaluation. -/
theorem evalEnd_reaches {r : Run} (hd : r.acting ≠ 0 ∨ r.evals ≠ 0 ∨ r.deferred = []) (l : List Act) :
    Run.Reaches 2 { r with evals := r.evals + 1, work := .evalEnd :: l } { r with work := l } := by
  by_cases hdone : r.acting = 0 ∧ r.evals = 0
  · have hnone : r.deferred = [] := (hd.resolve_left (· hdone.1)).resolve_left (· hdone.2)
    refine ⟨2, le_rfl, ?_⟩
    simp only [firstActs, perform, Run.evalEnd, Run.drainIfDone, Nat.add_sub_cancel, if_pos hdone, Run.push, List.cons_append,
      List.nil_append, Run.drain, hnone]
  · refine ⟨1, by omega, ?_⟩
    simp only [firstActs, perform, Run.evalEnd, Run.drainIfDone, Nat.add_sub_cancel, if_neg hdone]

/-- R93, R94: a quiet signal is over after its hand-out of nothing. -/
theorem signal_quiet_reaches {r : Run} (h : Quiet r.st g v) (hd : r.acting ≠ 0 ∨ r.evals ≠ 0 ∨ r.deferred = []) (l : List Act) :
    ∃ t, Heard g v r.st t ∧ Run.Reaches 4 { r with work := .signal g v :: l } { r with st := t, work := l } := by
  by_cases hv : sigVal r.st g = v
  · have hself : setSignal g v r.st = r.st := by
      subst hv
      have hset : r.st.interlock.signals.set g.index (sigVal r.st g) = r.st.interlock.signals := Vector.set_getElem_self _
      rw [setSignal, hset]
    refine ⟨r.st, ⟨⟨_, _, rfl⟩, (congrArg (fun x : State => x.interlock.signals) hself).symm, rfl, rfl,
      fun _ _ h => hself ▸ h⟩, 1, by omega, ?_⟩
    simp only [firstActs, perform, Run.signal, if_pos hv]
  · obtain ⟨hev, hnil⟩ := h.resolve_left hv
    have heval : Run.Reaches 1 { r with work := .signal g v :: l }
        { r with
          st := (evaluate (fun b => b.names g) (fun t => TermRec.names t g) (setSignal g v r.st)).1
          evals := r.evals + 1, work := .notices [] false :: .evalEnd :: l } := by
      refine ⟨1, le_rfl, ?_⟩
      simp only [firstActs, perform, Run.signal, if_neg hv, if_pos hev, hnil, handOut_nil]
      rfl
    have hheard : Heard g v r.st (evaluate (fun b => b.names g) (fun t => TermRec.names t g) (setSignal g v r.st)).1 :=
      ⟨⟨_, _, rfl⟩, rfl, rfl, rfl, fun q w hq => hq.imp id fun ⟨he, hc⟩ => ⟨he, (evaluate_settled hnil _ _ q w).trans hc⟩⟩
    generalize (evaluate (fun b => b.names g) (fun t => TermRec.names t g) (setSignal g v r.st)).1 = x at heval hheard
    have htold : Heard g v r.st (evalNotices [] false x) := by
      obtain ⟨⟨k, d, rfl⟩, h1, h2, h3, h4⟩ := hheard
      exact ⟨⟨_, _, rfl⟩, h1, h2, h3, h4⟩
    refine ⟨evalNotices [] false x, htold, heval.trans (b := 3) (Run.Reaches.trans (a := 1)
      (q := { r with st := evalNotices [] false x, evals := r.evals + 1, work := .evalEnd :: l }) (b := 2) ⟨1, le_rfl, rfl⟩
      (evalEnd_reaches (r := { r with st := evalNotices [] false x }) hd l))⟩

end Sys2Proof.Machine
end

section
/-!
SUPPORT. Cascades that leave the outlets as they are: reports of an outlet without an owner or of a shed one whose owner only notes it,
and what follows them (`Lulls`).
-/
namespace Sys2Proof.Machine

variable {s t u : State} {r : Run} {O : Outlets} {T : Fin 6 → Nat}

/-- None of these outlets is WAITING. -/
def Outlets.NoneWaits (O : Outlets) : Prop := ∀ q : Fin 16, O.table[q].state ≠ .waiting

/-- The owner of the outlet asks for nothing when the outlet is shed: it is not HEATER, BRIDGE or FILL VALVE, nor a light that is to
go dark. -/
def Resigned (T : Fin 6 → Nat) (o : Fin 16) : Prop := o ≠ 2 ∧ o ≠ 5 ∧ o ≠ 7 ∧ ∀ c, o = lightOutlet c → 0 < T c

/-- The acts of such a cascade, where the outlets are `O` and the channels' targets `T`. -/
inductive Act.Lull (O : Outlets) (T : Fin 6 → Nat) : Act → Prop
  | unowned (x y) : Lull O T (.report 8 x y)
  | shed {o} (x) (h : Resigned T o) : Lull O T (.report o x .shed)
  | flush : Lull O T .flush
  | flushEnd : Lull O T .flushEnd
  | actEnd : Lull O T .actEnd
  | restore : Lull O T (.restore false)
  | arbiter (h : O.NoneWaits) : Lull O T .arbiter
  | drain : Lull O T .drain
  | recallTest (n) : Lull O T (.recallTest n)
  | finish (n f) : Lull O T (.finish n f)
  | raise (g b) : Lull O T (.raise g b)
  | shown (m l) : Lull O T (.shown m l)
  | seqShed : Lull O T .seqShed
  | heaterTest : Lull O T .heaterTest

/-- The outlets, the targets, and a heater that neither starts nor stops. -/
structure State.Lulls (O : Outlets) (T : Fin 6 → Nat) (s : State) : Prop where
  outlets : s.outlets = O
  targets : ∀ c, (channel s c).target = T c
  demand : s.climate.demand = false
  seq : (seq s).state ≠ .running

theorem State.Lulls.congr (h : s.Lulls O T) (ho : t.outlets = s.outlets) (hl : t.lights = s.lights) (hc : t.climate = s.climate) :
    t.Lulls O T where
  outlets := ho.trans h.outlets
  targets c := by rw [channel_congr hl]; exact h.targets c
  demand := by rw [hc]; exact h.demand
  seq := by rw [Machine.seq, hc]; exact h.seq

/-! ### The owners -/

/-- A reaction that keeps to such a cascade. -/
def Lulling (O : Outlets) (T : Fin 6 → Nat) (x : React) : Prop := x.1.Lulls O T ∧ ∀ a ∈ x.2, a.Lull O T

theorem State.Lulls.nil (h : s.Lulls O T) : Lulling O T (s, []) := ⟨h, nofun⟩

theorem channelOf_eq_some {o : Fin 16} {c : Fin 6} (h : channelOf o = some c) : o = lightOutlet c := by
  unfold channelOf at h
  split at h
  · cases h
    exact Fin.ext (by simp only [lightOutlet]; omega)
  · exact absurd h (by simp)

theorem State.Lulls.setChannel (h : s.Lulls O T) {c : Fin 6} {x : Channel} (hx : x.target = (channel s c).target) :
    (setChannel c x s).Lulls O T where
  outlets := h.outlets
  targets d := by
    rw [channel_setChannel]
    split
    · next e => rw [hx, e]; exact h.targets c
    · exact h.targets d
  demand := h.demand
  seq := h.seq

theorem lightReport_lulling (h : s.Lulls O T) {c : Fin 6} (hc : 0 < T c) (x : OutletState) : Lulling O T (lightReport c x .shed s) := by
  have htarget : (channel s c).target ≠ 0 := by rw [h.targets c]; omega
  unfold lightReport
  simp only [lightCut, if_neg htarget, List.nil_append]
  refine ⟨h.setChannel rfl, fun a ha => ?_⟩
  rcases List.mem_append.1 ha with ha | ha
  · split at ha
    · obtain rfl := List.mem_singleton.1 ha
      exact .recallTest _
    · exact absurd ha (by simp)
  · obtain rfl := List.mem_singleton.1 ha
    exact .shown _ _

theorem pumpReport_lulling (h : s.Lulls O T) : Lulling O T (showing [.water] (pumpReport .shed) s) := by
  unfold showing pumpReport
  split
  · exact ⟨h.congr rfl rfl rfl, nofun⟩
  · exact ⟨h.congr rfl rfl rfl, nofun⟩

theorem ownerReport_lulling (h : s.Lulls O T) {o : Fin 16} {x y : OutletState} (ha : (Act.report o x y).Lull O T) :
    Lulling O T (ownerReport o x y s) := by
  cases ha with
  | unowned => unfold ownerReport; split <;> exact h.nil
  | shed _ ho =>
    obtain ⟨h2, h5, h7, hlight⟩ := ho
    unfold ownerReport
    split
    · exact h.nil
    · split
      · exact pumpReport_lulling h
      · split
        · exact ⟨h.congr rfl rfl rfl, nofun⟩
        · split
          · next hc => exact lightReport_lulling h (hlight _ (channelOf_eq_some hc)) x
          · exact h.nil

theorem clearOwner_target (n : LightOwner) (l : List (Fin 6)) (c : Fin 6) : ∀ s : State,
    (channel (clearOwner n l s) c).target = (channel s c).target := by
  induction l with
  | nil => exact fun _ => rfl
  | cons d l ih =>
    intro s
    refine (ih _).trans ?_
    split
    · rw [channel_setChannel]
      split
      · next e => rw [e]
      · rfl
    · rfl

theorem State.Lulls.arrive (h : s.Lulls O T) (x : Recall) : Lulling O T (arrive x s) := by
  have hclear : (clearOwner x.owner channels (dropRecalls [x.owner] s)).Lulls O T := by
    obtain ⟨l, e⟩ := clearOwner_onlyLights x.owner channels (dropRecalls [x.owner] s)
    refine ⟨?_, fun c => (clearOwner_target _ _ c _).trans (h.targets c), ?_, ?_⟩
    · rw [e]; exact h.outlets
    · rw [e]; exact h.demand
    · rw [e]; exact h.seq
  unfold Machine.arrive
  generalize clearOwner x.owner channels (dropRecalls [x.owner] s) = t at hclear
  split
  · exact ⟨hclear, fun a ha => List.mem_singleton.1 ha ▸ .finish _ _⟩
  · exact ⟨⟨hclear.outlets, hclear.targets, hclear.demand, hclear.seq⟩, fun a ha => List.mem_singleton.1 ha ▸ .raise _ _⟩

theorem recallTest_lulling (h : s.Lulls O T) (n : LightOwner) : Lulling O T (recallTest n s) := by
  unfold recallTest
  split
  · split
    · exact h.arrive _
    · exact h.nil
  · exact h.nil

theorem seqShed_lulling (h : s.Lulls O T) : Lulling O T (seqShed s) := by
  unfold seqShed
  split
  · exact ⟨h, fun a ha => List.mem_singleton.1 ha ▸ .heaterTest⟩
  · next e => exact absurd e h.seq
  · exact h.nil

/-- R130: without a demand the heater does not start. -/
theorem heaterTest_lulling (h : s.Lulls O T) : Lulling O T (heaterTest s) := by
  unfold heaterTest startConditions
  simp only [h.demand, Bool.false_and, Bool.false_eq_true, and_false, if_false]
  exact h.nil

/-! ### The cascade -/

/-- A cascade that keeps the outlets `O`: a change still to be reported is one of those above, no request waits, and room released goes to
nobody. -/
structure Run.Lulls (O : Outlets) (T : Fin 6 → Nat) (r : Run) : Prop where
  st : r.st.Lulls O T
  work : ∀ a ∈ r.work, a.Lull O T
  changed : ∀ c ∈ r.changed, (Act.report c.1 c.2.1 c.2.2).Lull O T
  deferred : r.deferred = []
  room : r.room = true → O.NoneWaits

namespace Run.Lulls

theorem push (h : r.Lulls O T) {l : List Act} (hl : ∀ a ∈ l, a.Lull O T) : (r.push l).Lulls O T :=
  { h with work := fun a ha => (List.mem_append.1 ha).elim (hl a) (h.work a) }

theorem react (h : r.Lulls O T) {f : State → React} (hf : Lulling O T (f r.st)) : (r.react f).Lulls O T :=
  { h with st := hf.1, work := fun a ha => (List.mem_append.1 ha).elim (hf.2 a) (h.work a) }

theorem onState (h : r.Lulls O T) {f : State → State} (ho : (f r.st).outlets = r.st.outlets) (hl : (f r.st).lights = r.st.lights)
    (hc : (f r.st).climate = r.st.climate) : (r.onState f).Lulls O T :=
  { h with st := h.st.congr ho hl hc }

theorem drainIfDone (h : r.Lulls O T) : r.drainIfDone.Lulls O T := by
  unfold Run.drainIfDone
  split
  · exact h.push fun a ha => List.mem_singleton.1 ha ▸ .drain
  · exact h

theorem flush (h : r.Lulls O T) : r.flush.Lulls O T := by
  unfold Run.flush
  split
  · next c l e =>
    have hl : ∀ d ∈ c :: l, (Act.report d.1 d.2.1 d.2.2).Lull O T := e ▸ h.changed
    refine Run.Lulls.push (r := { r with changed := l, told := true })
      { h with changed := fun d hd => hl d (by simp [hd]) } fun a ha => ?_
    simp only [List.mem_cons, List.not_mem_nil, or_false] at ha
    rcases ha with rfl | rfl
    · exact hl c (by simp)
    · exact .flush
  · split
    · refine Run.Lulls.push (r := { r with told := false }) { h with } fun a ha => ?_
      simp only [List.mem_cons, List.not_mem_nil, or_false] at ha
      rcases ha with rfl | rfl
      · exact .flushEnd
      · exact .flush
    · split
      · next hroom =>
        refine h.push fun a ha => ?_
        simp only [List.mem_cons, List.not_mem_nil, or_false] at ha
        rcases ha with rfl | rfl
        · exact .arbiter (h.room hroom)
        · exact .flush
      · exact h

theorem arbiter (h : r.Lulls O T) (hO : O.NoneWaits) : r.arbiter.Lulls O T := by
  have hnone : waitingOrder r.st = [] := waitingOrder_eq_nil fun q => by
    rw [outlet, h.st.outlets]
    exact hO q
  unfold Run.arbiter
  rw [hnone]
  exact { h with room := nofun }

theorem drain (h : r.Lulls O T) : r.drain.Lulls O T := by
  unfold Run.drain
  rw [h.deferred]
  exact h

theorem perform (h : r.Lulls O T) {a : Act} (ha : a.Lull O T) : (perform a r).Lulls O T := by
  cases ha with
  | unowned x y => exact h.react (ownerReport_lulling h.st (.unowned x y))
  | shed x ho => exact h.react (ownerReport_lulling h.st (.shed x ho))
  | flush => exact h.flush
  | flushEnd =>
    have hshows := afterReports_shows r.st
    exact h.onState hshows.outlets hshows.lights (by obtain ⟨_, _, e⟩ := hshows; rw [e])
  | actEnd =>
    exact Run.Lulls.drainIfDone (r := { r with acting := r.acting - 1, st := syncPart .outlets r.st })
      { h with st := h.st.congr rfl rfl rfl }
  | restore => exact { h with room := nofun }
  | arbiter hO => exact h.arbiter hO
  | drain => exact h.drain
  | recallTest n => exact h.react (recallTest_lulling h.st n)
  | finish n f =>
    have hrest := finish_sansOrders n f r.st
    exact h.onState (congrArg State.outlets hrest :) (congrArg State.lights hrest :) (congrArg State.climate hrest :)
  | raise g b => exact h.onState rfl rfl rfl
  | shown m l => exact h.onState rfl rfl rfl
  | seqShed => exact h.react (seqShed_lulling h.st)
  | heaterTest => exact h.react (heaterTest_lulling h.st)

end Run.Lulls

theorem settle_lulls : ∀ (k : Nat) {r : Run}, r.Lulls O T → (settle k r).Lulls O T
  | 0, r, h => by
    unfold settle
    split
    · exact h.st
    · exact h.st.congr rfl rfl rfl
  | k + 1, r, h => by
    unfold settle
    split
    · exact h.st
    · next a l e =>
      have hrest : ({ r with work := l } : Run).Lulls O T := { h with work := fun b hb => h.work b (by simp [e, hb]) }
      exact settle_lulls k (hrest.perform (h.work a (by simp [e])))

end Sys2Proof.Machine
end

section
/-!
PROOF. SHED_FLOOR (O29): the level goes to the interlock engine, the outlet controller and the climate controller in turn.
-/
namespace Sys2Proof.Machine

variable {s t u : State} {n : Fin 32} {k : Nat} {r : Run}

/-! ### Effective classes, the granted total and quiet signals of states that agree -/

theorem effClass_congr (ho : t.outlets = s.outlets) (hs : t.store = s.store) (o : Fin 16) : effClass t o = effClass s o := by
  rw [effClass, effClass, outlet_congr ho, ho, configuredClass, configuredClass, cfg, cfg, hs]

theorem Quiet.congr {g : Signal} {v : Nat} (h : Quiet s g v) (ht : t.interlock = s.interlock) : Quiet t g v := by
  unfold Quiet sigVal evaluate setSignal at h ⊢
  rw [ht]
  exact h

/-- R64: the granted total is that of the reserved charges. -/
theorem grantedTotal_congr (h : ∀ q, (outlet t q).charge = (outlet s q).charge) : grantedTotal t = grantedTotal s := by
  have hcharges : t.outlets.table.map (·.charge) = s.outlets.table.map (·.charge) := Vector.ext fun i hi => by
    simpa [outlet] using h ⟨i, hi⟩
  rw [grantedTotal, grantedTotal, ← Vector.toList_map, ← Vector.toList_map, hcharges]

/-! ### Several outlets going dark together -/

/-- The record of an outlet gone dark. -/
def Outlet.darkened (x : OutletState) (y : Outlet) : Outlet :=
  { y with state := x, charge := 0, measured := 0, sum := 0, samples := 0, whole := false, overMs := 0, pullIn := false }

/-- These outlets go dark one after the other. -/
def Run.darkAll (x : OutletState) (l : List (Fin 16)) (r : Run) : Run := l.foldl (fun r o => r.dark o x) r

theorem Run.dark_outlet (o q : Fin 16) (x : OutletState) (r : Run) :
    outlet (r.dark o x).st q = if q = o then (outlet r.st o).darkened x else outlet r.st q := outlet_setOutlet o q _ r.st

theorem Run.darkAll_outlet (x : OutletState) (l : List (Fin 16)) (q : Fin 16) : ∀ r : Run,
    outlet (r.darkAll x l).st q = if q ∈ l then (outlet r.st q).darkened x else outlet r.st q := by
  induction l with
  | nil => exact fun _ => rfl
  | cons o l ih =>
    intro r
    refine (ih (r.dark o x)).trans ?_
    rw [Run.dark_outlet]
    by_cases hq : q = o
    · subst hq
      simp only [if_true, List.mem_cons, true_or]
      split <;> rfl
    · simp only [hq, if_false, List.mem_cons, false_or]

/-- What going dark leaves of a cascade. -/
theorem Run.darkAll_frame (x : OutletState) (l : List (Fin 16)) : ∀ r : Run,
    (∃ O, (r.darkAll x l).st = { r.st with outlets := O }) ∧ (r.darkAll x l).work = r.work ∧
      (r.darkAll x l).deferred = r.deferred ∧ ∀ c ∈ (r.darkAll x l).changed, c ∈ r.changed ∨ (c.1 ∈ l ∧ c.2.2 = x) := by
  induction l with
  | nil => exact fun r => ⟨⟨_, rfl⟩, rfl, rfl, fun _ => .inl⟩
  | cons o l ih =>
    intro r
    obtain ⟨⟨O, hO⟩, hwork, hdeferred, hchanged⟩ := ih (r.dark o x)
    refine ⟨⟨O, hO⟩, hwork, hdeferred, fun c hc => ?_⟩
    rcases hchanged c hc with h | ⟨h, e⟩
    · rcases List.mem_append.1 h with h | h
      · exact .inl h
      · obtain rfl := List.mem_singleton.1 h
        exact .inr ⟨by simp, rfl⟩
    · exact .inr ⟨by simp [h], e⟩

/-! ### A new shed level (R56, R74, R75) -/

/-- R56: a new shed level, up to its taking by the outlet controller. -/
theorem shedEval_reaches (hk : shedOf u = k) (hne : k ≠ u.charge.shedLevel) (hq : Quiet u .shedLevel k) (l : List Act) :
    ∃ t, (t.outlets = u.outlets ∧ t.lights = u.lights ∧ t.climate = u.climate ∧ t.store = u.store) ∧
      Run.Reaches 6 { st := u, work := .shedEval :: l } { st := t, work := .shedLevel k :: .seqShed :: l } := by
  have hraise : Run.Reaches 2 { st := u, work := .shedEval :: l }
      { st := raise .energy (bit 0) { u with charge := { u.charge with shedLevel := k } }
        work := .signal .shedLevel k :: .shedLevel k :: .seqShed :: l } := by
    refine ⟨2, le_rfl, ?_⟩
    simp only [firstActs, perform, Run.react, shedEval, hk, if_neg hne]
    rfl
  obtain ⟨t, hheard, hsignal⟩ := signal_quiet_reaches 
    (r := { st := raise .energy (bit 0) { u with charge := { u.charge with shedLevel := k } }, work := [] })
    (hq.congr rfl) (.inr (.inr rfl)) (.shedLevel k :: .seqShed :: l)
  exact ⟨t, ⟨hheard.outlets, hheard.lights, hheard.climate, hheard.store⟩, hraise.trans (b := 4) hsignal⟩

/-- The outlet controller holds a new shed level. -/
def levelled (k : Nat) (s : State) : State := { s with outlets := { s.outlets with shedLevel := k } }

theorem askShed_eq_nil {o : Fin 16} (h : (outlet s o).state = .on → isShed s o = false) : Run.askShed s o = [] := by
  unfold Run.askShed
  rw [if_neg]
  rintro ⟨hon, hshed⟩
  exact absurd hshed (by simp [h hon])

/-- R74: a rise that sheds neither 2 nor 5 asks nobody. -/
theorem rise_reaches (hlt : s.outlets.shedLevel < k) (h2 : Run.askShed (levelled k s) 2 = []) (h5 : Run.askShed (levelled k s) 5 = [])
    (l : List Act) :
    Run.Reaches 3 { st := s, work := .shedLevel k :: l }
      (Run.cutRest { st := levelled k s, work := .flush :: .actEnd :: .restore false :: l, acting := 1 }) := by
  have hlevel : Run.Reaches 1 { st := s, work := .shedLevel k :: l }
      { st := levelled k s, work := .action (Run.askShed (levelled k s) 2 ++ Run.askShed (levelled k s) 5 ++ [.cutRest]) :: l } := by
    refine .step rfl ?_
    simp only [perform, Run.shedLevel, if_pos hlt]
    rfl
  rw [h2, h5] at hlevel
  exact hlevel.trans (b := 2) (.trans (a := 1) (.step rfl rfl) (b := 1) (.step rfl rfl))

/-- R75: a fall that makes outlet 8 alone WAITING, up to its turn in the arbiter. -/
theorem fall_reaches (hlt : k < s.outlets.shedLevel) (hshed : (outlet s 8).state = .shed)
    (hself : isShed (levelled k s) 8 = false)
    (hother : ∀ q, q ≠ 8 → (outlet s q).state ≠ .waiting ∧ ((outlet s q).state = .shed → isShed (levelled k s) q = true))
    (l : List Act) :
    Run.Reaches 3 { st := s, work := .shedLevel k :: l }
      { st := darkOutlet 8 .waiting (levelled k s), work := .consider 8 :: .flush :: .actEnd :: .restore false :: l, acting := 1
        changed := [(8, .shed, .waiting)] } := by
  have hfilter : (outletsAll.filter fun o => (outlet (levelled k s) o).state == .shed && !isShed (levelled k s) o) = [8] := by
    have hpick : ∀ o ∈ outletsAll, ((outlet (levelled k s) o).state == .shed && !isShed (levelled k s) o) = decide (o = 8) := by
      intro o _
      by_cases ho : o = 8
      · subst ho
        simp [hself, show (outlet (levelled k s) 8).state = .shed from hshed]
      · by_cases hs : (outlet s o).state = .shed
        · simp [ho, (hother o ho).2 hs]
        · simp [ho, show (outlet (levelled k s) o).state = (outlet s o).state from rfl, hs]
    rw [List.filter_congr hpick]
    rfl
  have horder : Run.waitingOrder (darkOutlet 8 .waiting (levelled k s)) = [8] := by
    have hpick : ∀ o ∈ outletsAll, ((outlet (darkOutlet 8 .waiting (levelled k s)) o).state == .waiting) = decide (o = 8) := by
      intro o _
      rw [darkOutlet, outlet_setOutlet]
      by_cases ho : o = 8
      · simp [ho]
      · simp [ho, show (outlet (levelled k s) o).state = (outlet s o).state from rfl, (hother o ho).1]
    rw [Run.waitingOrder, List.filter_congr hpick]
    rfl
  have hunshed : ∀ w, Run.unshed { st := levelled k s, work := w } =
      { st := darkOutlet 8 .waiting (levelled k s), work := w, changed := [(8, .shed, .waiting)] } := by
    intro w
    unfold Run.unshed
    simp only [hfilter, List.foldl_cons, List.foldl_nil, Run.dark, show (outlet (levelled k s) 8).state = .shed from hshed]
    rfl
  have hlevel : Run.Reaches 1 { st := s, work := .shedLevel k :: l }
      { st := darkOutlet 8 .waiting (levelled k s), work := .action [.arbiter] :: l, changed := [(8, .shed, .waiting)] } := by
    refine .step rfl ?_
    simp only [perform, Run.shedLevel, if_neg (show ¬ s.outlets.shedLevel < k by omega), if_pos hlt]
    exact (congrArg (Run.push · [.action [.arbiter]]) (hunshed l) :)
  have hopen : Run.Reaches 1
      { st := darkOutlet 8 .waiting (levelled k s), work := .action [.arbiter] :: l, changed := [(8, .shed, .waiting)] }
      { st := darkOutlet 8 .waiting (levelled k s), work := .arbiter :: .flush :: .actEnd :: .restore false :: l, acting := 1
        changed := [(8, .shed, .waiting)] } := .step rfl rfl
  refine hlevel.trans (hopen.trans (b := 1) (.step rfl ?_))
  simp only [perform, Run.arbiter, horder]
  rfl

theorem isShed_levelled (ho : t.outlets = u.outlets) (hs : t.store = u.store) (q : Fin 16) :
    isShed (levelled k t) q = classShed (effClass u q) k := congrArg (classShed · k) (effClass_congr (t := t) ho hs q)

/-- R74: the outlets after a rise that owners only note, and after which none waits. -/
theorem run_shedEval_rise (hk : shedOf u = k) (hlt : u.charge.shedLevel < k) (hheard : ShedHeard u k)
    (hresigned : ∀ q, ((outlet u q).state = .on ∨ (outlet u q).state = .waiting) → ShedAt u k q →
      Resigned (fun c => (channel u c).target) q)
    (hwait : ∀ q, (outlet u q).state = .waiting → ShedAt u k q) (q : Fin 16) :
    outlet (run [.shedEval, .shown [] [.charge]] u) q =
      if ((outlet u q).state = .on ∨ (outlet u q).state = .waiting) ∧ ShedAt u k q then (outlet u q).darkened .shed
      else outlet u q := by
  obtain ⟨hq, hlevel, hdemand, hseq⟩ := hheard
  obtain ⟨t, ⟨ho, hl, hc, hs⟩, hreach⟩ := shedEval_reaches hk (by omega) hq [.shown [] [.charge]]
  have hout : ∀ p, outlet (levelled k t) p = outlet u p := fun p => (outlet_congr (t := t) ho p :)
  have hask : ∀ p, ¬ Resigned (fun c => (channel u c).target) p → Run.askShed (levelled k t) p = [] := fun p hp =>
    askShed_eq_nil fun hon => by
      rw [isShed_levelled ho hs, ← Bool.not_eq_true]
      exact fun h => hp (hresigned p (.inl (hout p ▸ hon)) h)
  have hrise := rise_reaches (s := t) (k := k) (by rw [ho]; omega) (hask 2 fun h => h.1 rfl) (hask 5 fun h => h.2.1 rfl)
    [.seqShed, .shown [] [.charge]]
  obtain ⟨j, hj⟩ := (hreach.trans hrise).run_settle (by decide)
  have hmem : ∀ p, p ∈ outletsAll.filter (Run.toShed (levelled k t)) ↔
      ((outlet u p).state = .on ∨ (outlet u p).state = .waiting) ∧ ShedAt u k p := fun p => by
    rw [List.mem_filter, Run.toShed, isShed_levelled ho hs, hout p]
    simp [outletsAll]
  have hcut : ∀ r : Run, r.st = levelled k t → r.cutRest = r.darkAll .shed (outletsAll.filter (Run.toShed (levelled k t))) :=
    fun r e => by rw [Run.cutRest, e]; rfl
  rw [hj]
  generalize hstart : ({ st := levelled k t, work := .flush :: .actEnd :: .restore false :: [.seqShed, .shown [] [.charge]]
                         acting := 1 } : Run) = r0
  obtain ⟨hst, hwork0, hdeferred0, hchanged0⟩ : r0.st = levelled k t ∧
      r0.work = [.flush, .actEnd, .restore false, .seqShed, .shown [] [.charge]] ∧ r0.deferred = [] ∧ r0.changed = [] := by
    subst hstart; exact ⟨rfl, rfl, rfl, rfl⟩
  rw [hcut r0 hst]
  generalize outletsAll.filter (Run.toShed (levelled k t)) = l at hmem
  have hafter := fun p => Run.darkAll_outlet .shed l p r0
  obtain ⟨⟨O, hO⟩, hwork, hdeferred, hchanged⟩ := Run.darkAll_frame .shed l r0
  rw [hst] at hO
  rw [hwork0] at hwork
  rw [hdeferred0] at hdeferred
  simp only [hst, hout] at hafter
  generalize r0.darkAll .shed l = r at *
  have hlulls : r.Lulls r.st.outlets (fun c => (channel u c).target) := {
    st := {
      outlets := rfl
      targets := fun c => by rw [hO]; exact congrArg Channel.target (channel_congr (t := t) hl c)
      demand := by rw [hO]; exact (congrArg Climate.demand hc).trans hdemand
      seq := by rw [hO]; exact (congrArg (fun x : Climate => x.seq.state) hc).trans_ne hseq }
    work := fun a ha => by
      rw [hwork] at ha
      simp only [List.mem_cons, List.not_mem_nil, or_false] at ha
      rcases ha with rfl | rfl | rfl | rfl | rfl
      exacts [.flush, .actEnd, .restore, .seqShed, .shown _ _]
    changed := fun c hc => by
      rcases hchanged c hc with h | ⟨h, e⟩
      · exact absurd h (by simp [hchanged0])
      · obtain ⟨hs, hshed⟩ := (hmem c.1).1 h
        rw [e]
        exact .shed _ (hresigned _ hs hshed)
    deferred := hdeferred
    room := fun _ p => by
      rw [show r.st.outlets.table[p] = outlet r.st p from rfl, hafter p]
      split
      · exact nofun
      · next hp => exact fun hw => hp ((hmem p).2 ⟨.inr hw, hwait p hw⟩) }
  rw [outlet_congr (settle_lulls j hlulls).outlets, hafter q]
  simp only [hmem]

theorem effClass_eight (s : State) : effClass s 8 = configuredClass s 8 := by
  unfold effClass
  simp

/-- R64, R68: the arbiter's turn of outlet 8 on its own, as it leaves the outlets. -/
theorem consider_eight {r : Run} (hw : (outlet r.st 8).state = .waiting) (hc : configuredClass r.st 8 ≠ 0)
    (hs : isShed r.st 8 = false) :
    r.consider 8 = if fits r.st 8 then r.grant 8 else r := by
  unfold Run.consider
  rw [if_pos hw, hs, effClass_eight, if_neg hc]
  simp

/-- R75, R72: the outlets after a fall that makes outlet 8 alone WAITING: it is granted where its demand fits. -/
theorem run_shedEval_fall {d : Demand} (hk : shedOf u = k) (hlt : k < u.charge.shedLevel) (hheard : ShedHeard u k)
    (hshed : (outlet u 8).state = .shed) (hfree : (outlet u 8).charge = 0) (hd : (outlet u 8).demand = some d)
    (hclass : configuredClass u 8 ≠ 0) (hself : ¬ ShedAt u k 8)
    (hother : ∀ q, q ≠ 8 → (outlet u q).state ≠ .waiting ∧ ((outlet u q).state = .shed → ShedAt u k q))
    (w : State) (hw : run [.shedEval, .shown [] [.charge]] u = w) :
    OtherOutletsKept u w 8 ∧ (outlet w 8).demand = some d ∧
      (grantedTotal u + d.charge ≤ u.outlets.limit → (outlet w 8).state = .on ∧ (outlet w 8).charge = d.charge) ∧
      (u.outlets.limit < grantedTotal u + d.charge → (outlet w 8).state = .waiting ∧ (outlet w 8).charge = 0) := by
  obtain ⟨hq, hlevel, hdemand, hseq⟩ := hheard
  obtain ⟨t, ⟨ho, hl, hc, hs⟩, hreach⟩ := shedEval_reaches hk (by omega) hq [.shown [] [.charge]]
  have hout : ∀ p, outlet (levelled k t) p = outlet u p := fun p => (outlet_congr (t := t) ho p :)
  have hnotShed : isShed (levelled k t) 8 = false := by
    rw [isShed_levelled ho hs]
    exact Bool.not_eq_true _ ▸ hself
  have hfall := fall_reaches (s := t) (k := k) (by rw [ho]; omega) (outlet_congr ho 8 ▸ hshed) hnotShed
    (fun q hq8 => by rw [outlet_congr ho, isShed_levelled ho hs]; exact hother q hq8) [.seqShed, .shown [] [.charge]]
  obtain ⟨j, hj⟩ := ((hreach.trans hfall).trans (b := 1) (.step rfl rfl)).run_settle (by decide)
  have hlulls : ∀ (y : State) (cs : List (Fin 16 × OutletState × OutletState)), y.lights = u.lights → y.climate = u.climate →
      (∀ c ∈ cs, c.1 = 8) →
      (settle j { st := y, work := [.flush, .actEnd, .restore false, .seqShed, .shown [] [.charge]], acting := 1
                  changed := cs }).outlets = y.outlets := by
    intro y cs hyl hyc hcs
    refine (settle_lulls (O := y.outlets) (T := fun c => (channel y c).target) j
      ⟨⟨rfl, fun _ => rfl, ?_, ?_⟩, ?_, ?_, rfl, fun h => absurd h Bool.false_ne_true⟩).outlets
    · rw [hyc]; exact hdemand
    · rw [seq, hyc]; exact hseq
    · intro a ha
      simp only [List.mem_cons, List.not_mem_nil, or_false] at ha
      rcases ha with rfl | rfl | rfl | rfl | rfl
      exacts [.flush, .actEnd, .restore, .seqShed, .shown _ _]
    · intro c hc
      rw [hcs c hc]
      exact .unowned _ _
  have hdark : ∀ p, outlet (darkOutlet 8 .waiting (levelled k t)) p =
      if p = 8 then (outlet u 8).darkened .waiting else outlet u p := by
    intro p
    rw [darkOutlet, outlet_setOutlet, hout p, hout 8]
    rfl
  have htotal : grantedTotal (darkOutlet 8 .waiting (levelled k t)) = grantedTotal u := by
    refine grantedTotal_congr fun q => ?_
    rw [hdark q]
    split
    · next e => rw [e, hfree]; rfl
    · rfl
  have hrequested : requested (darkOutlet 8 .waiting (levelled k t)) 8 = d.charge := by
    rw [requested, hdark 8, if_pos rfl, show ((outlet u 8).darkened .waiting).demand = (outlet u 8).demand from rfl, hd]
  have hlimit : (darkOutlet 8 .waiting (levelled k t)).outlets.limit = u.outlets.limit := (congrArg Outlets.limit ho :)
  have hconfigured : configuredClass (darkOutlet 8 .waiting (levelled k t)) 8 ≠ 0 := by
    rw [configuredClass, cfg, show (darkOutlet 8 .waiting (levelled k t)).store = u.store from hs]
    exact hclass
  have hstill : isShed (darkOutlet 8 .waiting (levelled k t)) 8 = false := by
    rw [isShed, effClass_eight] at hnotShed ⊢
    exact hnotShed
  have hlights : (darkOutlet 8 .waiting (levelled k t)).lights = u.lights := hl
  have hclimate : (darkOutlet 8 .waiting (levelled k t)).climate = u.climate := hc
  rw [hw] at hj
  have hturn : ∀ r : Run, r.st = darkOutlet 8 .waiting (levelled k t) → perform (.consider 8) r =
      if grantedTotal u + d.charge ≤ u.outlets.limit then r.grant 8 else r := by
    intro r e
    refine (consider_eight ?_ ?_ ?_).trans ?_
    · rw [e, hdark 8, if_pos rfl]; rfl
    · rw [e]; exact hconfigured
    · rw [e]; exact hstill
    · rw [e, fits, htotal, hrequested, hlimit]; simp only [decide_eq_true_eq]
  rw [hturn _ rfl] at hj
  generalize darkOutlet 8 .waiting (levelled k t) = x at *
  by_cases hfits : grantedTotal u + d.charge ≤ u.outlets.limit
  · rw [if_pos hfits] at hj
    have hend : w.outlets = (grantOutlet 8 x).outlets := by
      rw [hj]
      exact hlulls (grantOutlet 8 x) _ hlights hclimate (by simp)
    have hgrant : ∀ p, outlet w p = if p = 8 then { outlet x 8 with
        state := .on, charge := requested x 8, grantOrder := x.outlets.nextGrant, measured := 0, sum := 0, samples := 0
        whole := false, overMs := 0, pullIn := decide ((8 : Fin 16) = 1 ∨ (8 : Fin 16) = 7) } else outlet x p := fun p =>
      (outlet_congr hend p).trans (outlet_setOutlet 8 p _ x)
    refine ⟨fun p hp => by rw [hgrant, if_neg hp, hdark, if_neg hp], ?_, fun _ => ?_, fun h => by omega⟩
    · rw [hgrant, if_pos rfl]
      simp only [hdark 8, if_true]
      exact hd
    · rw [hgrant, if_pos rfl]
      exact ⟨rfl, hrequested⟩
  · rw [if_neg hfits] at hj
    have hend : w.outlets = x.outlets := by
      rw [hj]
      exact hlulls x _ hlights hclimate (by simp)
    have hkept : ∀ p, outlet w p = if p = 8 then (outlet u 8).darkened .waiting else outlet u p := fun p =>
      (outlet_congr hend p).trans (hdark p)
    refine ⟨fun p hp => by rw [hkept, if_neg hp], ?_, fun h => absurd h hfits, fun _ => ?_⟩
    · rw [hkept, if_pos rfl]; exact hd
    · rw [hkept, if_pos rfl]; exact ⟨rfl, rfl⟩

/-- Settles O29: the rise and the fall are passages of the cascade up to the cut or the grant, after which the outlets stay. -/
theorem shedFloorSetsHostFloor : Obligations.ShedFloorSetsHostFloor := by
  intro s n hw hd
  obtain ⟨u, d, hu, hexec⟩ := Dispatches.exec (c := .shedFloor) hd rfl
  obtain ⟨e, rfl⟩ := hu.rest
  generalize hx : ({ s with disp := e, charge := { s.charge with hostFloor := (slotWord s n 3).toNat } } : State) = x
  have hfollow := run_follows [.shedEval, .shown [] [.charge]] x
  have hdrain : Drains { s with disp := e } (run [.shedEval, .shown [] [.charge]] x) :=
    Drains.trans (t := x) (by subst hx; exact ⟨id, rfl, fun _ h => h⟩) (run_drains _ _)
  have hshed := run_shedEval [.shown [] [.charge]] x
  have hk : shedOf x = floorLevel s (slotWord s n 3).toNat := by subst hx; rfl
  have hrise := fun hlt hheard hres hwait => run_shedEval_rise (u := x) hk hlt hheard hres hwait
  have hfall := fun (d : Demand) hlt hheard hshed hfree hd hclass hself hother =>
    run_shedEval_fall (u := x) (d := d) hk hlt hheard hshed hfree hd hclass hself hother _ rfl
  have hbody : Machine.exec .shedFloor s = .next ((finish n
      (done (Word.nat (run [.shedEval, .shown [] [.charge]] x).charge.shedLevel))
      (run [.shedEval, .shown [] [.charge]] x)).withDigest d) := by rw [hexec]; subst hx; rfl
  generalize run [.shedEval, .shown [] [.charge]] x = r at *
  have hfinished := hu.finished hw.1 hdrain (fun hs => hfollow.slots (by subst hx; exact hs)) (done (Word.nat r.charge.shedLevel))
  have hrest := finish_sansOrders n (done (Word.nat r.charge.shedLevel)) r
  generalize finish n (done (Word.nat r.charge.shedLevel)) r = w at *
  have hcharge : (w.withDigest d).charge = r.charge := (congrArg State.charge hrest :)
  have hpins : (w.withDigest d).pins = r.pins := (congrArg State.pins hrest :)
  have hout : ∀ q, outlet (w.withDigest d) q = outlet r q := outlet_congr (congrArg State.outlets hrest :)
  have htally : r.charge.tally = s.charge.tally := (congrArg Steady.tally hfollow.steady).trans (by subst hx; rfl)
  have hsteady : r.pins = s.pins := (congrArg Steady.pins hfollow.steady).trans (by subst hx; rfl)
  have hfloor : r.charge.hostFloor = (slotWord s n 3).toNat := (congrArg Steady.hostFloor hfollow.steady).trans (by subst hx; rfl)
  refine ⟨_, hbody, ?_⟩
  rw [hcharge, hpins]
  refine ⟨hfloor, hshed, htally, hsteady, hfinished, fun hlt hheard hres hwait q => ?_,
    fun c hinv hlt hheard hoff hc hclass hself hother => ?_⟩
  · have h : outlet r q = if ((outlet s q).state = .on ∨ (outlet s q).state = .waiting) ∧
        ShedAt s (floorLevel s (slotWord s n 3).toNat) q then (outlet s q).darkened .shed else outlet s q := by
      subst hx
      exact hrise hlt hheard hres hwait q
    rw [hout q, h]
    split
    · exact ⟨rfl, rfl, rfl⟩
    · rfl
  · have h := by
      subst hx
      exact hfall c hlt hheard hoff (hinv 8 (by rw [hoff]; decide)) hc hclass hself hother
    subst hx
    rw [hout 8]
    exact ⟨fun q hq => (hout q).trans (h.1 q hq), h.2⟩

end Sys2Proof.Machine
end

section
/-!
SUPPORT. Cascades of aloof acts: the split relay they ask nothing of, and the levels and the inputs' signals they spare.
-/
namespace Sys2Proof.Machine

variable {s t u : State} {k : Care} {d : Option Demand} {r : Run}

theorem evalNotices_outlets (l : List Nat) (b : Bool) (s : State) : (evalNotices l b s).outlets.table = s.outlets.table := by
  unfold evalNotices
  simp only
  split <;> split <;> rfl

namespace Run.Shuns

theorem postHeater (h : r.Shuns k d) (e : HeaterEntry) : (r.react (postHeater e)).Shuns k d := by
  unfold Run.react Machine.postHeater
  split
  · exact h.push (by cases e <;> rfl)
  · obtain ⟨j, e⟩ := chooseIfIdle_outside (setLink (fun k => { k with heater := some e }) r.st)
    exact h.of_outlets (by rw [e]; rfl)

theorem postFloat (h : r.Shuns k d) : (r.react postFloat).Shuns k d := by
  unfold Run.react Machine.postFloat
  split
  · exact h.push rfl
  · obtain ⟨j, e⟩ := chooseIfIdle_outside (setLink (fun k => { k with solar := true }) r.st)
    exact h.of_outlets (by rw [e]; rfl)

end Run.Shuns

/-- An aloof act asks nothing of the split relay. -/
theorem perform_shuns {a : Act} (ha : a.aloof k = true) (h : r.Shuns k d) : (perform a r).Shuns k d := by
  cases a <;> simp only [perform]
  case req q => exact h.req (by simpa [Act.aloof] using ha)
  case take q => exact h.take (by simpa [Act.aloof] using ha)
  case drain => exact h.drain
  case action l => exact h.action ha
  case arbiterIf => exact h.arbiterIf
  case restore c => exact ⟨h.work, h.deferred, h.demand, h.dark⟩
  case flush => exact h.flush
  case flushEnd => exact h.of_outlets (congrArg Outlets.table (afterReports_shows r.st).outlets)
  case actEnd => exact h.actEnd
  case judge o => exact h.judge ha
  case preempt o =>
    exact Run.Shuns.push (r := { r with revoked := false }) ⟨h.work, h.deferred, h.demand, h.dark⟩ (aloof_cons.2 ⟨ha, rfl⟩)
  case pass g => exact h.pass ha
  case ask o c =>
    split
    · exact h.react (ownerAsk_sedate _ o)
    · exact h
  case cut o c => exact h.cut
  case cutRest => exact h.cutRest
  case rejudge o c => exact h.rejudge
  case arbiter => exact h.arbiter
  case consider o => exact h.consider
  case clearTrip o => exact h.clearTrip ha
  case trip o => exact h.trip ha
  case rises l => exact h.rises l
  case fall o j => exact h.fall
  case shedLevel n => exact h.shedLevel
  case limit n => exact h.limit
  case overLimit c => exact h.overLimit
  case report o x y => exact h.stir (ownerReport_stirs _ o x y)
  case blockRise m j => exact h.react (blockRise_sedate _ m j)
  case blockFall m j => exact h.of_still (blockFall_still _ m j)
  case notices l c => exact h.of_outlets (evalNotices_outlets l c r.st)
  case evalEnd => exact h.evalEnd
  case resume j => exact ⟨h.work, h.deferred, h.demand, h.dark⟩
  case raise g c => exact h.of_outlets rfl
  case shown m l => exact h.of_outlets rfl
  case solar => exact h.react (showing_sedate _ (solarEval_sedate _))
  case floatResult x => exact h.react (showing_sedate _ (floatDone_sedate _ x))
  case result c x y => exact h.react (heaterResult_sedate _ c x y)
  case freshPump => exact h.react (freshPump_sedate _)
  case freshFill => exact h.react (freshFill_sedate _)
  case pumpStart => exact h.react (pumpStart_sedate _)
  case pumpDry c => exact h.react (showing_sedate _ (pumpDry_sedate _ c))
  case fillEnd e => exact h.react (fillEnd_sedate _ e)
  case fillFinish e => exact h.react (showing_sedate _ (fillFinish_sedate _ e))
  case frostTemp c => exact h.react (showing_sedate _ (frostEval_sedate _ c))
  case stage x c => exact h.react (stageChange_sedate _ x c)
  case stageFill x => exact h.react (stageFill_sedate _ x)
  case stageLeave x y => exact h.react (stageLeave_sedate _ x y)
  case stageBegin x y => exact h.react (stageBegin_sedate _ x y)
  case drainLatch => exact h.react (drainLatch_sedate _)
  case delivered c => exact h.of_outlets rfl
  case zoneFollow z => exact h.react (zoneFollow_sedate _ z)
  case heatDemand => exact h.react (heatDemand_sedate _)
  case frostDemand c => exact h.react (frostDemand_sedate _ c)
  case seqFrost c => exact h.react (seqFrost_sedate _ c)
  case seqShed => exact h.react (seqShed_sedate _)
  case seqDemand => exact h.react (seqDemand_sedate _)
  case seqLevel => exact h.react (seqLevel_sedate _)
  case heaterTest => exact h.react (heaterTest_sedate _)
  case enter x c => exact h.react (enter_sedate _ x c)
  case seqReport => exact h.seqReport
  case seqFlags => exact h.of_still (seqFlags_still _)
  case igniting => exact h.react (igniting_sedate _)
  case running => exact h.react (running_sedate _)
  case stopping x => exact h.react (stopping_sedate _ x)
  case startFail c => exact h.react (startFail_sedate _ c)
  case runJudge => exact h.react (runJudge_sedate _)
  case runShed => exact h.react (runShed_sedate _)
  case cooldownEnd => exact h.react (cooldownEnd_sedate _)
  case unitReading u x => exact h.react (closing_sedate _ (unitReading_sedate _ u x))
  case unitLost => exact h.react (unitLost_sedate _)
  case offFaulty => exact h.react (offFaulty_sedate _)
  case blockBegins m => exact h.apart.react (blockBegins_sedate _ m)
  case stowSignal m => exact h.react (stowSignal_sedate _ m)
  case claim m => exact h.react (claim_sedate _ m)
  case moveEnd m f x => exact h.react (moveEnd_sedate _ m f x)
  case moveFree m => exact h.of_still (moveFree_still _ m)
  case moveResult m f x => exact h.react (moveResult_sedate _ m f x)
  case serveRelease => exact h.react (serveRelease_sedate _)
  case retract m => exact h.react (requestRetract_sedate _ m)
  case extension => exact h.react (extension_sedate _)
  case doorScene => exact h.react (doorScene_sedate _)
  case recallOn l n c cs lost => exact h.react (recallStep_sedate _ l n c cs lost)
  case applied n j c => exact h.react (applied_sedate _ n j c)
  case supersede p o c => exact h.react (supersede_sedate _ p o c)
  case recallTest n => exact h.react (recallTest_sedate _ n)
  case ramp c => exact h.react (ramp_sedate _ c)
  case signal g v => exact h.signal
  case tripDone n o => exact h.of_outlets (congrArg Outlets.table (finish_outlets n _ r.st))
  case finish n f => exact h.of_outlets (congrArg Outlets.table (finish_outlets n f r.st))
  case post e => exact h.postHeater e
  case postFloat => exact h.postFloat
  case shedEval | limitEval => exact absurd ha (by simp [Act.aloof])

/-! ### What aloof acts spare -/

/-- The levels of the charge monitor and the inputs' signals are the same. -/
structure Spares (s t : State) : Prop where
  shed : t.charge.shedLevel = s.charge.shedLevel
  limit : t.charge.limit = s.charge.limit
  input : ∀ i, sigVal t (inputSignal i) = sigVal s (inputSignal i)

theorem Spares.refl (s : State) : Spares s s := ⟨rfl, rfl, fun _ => rfl⟩

theorem Spares.trans (h : Spares s t) (g : Spares t u) : Spares s u :=
  ⟨g.shed.trans h.shed, g.limit.trans h.limit, fun i => (g.input i).trans (h.input i)⟩

theorem Spares.of_eq (hc : t.charge = s.charge) (hi : t.interlock = s.interlock) : Spares s t :=
  ⟨by rw [hc], by rw [hc], fun i => by rw [sigVal, hi]; rfl⟩

theorem Tells.spares (h : Tells s t) : Spares s t := by
  obtain ⟨hshed, hlimit, hsignals, -⟩ : t.charge.shedLevel = s.charge.shedLevel ∧ t.charge.limit = s.charge.limit ∧
      t.interlock.signals = s.interlock.signals ∧ t.link = s.link ∧ t.ram.slots = s.ram.slots := by
    simpa only [State.outer, Prod.mk.injEq] using h.outer
  exact ⟨hshed, hlimit, fun i => by rw [sigVal, hsignals]; rfl⟩

theorem finish_spares (n : Fin 32) (f : Finish) (s : State) : Spares s (finish n f s) :=
  .of_eq (congrArg State.charge (finish_sansOrders n f s) :) (congrArg State.interlock (finish_sansOrders n f s) :)

theorem sigVal_setSignal (g q : Signal) (v : Nat) (s : State) :
    sigVal (setSignal g v s) q = if q.index = g.index then v else sigVal s q := by
  show (s.interlock.signals.set g.index v)[q.index] = _
  rw [Fin.getElem_fin, Vector.getElem_set]
  simp only [Fin.ext_iff, eq_comm (a := q.index.val)]
  rfl

theorem signal_charge (g : Signal) (v : Nat) (r : Run) : (r.signal g v).st.charge = r.st.charge := by
  unfold Run.signal
  split
  · rfl
  · split <;> rfl

/-- R89, R93: the signals after one is taken. -/
theorem sigVal_signal (g q : Signal) (v : Nat) (r : Run) :
    sigVal (r.signal g v).st q = if q.index = g.index then v else sigVal r.st q := by
  unfold Run.signal
  split
  · next h =>
    split
    · next e => simp only [← h, sigVal, e]
    · rfl
  · split
    · exact sigVal_setSignal g q v r.st
    · exact sigVal_setSignal g q v r.st

theorem eq_inputSignal {i : VehicleInput} {g : Signal} (h : (inputSignal i).index = g.index) : g = inputSignal i := by
  cases i <;> cases g <;> revert h <;> decide

theorem signal_spares {g : Signal} {v : Nat} (hg : (Act.signal g v).aloof k = true) (r : Run) : Spares r.st (r.signal g v).st where
  shed := by rw [signal_charge]
  limit := by rw [signal_charge]
  input i := by
    rw [sigVal_signal, if_neg]
    intro e
    obtain ⟨⟨⟨h1, h2⟩, h3⟩, h4⟩ : ((g ≠ .ignition ∧ g ≠ .engineRun) ∧ g ≠ .shore) ∧ g ≠ .door := by
      simpa [Act.aloof] using hg
    cases i <;> exact absurd (eq_inputSignal e) (by assumption)

theorem chooseIfIdle_spares (f : Link → Link) (s : State) : Spares s (chooseIfIdle (setLink f s)) := by
  obtain ⟨j, e⟩ := chooseIfIdle_outside (setLink f s)
  exact .of_eq (by rw [e]; rfl) (by rw [e]; rfl)

theorem perform_spares {a : Act} (ha : a.aloof k = true) (r : Run) : Spares r.st (perform a r).st := by
  by_cases ht : a.tells = true
  · exact (perform_tells ht r).spares
  · cases a
    case signal g v => exact signal_spares ha r
    case finish n f => exact finish_spares n f r.st
    case tripDone n o => exact finish_spares n _ r.st
    case post e =>
      simp only [perform, Run.react, postHeater]
      split
      · exact .refl _
      · exact chooseIfIdle_spares _ r.st
    case postFloat =>
      simp only [perform, Run.react, postFloat]
      split
      · exact .refl _
      · exact chooseIfIdle_spares _ r.st
    case shedEval | limitEval => exact absurd ha (by simp [Act.aloof])
    all_goals exact absurd rfl ht

/-! ### Whole cascades -/

/-- What is left of an aloof cascade: the relay, and what is spared. -/
theorem settle_aloof : ∀ (n : Nat) {r : Run}, r.Shuns k d →
    Spares r.st (settle n r) ∧ (k.lax = false → (outlet (settle n r) 6).demand = d) ∧
      (k.decides = false → (outlet (settle n r) 6).state = .off ∨ (outlet (settle n r) 6).state = .tripped)
  | 0, r, h => by
    unfold settle
    split
    · exact ⟨.refl _, h.demand, h.dark⟩
    · exact ⟨.of_eq rfl rfl, h.demand, h.dark⟩
  | n + 1, r, h => by
    unfold settle
    split
    · exact ⟨.refl _, h.demand, h.dark⟩
    · next a l e =>
      have hwork := aloof_cons.1 (e ▸ h.work)
      have hrest : ({ r with work := l } : Run).Shuns k d := ⟨hwork.2, h.deferred, h.demand, h.dark⟩
      obtain ⟨hspares, hend⟩ := settle_aloof n (perform_shuns hwork.1 hrest)
      exact ⟨(perform_spares hwork.1 { r with work := l }).trans hspares, hend⟩

end Sys2Proof.Machine
end

section
/-!
SUPPORT. A vehicle input taken by its filter: the signal, the sources and the split relay through the cascades it sets off.
-/
namespace Sys2Proof.Machine

variable {s t u : State} {k : Care} {d : Option Demand} {i : VehicleInput} {b : Bool} {l : List Act}

/-! ### Cascades -/

/-- The relay as it is watched. -/
def Cared (k : Care) (d : Option Demand) (s : State) : Prop :=
  (k.lax = false → (outlet s 6).demand = d) ∧
    (k.decides = false → (outlet s 6).state = .off ∨ (outlet s 6).state = .tripped)

theorem cared_none (s : State) : Cared .none none s := ⟨nofun, nofun⟩

theorem Cared.congr (h : Cared k d s) (ht : t.outlets = s.outlets) : Cared k d t := by rw [Cared, outlet_congr ht]; exact h

theorem Cared.start (h : Cared k d s) (hl : Aloof k l) : ({ st := s, work := l } : Run).Shuns k d := ⟨hl, nofun, h.1, h.2⟩

theorem Run.Reaches.run_aloof {n : Nat} {q : Run} (h : Run.Reaches n { st := s, work := l } q) (hn : n ≤ cascadeBound)
    (hq : q.Shuns k d) : Spares q.st (run l s) ∧ Cared k d (run l s) := by
  obtain ⟨j, e⟩ := h.run_settle hn
  rw [e]
  exact settle_aloof j hq

theorem run_aloof (h : Cared k d s) (hl : Aloof k l) : Spares s (run l s) ∧ Cared k d (run l s) :=
  (Run.Reaches.refl 0 { st := s, work := l }).run_aloof (by decide) (h.start hl)

theorem run_spares (hl : Aloof .none l) : Spares s (run l s) := (run_aloof (cared_none s) hl).1

theorem runEach_aloof (l : List Act) : ∀ {s : State}, Cared k d s → Aloof k l →
    Spares s (runEach l s) ∧ Cared k d (runEach l s) := by
  induction l with
  | nil => exact fun h _ => ⟨.refl _, h⟩
  | cons a l ih =>
    intro s h hl
    obtain ⟨ha, hl⟩ := aloof_cons.1 hl
    obtain ⟨hs, hc⟩ := run_aloof h (aloof_cons.2 ⟨ha, aloof_nil⟩)
    obtain ⟨hs', hc'⟩ := ih hc hl
    exact ⟨hs.trans hs', hc'⟩

theorem runEach_follows (l : List Act) : ∀ s : State, s.Follows (runEach l s) := by
  induction l with
  | nil => exact .refl
  | cons a l ih => exact fun s => (run_follows [a] s).trans (ih _)

theorem setIdle_follows (s : State) : s.Follows (setIdle 0 s) :=
  ⟨⟨.inl rfl, .inl rfl, fun _ _ h => h, id, .inr rfl, fun _ => ⟨rfl, id⟩⟩, rfl⟩

theorem idleCheck_follows (s : State) : s.Follows (idleCheck s) := by
  unfold idleCheck
  split
  · exact .refl s
  · exact setIdle_follows s

/-- The inputs' signals are the same. -/
def SameInputs (s t : State) : Prop := ∀ i, sigVal t (inputSignal i) = sigVal s (inputSignal i)

theorem SameInputs.trans (h : SameInputs s t) (g : SameInputs t u) : SameInputs s u := fun i => (g i).trans (h i)

theorem SameInputs.of_eq (h : t.interlock = s.interlock) : SameInputs s t := fun i => by rw [sigVal, h]; rfl

theorem idleCheck_outlets (s : State) : (idleCheck s).outlets = s.outlets := (idleCheck_shows s).outlets

/-! ### The signal (R50) -/

/-- R50, R89: the signal of an input taken is the level's. -/
theorem signalTaken_input (i : VehicleInput) (b : Bool) (s : State) :
    sigVal (signalTaken i b s) (inputSignal i) = b2n b ∧ (signalTaken i b s).charge.shedLevel = s.charge.shedLevel ∧
      (Cared k d s → Cared k d (signalTaken i b s)) := by
  have hshuns : ∀ {k d}, Cared k d s →
      (Run.signal (inputSignal i) (b2n b) { st := takeLine (.vehicle i) b s, work := [] }).Shuns k d :=
    fun h => ((h.congr (t := takeLine (.vehicle i) b s) rfl).start aloof_nil).signal
  have hfirst : Run.Reaches 1 { st := takeLine (.vehicle i) b s, work := [.signal (inputSignal i) (b2n b)] }
      (Run.signal (inputSignal i) (b2n b) { st := takeLine (.vehicle i) b s, work := [] }) := .step rfl rfl
  obtain ⟨hspares, -⟩ := hfirst.run_aloof (by decide) (hshuns (cared_none s))
  refine ⟨?_, ?_, fun h => (hfirst.run_aloof (by decide) (hshuns h)).2⟩
  · rw [signalTaken, hspares.input, sigVal_signal, if_pos rfl]
  · rw [signalTaken, hspares.shed, signal_charge]
    rfl

theorem signalTaken_steady (i : VehicleInput) (b : Bool) (s : State) :
    (signalTaken i b s).steady = (takeLine (.vehicle i) b s).steady := run_steady _ _

/-! ### The sources (R51, R52, R56) -/

theorem shedEval_start (h : Cared k d s) : (Run.react shedEval { st := s, work := [] }).Shuns k d := by
  unfold Run.react shedEval
  simp only
  split
  · exact h.start aloof_nil
  · exact Run.Shuns.push (r := { st := { s with charge := { s.charge with shedLevel := shedOf s } }, work := [] })
      ((h.congr (t := { s with charge := { s.charge with shedLevel := shedOf s } }) rfl).start aloof_nil) rfl

theorem limitEval_start (h : Cared k d s) : (Run.react limitEval { st := s, work := [] }).Shuns k d := by
  unfold Run.react limitEval
  simp only
  split
  · exact h.start aloof_nil
  · exact Run.Shuns.push (r := { st := { s with charge := { s.charge with limit := limitOf s } }, work := [] })
      ((h.congr (t := { s with charge := { s.charge with limit := limitOf s } }) rfl).start aloof_nil) rfl

theorem shedEval_interlock (s : State) : (shedEval s).1.interlock = s.interlock := by
  unfold shedEval
  simp only
  split <;> rfl

theorem limitEval_interlock (s : State) : (limitEval s).1.interlock = s.interlock := by
  unfold limitEval
  simp only
  split <;> rfl

theorem run_shedEval_aloof (h : Cared k d s) : SameInputs s (run [.shedEval] s) ∧ Cared k d (run [.shedEval] s) := by
  have hfirst : Run.Reaches 1 { st := s, work := [.shedEval] } (Run.react shedEval { st := s, work := [] }) := .step rfl rfl
  obtain ⟨hspares, hcared⟩ := hfirst.run_aloof (by decide) (shedEval_start h)
  exact ⟨SameInputs.trans (.of_eq (shedEval_interlock s)) hspares.input, hcared⟩

theorem run_limitEval_aloof (h : Cared k d s) : SameInputs s (run [.limitEval] s) ∧ Cared k d (run [.limitEval] s) := by
  have hfirst : Run.Reaches 1 { st := s, work := [.limitEval] } (Run.react limitEval { st := s, work := [] }) := .step rfl rfl
  obtain ⟨hspares, hcared⟩ := hfirst.run_aloof (by decide) (limitEval_start h)
  exact ⟨SameInputs.trans (.of_eq (limitEval_interlock s)) hspares.input, hcared⟩

/-- R56, R20: a shed level that changes is told. -/
theorem run_shedEval_noticed (s : State) (h : (run [.shedEval] s).charge.shedLevel ≠ s.charge.shedLevel) :
    Noticed (run [.shedEval] s) .energy 0 := by
  by_cases hn : shedOf s = s.charge.shedLevel
  · exact absurd (by rw [run_shedEval_same hn]) h
  · have hraise : Run.Reaches 2 { st := s, work := [.shedEval] }
        { st := raise .energy (bit 0) { s with charge := { s.charge with shedLevel := shedOf s } }
          work := [.signal .shedLevel (shedOf s), .shedLevel (shedOf s), .seqShed] } := by
      refine ⟨2, le_rfl, ?_⟩
      simp only [firstActs, perform, Run.react, shedEval, if_neg hn]
      rfl
    obtain ⟨j, e⟩ := hraise.run_settle (by decide)
    rw [e]
    exact (settle_follows j _).notices _ _ (raise_noticed .energy (by decide) _)

/-- What a change of a source leaves: the levels are those of their inputs, and both changes are told. -/
structure Sourced (s t : State) : Prop where
  shed : t.charge.shedLevel = shedOf t
  limit : t.charge.limit = limitOf t
  source : Noticed t .energy 6
  change : t.charge.shedLevel ≠ s.charge.shedLevel → Noticed t .energy 0

theorem Sourced.follows (h : Sourced s t) (g : t.Follows u) : Sourced s u where
  shed := g.shed_eq h.shed
  limit := g.limit_eq h.limit
  source := g.notices _ _ h.source
  change hne := g.notices _ _ (h.change (by rwa [h.shed, ← shedOf_congr g.steady, ← g.shed_eq h.shed]))

/-- R51, R52, R56: a change of SHORE or ALTERNATOR. -/
theorem sourceChange_sourced (s : State) : Sourced s (runEach sourceChange s) := by
  have hraise : Noticed (run [.raise .energy (bit 6)] s) .energy 6 := run_raise_noticed .energy (by decide) [] s
  have hbefore : Spares s (run [.shown [] [.charge]] (run [.raise .energy (bit 6)] s)) :=
    (run_spares (l := [.raise .energy (bit 6)]) rfl).trans (run_spares (l := [.shown [] [.charge]]) rfl)
  have htold : Noticed (run [.shown [] [.charge]] (run [.raise .energy (bit 6)] s)) .energy 6 :=
    (run_follows _ _).notices _ _ hraise
  change Sourced s (run [.shown [] [.charge]] (run [.limitEval] (run [.shown [] [.charge]] (run [.shedEval]
    (run [.shown [] [.charge]] (run [.raise .energy (bit 6)] s))))))
  generalize run [.shown [] [.charge]] (run [.raise .energy (bit 6)] s) = a at hbefore htold
  have hshed := run_shedEval [] a
  have hchange := run_shedEval_noticed a
  have hlater := (run_follows [.shedEval] a).notices _ _ htold
  rw [hbefore.shed] at hchange
  generalize run [.shedEval] a = x at hshed hchange hlater
  have hnext := (run_follows [.shown [] [.charge]] x).trans (run_follows [.limitEval] (run [.shown [] [.charge]] x))
  have hlimit := run_limitEval [] (run [.shown [] [.charge]] x)
  generalize run [.limitEval] (run [.shown [] [.charge]] x) = y at hnext hlimit
  have hend : Sourced s y := {
    shed := hnext.shed_eq hshed
    limit := hlimit
    source := hnext.notices _ _ hlater
    change := fun hne => hnext.notices _ _ (hchange (by rwa [hshed, ← shedOf_congr hnext.steady, ← hnext.shed_eq hshed])) }
  exact hend.follows (run_follows _ _)

theorem sourceChange_aloof (h : Cared k d s) : SameInputs s (runEach sourceChange s) ∧ Cared k d (runEach sourceChange s) := by
  obtain ⟨h1, c1⟩ := run_aloof h (l := [.raise .energy (bit 6)]) rfl
  obtain ⟨h2, c2⟩ := run_aloof c1 (l := [.shown [] [.charge]]) rfl
  obtain ⟨h3, c3⟩ := run_shedEval_aloof c2
  obtain ⟨h4, c4⟩ := run_aloof c3 (l := [.shown [] [.charge]]) rfl
  obtain ⟨h5, c5⟩ := run_limitEval_aloof c4
  obtain ⟨h6, c6⟩ := run_aloof c5 (l := [.shown [] [.charge]]) rfl
  exact ⟨((((SameInputs.trans h1.input h2.input).trans h3).trans h4.input).trans h5).trans h6.input, c6⟩

theorem setSource_frame (i : VehicleInput) (b : Bool) (s : State) : (setSource i b s).interlock = s.interlock ∧
    (setSource i b s).outlets = s.outlets ∧ (setSource i b s).charge.shedLevel = s.charge.shedLevel := by
  cases i <;> exact ⟨rfl, rfl, rfl⟩

theorem sourceTaken_follows (i : VehicleInput) (b : Bool) (s : State) : (setSource i b s).Follows (sourceTaken i b s) :=
  runEach_follows _ _

theorem sourceTaken_aloof (i : VehicleInput) (b : Bool) (h : Cared k d s) :
    SameInputs s (sourceTaken i b s) ∧ Cared k d (sourceTaken i b s) := by
  obtain ⟨hi, ho, -⟩ := setSource_frame i b s
  have hset := h.congr ho
  have hend : SameInputs (setSource i b s) (sourceTaken i b s) ∧ Cared k d (sourceTaken i b s) := by
    cases i with
    | shorePresent | engineRun => exact sourceChange_aloof hset
    | ignition | door => exact ⟨fun _ => rfl, hset⟩
  exact ⟨SameInputs.trans (.of_eq hi) hend.1, hend.2⟩

theorem sourceTaken_sourced (b : Bool) (hi : i = .shorePresent ∨ i = .engineRun) (s : State) : Sourced s (sourceTaken i b s) := by
  obtain ⟨-, -, hshed⟩ := setSource_frame i b s
  have h : Sourced (setSource i b s) (sourceTaken i b s) := by
    rcases hi with rfl | rfl <;> exact sourceChange_sourced _
  exact ⟨h.shed, h.limit, h.source, hshed ▸ h.change⟩

/-! ### The split relay (R53) -/

/-- R53: ENGINE RUN demands a relay that is OFF or TRIPPED. -/
theorem run_relayDemand (x : Demand) (h : (outlet s 6).state = .off ∨ (outlet s 6).state = .tripped) :
    (outlet (run [.req (.demand 6 x)] s) 6).demand = some x := by
  have htake : Run.Reaches 3 { st := s, work := [.req (.demand 6 x)] }
      (Run.takeDemand 6 x { st := s, work := [.flush, .actEnd, .restore false], acting := 1 }) :=
    .trans (a := 2) (b := 1) ⟨2, le_rfl, rfl⟩ (.step rfl rfl)
  have hdemand : ∀ y : State, (outlet (setDemand 6 (some x) y) 6).demand = some x := fun y => by rw [outlet_setDemand, if_pos rfl]
  have hshuns : (Run.takeDemand 6 x { st := s, work := [.flush, .actEnd, .restore false], acting := 1 }).Shuns .demand (some x) := by
    have hset : ({ st := setDemand 6 (some x) s, work := [.flush, .actEnd, .restore false], acting := 1 } : Run).Shuns .demand (some x) :=
      ⟨rfl, nofun, fun _ => hdemand s, nofun⟩
    unfold Run.takeDemand
    rcases h with e | e
    · simp only [e]
      exact (hset.newRequest (o := 6)).push rfl
    · simp only [e]
      exact ⟨hset.work, hset.deferred, hset.demand, hset.dark⟩
  exact (htake.run_aloof (by decide) hshuns).2.1 rfl

/-- R53: ENGINE RUN withdraws the relay. -/
theorem run_relayWithdraw (s : State) : (outlet (run [.req (.withdraw 6)] s) 6).demand = none ∧
    ((outlet (run [.req (.withdraw 6)] s) 6).state = .off ∨ (outlet (run [.req (.withdraw 6)] s) 6).state = .tripped) := by
  have htake : Run.Reaches 3 { st := s, work := [.req (.withdraw 6)] }
      (Run.takeWithdraw 6 { st := s, work := [.flush, .actEnd, .restore false], acting := 1 }) :=
    .trans (a := 2) (b := 1) ⟨2, le_rfl, rfl⟩ (.step rfl rfl)
  have hdemand : (outlet (setDemand 6 none s) 6).demand = none := by rw [outlet_setDemand, if_pos rfl]
  have hstate : (outlet (setDemand 6 none s) 6).state = (outlet s 6).state := by rw [outlet_setDemand, if_pos rfl]
  have hshuns : (Run.takeWithdraw 6 { st := s, work := [.flush, .actEnd, .restore false], acting := 1 }).Shuns .dark none := by
    by_cases h : (outlet s 6).state = .off ∨ (outlet s 6).state = .tripped
    · have hset : ({ st := setDemand 6 none s, work := [.flush, .actEnd, .restore false], acting := 1 } : Run).Shuns .dark none :=
        ⟨rfl, nofun, fun _ => hdemand, fun _ => hstate ▸ h⟩
      unfold Run.takeWithdraw
      rcases h with e | e
      · simp only [e]; exact hset
      · simp only [e]; exact hset
    · obtain ⟨h1, h2⟩ := not_or.1 h
      obtain ⟨hoff, hnone, -⟩ := outlet_withdrawn_same (o := 6) s
      rw [takeWithdraw_eq h1 h2]
      exact ⟨rfl, nofun, fun _ => hnone, fun _ => .inl hoff⟩
  obtain ⟨-, hc⟩ := htake.run_aloof (by decide) hshuns
  exact ⟨hc.1 rfl, hc.2 rfl⟩

theorem relayActs_aloof (i : VehicleInput) (b : Bool) (s : State) : Aloof .none (relayActs i b s) := by
  unfold relayActs
  split
  · exact aloof_cons.2 ⟨Bool.or_true _, aloof_nil⟩
  · exact aloof_nil

end Sys2Proof.Machine
end

section
/-!
SUPPORT. What the taking of a vehicle input leaves, in STARTING and from ACTIVE on (`Taken`): the first part of O43.
-/
namespace Sys2Proof.Machine

variable {s t u : State} {i : VehicleInput} {b : Bool} {l : List Act}

theorem setSource_steady_congr (i : VehicleInput) (b : Bool) (h : t.steady = s.steady) :
    (setSource i b t).steady = (setSource i b s).steady := by
  cases i with
  | shorePresent => exact congrArg (fun x : Steady => { x with shore := b }) h
  | engineRun => exact congrArg (fun x : Steady => { x with alternator := b }) h
  | ignition | door => exact h

/-- What the taking of an input leaves: its signal, its level and source flag, and what a change of a source hands on. -/
structure Taken (i : VehicleInput) (b : Bool) (s t : State) : Prop where
  input : sigVal t (inputSignal i) = b2n b
  steady : t.steady = (setSource i b (takeLine (.vehicle i) b s)).steady
  sourced : i = .shorePresent ∨ i = .engineRun → Sourced s t

namespace Taken

theorem follows (h : Taken i b s t) (g : t.Follows u) (hi : SameInputs t u) : Taken i b s u :=
  ⟨(hi i).trans h.input, g.steady.trans h.steady, fun hs => (h.sourced hs).follows g⟩

/-- R50 to R52, R56: the signal, the blocks beside it, the sources. -/
theorem of_acts (hl : Aloof .none l) (s : State) : Taken i b s (sourceTaken i b (runEach l (signalTaken i b s))) := by
  obtain ⟨hinput, hshed, -⟩ := signalTaken_input (k := .none) (d := none) i b s
  have hsteady := signalTaken_steady i b s
  generalize signalTaken i b s = x at *
  obtain ⟨hspares, -⟩ := runEach_aloof l (cared_none x) hl
  have hsame := (runEach_follows l x).steady.trans hsteady
  generalize runEach l x = y at *
  refine ⟨?_, ?_, fun hi => ?_⟩
  · exact ((sourceTaken_aloof i b (cared_none y)).1 i).trans ((hspares.input i).trans hinput)
  · exact (sourceTaken_follows i b y).steady.trans (setSource_steady_congr i b hsame)
  · obtain ⟨h1, h2, h3, h4⟩ := sourceTaken_sourced b hi y
    exact ⟨h1, h2, h3, by rwa [hspares.shed, hshed] at h4⟩

/-- The taking in STARTING. -/
theorem of_signal (i : VehicleInput) (b : Bool) (s : State) : Taken i b s (sourceTaken i b (signalTaken i b s)) :=
  of_acts (l := []) aloof_nil s

theorem store (h : Taken i b s t) : t.store = s.store := by
  refine (congrArg Steady.store h.steady).trans ?_
  cases i <;> rfl

theorem lines (h : Taken i b s t) (j : FilteredInput) :
    lineOf t j = if j = .vehicle i then { lineOf s (.vehicle i) with level := b } else lineOf s j := by
  have hpins : t.pins = (takeLine (.vehicle i) b s).pins := by
    rw [show t.pins = (setSource i b (takeLine (.vehicle i) b s)).pins from congrArg Steady.pins h.steady]
    cases i <;> rfl
  have hline : lineOf t j = lineOf (takeLine (.vehicle i) b s) j := by unfold lineOf; rw [hpins]
  rw [hline, takeLine, lineOf_setLine]

theorem shore (h : Taken i b s t) (hi : i = .shorePresent) : t.charge.shore = b := by
  subst hi
  exact congrArg Steady.shore h.steady

theorem alternator (h : Taken i b s t) (hi : i = .engineRun) : t.charge.alternator = b := by
  subst hi
  exact congrArg Steady.alternator h.steady

theorem power (h : Taken i b s t) : t.charge.power = s.charge.power := by
  refine (congrArg Steady.power h.steady).trans ?_
  cases i <;> rfl

end Taken

/-! ### Waking (R61) -/

/-- The state in which an input is taken: awake where the input wakes the part. -/
def woken (i : VehicleInput) (b : Bool) (s : State) : State :=
  if wakesBy i b && s.charge.power == .rest then wake s else s

theorem woken_lines (i : VehicleInput) (b : Bool) (s : State) (j : FilteredInput) : lineOf (woken i b s) j = lineOf s j := by
  unfold woken
  split
  · unfold lineOf; rw [wake_pins s]
  · rfl

theorem woken_power (hw : wakesBy i b = true) (hs : s.charge.power ≠ .starting) : (woken i b s).charge.power = .active := by
  unfold woken
  cases hp : s.charge.power with
  | starting => exact absurd hp hs
  | active => simpa using hp
  | rest => rw [hw]; exact (wake_wakes s).1

theorem woken_of_source (hi : i = .shorePresent ∨ i = .engineRun) : woken i b s = s := by
  have hw : wakesBy i b = false := by rcases hi with rfl | rfl <;> cases b <;> rfl
  rw [woken, hw]
  rfl

/-! ### From ACTIVE on -/

theorem aloof_inputActs (i : VehicleInput) (b : Bool) : Aloof .none (inputActs i b) := by
  unfold inputActs
  split <;> rfl

/-- The state after the blocks, the sources and the split relay have been told. -/
def told (i : VehicleInput) (b : Bool) (s : State) : State :=
  let t := sourceTaken i b (runEach (inputActs i b) (signalTaken i b (woken i b s)))
  runEach (relayActs i b t) t

theorem inputTaken_eq (i : VehicleInput) (b : Bool) (s : State) :
    inputTaken i b s = idleCheck (if wakesBy i b then setIdle 0 (told i b s) else told i b s) := rfl

theorem told_taken (i : VehicleInput) (b : Bool) (s : State) : Taken i b (woken i b s) (told i b s) := by
  have h : Taken i b (woken i b s) (sourceTaken i b (runEach (inputActs i b) (signalTaken i b (woken i b s)))) :=
    .of_acts (aloof_inputActs i b) _
  unfold told
  generalize sourceTaken i b (runEach (inputActs i b) (signalTaken i b (woken i b s))) = x at h
  exact h.follows (runEach_follows _ x) (runEach_aloof _ (cared_none x) (relayActs_aloof i b x)).1.input

theorem idleCheck_inputs (s : State) : SameInputs s (idleCheck s) := .of_eq (idleCheck_shows s).interlock

theorem inputTaken_taken (i : VehicleInput) (b : Bool) (s : State) : Taken i b (woken i b s) (inputTaken i b s) := by
  have h := told_taken i b s
  rw [inputTaken_eq]
  generalize told i b s = x at h
  split
  · exact (h.follows (setIdle_follows x) (.of_eq rfl)).follows (idleCheck_follows _) (idleCheck_inputs _)
  · exact h.follows (idleCheck_follows _) (idleCheck_inputs _)

theorem inputTaken_outlets (i : VehicleInput) (b : Bool) (s : State) : (inputTaken i b s).outlets = (told i b s).outlets := by
  rw [inputTaken_eq, idleCheck_outlets]
  split <;> rfl

/-- R58, R61: an input that wakes the part leaves the idle timer at 0. -/
theorem inputTaken_idle (hw : wakesBy i b = true) (s : State) : (inputTaken i b s).charge.idle = 0 := by
  rw [inputTaken_eq, if_pos hw, idleCheck]
  split <;> rfl

/-- R53: the split relay follows ENGINE RUN. -/
theorem inputTaken_relay (b : Bool) (s : State) :
    (b = true → ((outlet s 6).state = .off ∨ (outlet s 6).state = .tripped) →
      (outlet (inputTaken .engineRun b s) 6).demand = some { charge := ratedOf s 6 }) ∧
    (b = false → (outlet (inputTaken .engineRun b s) 6).demand = none ∧
      ((outlet (inputTaken .engineRun b s) 6).state = .off ∨ (outlet (inputTaken .engineRun b s) 6).state = .tripped)) := by
  have hwoken : woken .engineRun b s = s := woken_of_source (.inr rfl)
  have hstore := (Taken.of_signal .engineRun b s).store
  have htold : told .engineRun b s =
      run (relayActs .engineRun b (sourceTaken .engineRun b (signalTaken .engineRun b s)))
        (sourceTaken .engineRun b (signalTaken .engineRun b s)) := by
    unfold told
    rw [hwoken]
    rfl
  have hdark : (outlet s 6).state = .off ∨ (outlet s 6).state = .tripped →
      (outlet (sourceTaken .engineRun b (signalTaken .engineRun b s)) 6).state = .off ∨
        (outlet (sourceTaken .engineRun b (signalTaken .engineRun b s)) 6).state = .tripped := fun h =>
    have hcared : Cared .dark (outlet s 6).demand s := ⟨fun _ => rfl, fun _ => h⟩
    (sourceTaken_aloof .engineRun b ((signalTaken_input .engineRun b s).2.2 hcared)).2.2 rfl
  simp only [outlet_congr (inputTaken_outlets .engineRun b s), htold]
  generalize sourceTaken .engineRun b (signalTaken .engineRun b s) = x at *
  have hrated : ratedOf x 6 = ratedOf s 6 := by rw [ratedOf, ratedOf, cfg, cfg, hstore]
  refine ⟨fun hb h => ?_, fun hb => ?_⟩
  · subst hb
    rw [← hrated]
    exact run_relayDemand _ (hdark h)
  · subst hb
    exact run_relayWithdraw x

/-! ### The taking of an input -/

theorem vehicleTaken_starting (hraw : (lineOf s (.vehicle i)).raw = b) (hl : (lineOf s (.vehicle i)).level ≠ b)
    (hp : s.charge.power = .starting) : vehicleTaken i b s = inputStarting i b s := by
  have hheld : held (.vehicle i) b s = true := by simp [held, hraw, hl]
  rw [vehicleTaken, if_pos hheld, if_pos hp]

theorem vehicleTaken_running (hraw : (lineOf s (.vehicle i)).raw = b) (hl : (lineOf s (.vehicle i)).level ≠ b)
    (hp : s.charge.power ≠ .starting) : vehicleTaken i b s = inputTaken i b s := by
  have hheld : held (.vehicle i) b s = true := by simp [held, hraw, hl]
  rw [vehicleTaken, if_pos hheld, if_neg hp]

/-- R50: what any taking of an input leaves, with respect to the state before it. -/
theorem vehicleTaken_taken (hraw : (lineOf s (.vehicle i)).raw = b) (hl : (lineOf s (.vehicle i)).level ≠ b) :
    ∃ w, Taken i b w (vehicleTaken i b s) ∧ (∀ j, lineOf w j = lineOf s j) ∧
      (i = .shorePresent ∨ i = .engineRun → w = s) := by
  by_cases hp : s.charge.power = .starting
  · rw [vehicleTaken_starting hraw hl hp]
    exact ⟨s, .of_signal i b s, fun _ => rfl, fun _ => rfl⟩
  · rw [vehicleTaken_running hraw hl hp]
    exact ⟨woken i b s, inputTaken_taken i b s, woken_lines i b s, woken_of_source⟩

end Sys2Proof.Machine
end

section
/-!
SUPPORT. A signal that changes no term but ones that bear on movers, where no mover moves outward; and what two quiet signals leave of
each other.
-/
namespace Sys2Proof.Machine

variable {s t u : State} {g : Signal} {v : Nat} {r : Run}

/-- `t` is `s` but for the interlock engine, the port and the digest. -/
def Informed (s t : State) : Prop := ∃ k p d, t = { s with interlock := k, port := p, ram := { s.ram with digest := d } }

namespace Informed

theorem refl (s : State) : Informed s s := ⟨_, _, _, rfl⟩

theorem trans (h : Informed s t) (g : Informed t u) : Informed s u := by
  obtain ⟨_, _, _, rfl⟩ := h
  obtain ⟨k, p, d, rfl⟩ := g
  exact ⟨k, p, d, rfl⟩

theorem movers (h : Informed s t) : t.movers = s.movers := by obtain ⟨_, _, _, rfl⟩ := h; rfl
theorem outlets (h : Informed s t) : t.outlets = s.outlets := by obtain ⟨_, _, _, rfl⟩ := h; rfl
theorem lights (h : Informed s t) : t.lights = s.lights := by obtain ⟨_, _, _, rfl⟩ := h; rfl
theorem store (h : Informed s t) : t.store = s.store := by obtain ⟨_, _, _, rfl⟩ := h; rfl
theorem pins (h : Informed s t) : t.pins = s.pins := by obtain ⟨_, _, _, rfl⟩ := h; rfl
theorem charge (h : Informed s t) : t.charge = s.charge := by obtain ⟨_, _, _, rfl⟩ := h; rfl
theorem scenes (h : Informed s t) : t.ram.scenes = s.ram.scenes := by obtain ⟨_, _, _, rfl⟩ := h; rfl

end Informed

theorem Heard.informed (h : Heard g v s t) : Informed s t := by
  obtain ⟨k, d, rfl⟩ := h.rest
  exact ⟨k, _, d, rfl⟩

/-! ### Block counts (R94, R96, R154) -/

/-- No mover moves outward. -/
def NoneOutward (s : State) : Prop := ∀ m v, (mover s m).move = some v → v.dir = .inward

theorem NoneOutward.congr (h : NoneOutward s) (ht : t.movers = s.movers) : NoneOutward t := fun m v e =>
  h m v (mover_congr ht m ▸ e)

theorem blockBegins_of_noneOutward (h : NoneOutward s) (m : Mover) : blockBegins m s = (s, []) := by
  unfold blockBegins
  split
  · next v e => rw [if_neg (by rw [h m v e]; decide)]
  · rfl

theorem setBlockCount_informed (m : Mover) (k : Nat) (s : State) :
    Informed s (setBlockCount m k s) ∧ (setBlockCount m k s).interlock.signals = s.interlock.signals := by
  cases m <;> exact ⟨⟨_, _, _, rfl⟩, rfl⟩

/-- R154: block begins says nothing to a mover that does not move outward. -/
theorem blockBegins_reaches (h : NoneOutward r.st) (m : Mover) (l : List Act) :
    Run.Reaches 2 { r with work := .blockBegins m :: l } { r with work := l } := by
  refine .trans (a := 1) (q := { r with acting := 0, work := .resume r.acting :: l }) (.step rfl ?_) (b := 1) (.step rfl rfl)
  simp only [perform, Run.react]
  rw [show (Run.apart { r with work := l }).st = r.st from rfl, blockBegins_of_noneOutward h]
  rfl

theorem blockRiseActs_reaches (h : NoneOutward r.st) (c : List Change) (m : Mover) (l : List Act) :
    ∃ t, (Informed r.st t ∧ t.interlock.signals = r.st.interlock.signals) ∧
      Run.Reaches 3 { r with work := blockRiseActs c m ++ l } { r with st := t, work := l } := by
  unfold blockRiseActs
  simp only
  split
  · generalize (net c (.blockOut m)).toNat = n
    have hcount := setBlockCount_informed m (blockCount r.st m + min n (activeBlocks r.st m - blockCount r.st m)) r.st
    have hrise : Run.Reaches 1 { r with work := .blockRise m n :: l }
        { r with
          st := (blockRise m n r.st).1
          work := (if blockCount r.st m = 0 ∧ 0 < min n (activeBlocks r.st m - blockCount r.st m) then
            [.blockBegins m] else []) ++ l } :=
      .step rfl rfl
    refine ⟨(blockRise m n r.st).1, hcount, hrise.trans (b := 2) ?_⟩
    split
    · exact blockBegins_reaches (r := { r with st := (blockRise m n r.st).1 }) (h.congr hcount.1.movers) m l
    · exact .refl 2 _
  · exact ⟨r.st, ⟨.refl _, rfl⟩, .refl 3 _⟩

theorem blockFallActs_reaches (r : Run) (c : List Change) (m : Mover) (l : List Act) :
    ∃ t, (Informed r.st t ∧ t.interlock.signals = r.st.interlock.signals) ∧
      Run.Reaches 1 { r with work := blockFallActs c m ++ l } { r with st := t, work := l } := by
  unfold blockFallActs
  simp only
  split
  · exact ⟨_, setBlockCount_informed m _ r.st, .step rfl rfl⟩
  · exact ⟨r.st, ⟨.refl _, rfl⟩, .refl 1 _⟩

theorem evalNotices_informed (l : List Nat) (b : Bool) (s : State) :
    Informed s (evalNotices l b s) ∧ (evalNotices l b s).interlock = s.interlock := by
  unfold evalNotices
  simp only
  split <;> split <;> exact ⟨⟨_, _, _, rfl⟩, rfl⟩

/-- No net change of these is an inhibit. -/
theorem net_inhibit {c : List Change} (h : ∀ e ∈ c, bearsOnMovers e.1 = true) (o : Nat) : net c (.inhibit o) = 0 := by
  unfold net
  rw [List.sum_eq_zero]
  intro x hx
  obtain ⟨e, he, rfl⟩ := List.mem_map.1 hx
  rw [if_neg]
  intro e'
  exact absurd (h e he) (by rw [e']; exact Bool.false_ne_true)

theorem handOut_of_bears {c : List Change} (h : ∀ e ∈ c, bearsOnMovers e.1 = true) :
    handOut c = blockRiseActs c .awning ++ (blockRiseActs c .step ++ (blockFallActs c .awning ++ (blockFallActs c .step ++
      [.notices (noticeCodes c) (decide (0 < net c .travelUnsafe)), .evalEnd]))) := by
  have hrises : netRises c = [] := List.filterMap_eq_nil_iff.2 fun o _ => by simp [net_inhibit h]
  have hfalls : netFalls c = [] := List.filterMap_eq_nil_iff.2 fun o _ => by simp [net_inhibit h]
  simp [handOut, hrises, hfalls]

/-- R93, R94: a signal that bears on movers alone, where none of them moves outward. -/
theorem signal_blocks_reaches (h : BlocksOnly r.st g v) (hn : NoneOutward r.st)
    (hd : r.acting ≠ 0 ∨ r.evals ≠ 0 ∨ r.deferred = []) (l : List Act) :
    ∃ t, (Informed r.st t ∧ t.interlock.signals = r.st.interlock.signals.set g.index v) ∧
      Run.Reaches 12 { r with work := .signal g v :: l } { r with st := t, work := l } := by
  by_cases hv : sigVal r.st g = v
  · refine ⟨r.st, ⟨.refl _, ?_⟩, 1, by omega, ?_⟩
    · subst hv
      exact (Vector.set_getElem_self _).symm
    · simp only [firstActs, perform, Run.signal, if_pos hv]
  · obtain ⟨hev, hbears⟩ := h.resolve_left hv
    have heval : Run.Reaches 1 { r with work := .signal g v :: l }
        { r with
          st := (evaluate (fun b => b.names g) (fun t => TermRec.names t g) (setSignal g v r.st)).1
          evals := r.evals + 1
          work := handOut (evaluate (fun b => b.names g) (fun t => TermRec.names t g) (setSignal g v r.st)).2 ++ l } := by
      refine .step rfl ?_
      simp only [perform, Run.signal, if_neg hv, if_pos hev]
      rfl
    have hset : Informed r.st (evaluate (fun b => b.names g) (fun t => TermRec.names t g) (setSignal g v r.st)).1 ∧
        (evaluate (fun b => b.names g) (fun t => TermRec.names t g) (setSignal g v r.st)).1.interlock.signals =
          r.st.interlock.signals.set g.index v := ⟨⟨_, _, _, rfl⟩, rfl⟩
    rw [handOut_of_bears hbears] at heval
    generalize (evaluate (fun b => b.names g) (fun t => TermRec.names t g) (setSignal g v r.st)).2 = c at heval
    generalize (evaluate (fun b => b.names g) (fun t => TermRec.names t g) (setSignal g v r.st)).1 = x at heval hset
    simp only [List.append_assoc] at heval
    obtain ⟨x1, h1, p1⟩ := blockRiseActs_reaches (r := { r with st := x, evals := r.evals + 1 }) (hn.congr hset.1.movers) c .awning
      (blockRiseActs c .step ++ (blockFallActs c .awning ++ (blockFallActs c .step ++
      ([.notices (noticeCodes c) (decide (0 < net c .travelUnsafe)), .evalEnd] ++ l))))
    have g1 := hset.1.trans h1.1
    obtain ⟨x2, h2, p2⟩ := blockRiseActs_reaches (r := { r with st := x1, evals := r.evals + 1 }) (hn.congr g1.movers) c .step
      (blockFallActs c .awning ++ (blockFallActs c .step ++
      ([.notices (noticeCodes c) (decide (0 < net c .travelUnsafe)), .evalEnd] ++ l)))
    obtain ⟨x3, h3, p3⟩ := blockFallActs_reaches { r with st := x2, evals := r.evals + 1 } c .awning
      (blockFallActs c .step ++ ([.notices (noticeCodes c) (decide (0 < net c .travelUnsafe)), .evalEnd] ++ l))
    obtain ⟨x4, h4, p4⟩ := blockFallActs_reaches { r with st := x3, evals := r.evals + 1 } c .step
      ([.notices (noticeCodes c) (decide (0 < net c .travelUnsafe)), .evalEnd] ++ l)
    obtain ⟨h5, e5⟩ := evalNotices_informed (noticeCodes c) (decide (0 < net c .travelUnsafe)) x4
    have hnotices : Run.Reaches 1
        { r with st := x4, evals := r.evals + 1
                 work := [.notices (noticeCodes c) (decide (0 < net c .travelUnsafe)), .evalEnd] ++ l }
        { r with st := evalNotices (noticeCodes c) (decide (0 < net c .travelUnsafe)) x4, evals := r.evals + 1, work := .evalEnd :: l } :=
      .step rfl rfl
    generalize evalNotices (noticeCodes c) (decide (0 < net c .travelUnsafe)) x4 = y at *
    refine ⟨y, ⟨(((g1.trans h2.1).trans h3.1).trans h4.1).trans h5, ?_⟩, ?_⟩
    · rw [e5, h4.2, h3.2, h2.2, h1.2, hset.2]
    · exact heval.trans (b := 11) (p1.trans (b := 8) (p2.trans (b := 5) (p3.trans (b := 4) (p4.trans (b := 3) (hnotices.trans
        (evalEnd_reaches (r := { r with st := y }) hd l))))))

end Sys2Proof.Machine
end

section
/-!
SUPPORT. A mover that claims a free bridge: the demand granted at once, the drive started, and what that leaves (R145, R147, R148).
-/
namespace Sys2Proof.Machine

variable {s t u : State} {o q : Fin 16} {d : Demand} {m : Mover} {v : Move}

/-! ### A demand granted at once (R68) -/

/-- The request as it stands before its decision. -/
def asked (o : Fin 16) (d : Demand) (s : State) : State := newRequest o (setDemand o (some d) s)

/-- The outlet ON with this new demand. -/
def granted (o : Fin 16) (d : Demand) (s : State) : State := grantOutlet o (asked o d s)

theorem outlet_asked (o q : Fin 16) (d : Demand) (s : State) :
    outlet (asked o d s) q =
      if q = o then { outlet s o with demand := some d, requestOrder := s.outlets.nextRequest } else outlet s q := by
  refine (outlet_setOutlet o q _ (setDemand o (some d) s)).trans ?_
  rw [outlet_setDemand, outlet_setDemand, if_pos rfl]
  by_cases h : q = o
  · rw [if_pos h, if_pos h]; rfl
  · rw [if_neg h, if_neg h, if_neg h]

theorem requested_asked (o : Fin 16) (d : Demand) (s : State) : requested (asked o d s) o = d.charge := by
  rw [requested, outlet_asked, if_pos rfl]

theorem outlet_granted (o q : Fin 16) (d : Demand) (s : State) :
    outlet (granted o d s) q = if q = o then { outlet (asked o d s) o with
      state := .on, charge := d.charge, grantOrder := s.outlets.nextGrant, measured := 0, sum := 0, samples := 0
      whole := false, overMs := 0, pullIn := decide (o = 1 ∨ o = 7) } else outlet s q := by
  refine (outlet_setOutlet o q _ (asked o d s)).trans ?_
  by_cases h : q = o
  · rw [if_pos h, if_pos h, requested_asked]; rfl
  · rw [if_neg h, if_neg h, outlet_asked, if_neg h]

theorem granted_on (o : Fin 16) (d : Demand) (s : State) : (outlet (granted o d s) o).state = .on ∧
    (outlet (granted o d s) o).charge = d.charge ∧ (outlet (granted o d s) o).demand = some d := by
  rw [outlet_granted, if_pos rfl, outlet_asked, if_pos rfl]
  exact ⟨rfl, rfl, rfl⟩

theorem granted_other (h : q ≠ o) (d : Demand) (s : State) : outlet (granted o d s) q = outlet s q := by
  rw [outlet_granted, if_neg h]

theorem grantedTotal_asked (o : Fin 16) (d : Demand) (s : State) : grantedTotal (asked o d s) = grantedTotal s := by
  refine grantedTotal_congr fun q => ?_
  rw [outlet_asked]
  split
  · next e => rw [e]
  · rfl

/-- R68, R85: a demand of an outlet that is OFF, not inhibited, not shed and fits, up to the report of its grant. -/
theorem demand_granted_reaches (hoff : (outlet s o).state = .off) (hin : (outlet s o).inhibit = 0)
    (hshed : isShed (asked o d s) o = false)
    (hfit : grantedTotal s + d.charge ≤ s.outlets.limit) (l : List Act) :
    Run.Reaches 5 { st := s, work := .req (.demand o d) :: l }
      { st := granted o d s, work := .report o .off .on :: .flush :: .actEnd :: .restore false :: l, acting := 1, told := true } := by
  have htake : Run.Reaches 3 { st := s, work := .req (.demand o d) :: l }
      { st := asked o d s, work := .judge o :: .flush :: .actEnd :: .restore false :: l, acting := 1 } := by
    refine .trans (a := 2) (q := { st := s, work := .take (.demand o d) :: .flush :: .actEnd :: .restore false :: l, acting := 1 })
      ⟨2, le_rfl, rfl⟩ (b := 1) (.step rfl ?_)
    show Run.takeDemand o d { st := s, work := .flush :: .actEnd :: .restore false :: l, acting := 1 } = _
    unfold Run.takeDemand
    simp only [hoff]
    rfl
  have hjudge : Run.Reaches 1 { st := asked o d s, work := .judge o :: .flush :: .actEnd :: .restore false :: l, acting := 1 }
      { st := granted o d s, work := .flush :: .actEnd :: .restore false :: l, acting := 1, changed := [(o, .off, .on)] } := by
    refine .step rfl ?_
    have hfits : fits (asked o d s) o = true := by
      rw [fits, grantedTotal_asked, requested_asked]
      exact decide_eq_true hfit
    have hclear : (outlet (asked o d s) o).inhibit = 0 := by rw [outlet_asked, if_pos rfl]; exact hin
    have hstate : (outlet (asked o d s) o).state = .off := by rw [outlet_asked, if_pos rfl]; exact hoff
    simp only [perform, Run.judge, hclear, hshed, hfits, ne_eq, not_true_eq_false, if_false, if_true, Bool.false_eq_true,
      Run.grant, hstate]
    rfl
  exact htake.trans (hjudge.trans (b := 1) (.step rfl rfl))

/-- What follows the reports of an action that released no charge. -/
theorem flush_reaches_told (s : State) (l : List Act) : ∃ t, Shows s t ∧ Run.Reaches 6
    { st := s, work := .flush :: .actEnd :: .restore false :: l, acting := 1, told := true } { st := t, work := l } := by
  refine ⟨syncPart .outlets (afterReports s), (afterReports_shows s).trans (showAction_shows _ _ _), ?_⟩
  have htold : Run.Reaches 2 { st := s, work := .flush :: .actEnd :: .restore false :: l, acting := 1, told := true }
      { st := afterReports s, work := .flush :: .actEnd :: .restore false :: l, acting := 1 } := ⟨2, le_rfl, rfl⟩
  exact htold.trans (b := 4) ⟨4, le_rfl, rfl⟩

/-! ### The drive (R147, R148) -/

theorem mover_setMover_same (m : Mover) (x : MoverRec) (s : State) : mover (setMover m x s) m = x := by cases m <;> rfl

/-- The move as it drives. -/
def Move.started (v : Move) (creeping : Bool) : Move :=
  { v with driving := true, creeping := creeping, timer := 0, stall := 0, report := .on }

/-- The mover as it drives. -/
def MoverRec.started (x : MoverRec) (v : Move) (creeping : Bool) : MoverRec :=
  { x with
    state := if v.dir = .out then .movingOut else .movingIn
    lastDir := some v.dir, move := some (v.started creeping) }

theorem started_not_stowed (x : MoverRec) (v : Move) (c : Bool) : (x.started v c).state ≠ .stowed := by
  unfold MoverRec.started
  simp only
  split <;> decide

/-- R147, R148: the grant reported to the mover that owns the bridge starts its drive. -/
theorem bridgeReport_on (ho : s.movers.owner = some m) (hv : (mover s m).move = some v) (he : v.ending = false) (hd : v.driving = false)
    (hk : v.dir = .inward ∨ (mover s m).known = true) :
    ∃ c n, bridgeReport .on s =
      (setIdle 0 (setDuty n (setMover m ((mover s m).started v c) s)), [.stowSignal m, .shown [.mover m] []]) := by
  have hgo : ¬ (v.dir = .out ∧ (mover s m).known = false) := fun ⟨h1, h2⟩ => by
    rcases hk with h | h
    · rw [h] at h1; exact absurd h1 (by decide)
    · rw [h] at h2; exact absurd h2 (by decide)
  refine ⟨!(mover s m).known || decide (remaining s m v (mover s m).position ≤ v.creepCounts),
    if (!(mover s m).known || decide (remaining s m v (mover s m).position ≤ v.creepCounts)) then v.creep else v.run, ?_⟩
  unfold bridgeReport
  simp only [ho, hv, he, hd, Bool.false_eq_true, if_false]
  unfold driveStart
  rw [if_neg hgo]
  rfl

/-- What the claim of a free bridge leaves: the mover drives, the bridge is ON for it. -/
structure Driven (m : Mover) (v : Move) (s t : State) : Prop where
  move : ∃ c, mover t m = (mover s m).started v c
  owner : t.movers.owner = some m
  on : (outlet t 5).state = .on ∧ (outlet t 5).charge = bridgeCharge m ∧
    (outlet t 5).demand = some { charge := bridgeCharge m, dir := some v.dir }
  others : OtherOutletsKept s t 5

theorem Driven.congr (h : Driven m v s t) (hm : u.movers = t.movers) (ho : u.outlets.table = t.outlets.table) : Driven m v s u := by
  have hout : ∀ q, outlet u q = outlet t q := fun q => by rw [outlet, outlet, ho]
  obtain ⟨hmove, howner, hon, hothers⟩ := h
  exact ⟨by rwa [mover_congr hm], hm ▸ howner, by rwa [hout], fun q hq => (hout q).trans (hothers q hq)⟩

theorem setMover_owner (m : Mover) (x : MoverRec) (s : State) : (setMover m x s).movers.owner = s.movers.owner := by cases m <;> rfl

/-- R145, R147, R148: the claim of a free bridge by a move that waits for it. -/
theorem claim_reaches (hv : (mover s m).move = some v) (he : v.ending = false) (hd : v.driving = false)
    (hk : v.dir = .inward ∨ (mover s m).known = true) (hp : s.charge.power ≠ .starting)
    (hoff : (outlet s 5).state = .off) (hin : (outlet s 5).inhibit = 0)
    (hshed : v.dir = .out → classShed (configuredClass s 5) s.outlets.shedLevel = false)
    (hfit : grantedTotal s + bridgeCharge m ≤ s.outlets.limit) (hq : Quiet s (stowSig m) 0) (l : List Act) :
    ∃ t, Driven m v s t ∧ Run.Reaches 25 { st := s, work := .claim m :: l } { st := t, work := l } := by
  have hclaim : Run.Reaches 2 { st := s, work := .claim m :: l }
      { st := showAction [.mover m] [.bridge] (setBridgeOwner (some m) s)
        work := .req (.demand 5 { charge := bridgeCharge m, dir := some v.dir }) :: l } := by
    refine .trans (a := 1) (q := { st := setBridgeOwner (some m) s
                                   work := .shown [.mover m] [.bridge] ::
                                     .req (.demand 5 { charge := bridgeCharge m, dir := some v.dir }) :: l })
      (.step rfl ?_) (b := 1) (.step rfl rfl)
    simp only [perform, Run.react, claim, hv]
    rfl
  have hsame : (∀ k, mover (showAction [.mover m] [.bridge] (setBridgeOwner (some m) s)) k = mover s k) ∧
      (showAction [.mover m] [.bridge] (setBridgeOwner (some m) s)).movers.owner = some m ∧
      (showAction [.mover m] [.bridge] (setBridgeOwner (some m) s)).outlets = s.outlets ∧
      (showAction [.mover m] [.bridge] (setBridgeOwner (some m) s)).store = s.store ∧
      (showAction [.mover m] [.bridge] (setBridgeOwner (some m) s)).interlock = s.interlock ∧
      (showAction [.mover m] [.bridge] (setBridgeOwner (some m) s)).charge = s.charge :=
    ⟨fun k => by cases k <;> rfl, rfl, rfl, rfl, rfl, rfl⟩
  generalize showAction [.mover m] [.bridge] (setBridgeOwner (some m) s) = x at hclaim hsame
  obtain ⟨hmover, howner, houtlets, hstore, hinterlock, hcharge⟩ := hsame
  have hclass : isShed (asked 5 { charge := bridgeCharge m, dir := some v.dir } x) 5 = false := by
    have hconfigured : configuredClass (asked 5 { charge := bridgeCharge m, dir := some v.dir } x) 5 = configuredClass s 5 := by
      rw [configuredClass, configuredClass, cfg, cfg, ← hstore]; rfl
    have hlevel : (asked 5 { charge := bridgeCharge m, dir := some v.dir } x).outlets.shedLevel = s.outlets.shedLevel :=
      (congrArg Outlets.shedLevel houtlets :)
    rw [isShed, effClass, outlet_asked, if_pos rfl, hconfigured, hlevel]
    cases hdir : v.dir with
    | inward => rfl
    | out => exact hshed hdir
  have hgrant := demand_granted_reaches (s := x) (d := { charge := bridgeCharge m, dir := some v.dir }) (o := 5)
    (outlet_congr houtlets 5 ▸ hoff) (outlet_congr houtlets 5 ▸ hin) hclass
    (by rw [grantedTotal, houtlets]; exact hfit) l
  have hon := granted_on 5 { charge := bridgeCharge m, dir := some v.dir } x
  have hother := fun q (h : q ≠ 5) => (granted_other h { charge := bridgeCharge m, dir := some v.dir } x).trans
    (outlet_congr houtlets q)
  have hframe : (granted 5 { charge := bridgeCharge m, dir := some v.dir } x).movers = x.movers ∧
    (granted 5 { charge := bridgeCharge m, dir := some v.dir } x).interlock = x.interlock ∧
    (granted 5 { charge := bridgeCharge m, dir := some v.dir } x).charge = x.charge := ⟨rfl, rfl, rfl⟩
  generalize granted 5 { charge := bridgeCharge m, dir := some v.dir } x = y at hgrant hon hother hframe
  obtain ⟨hymovers, hyinterlock, hycharge⟩ := hframe
  have hymover : mover y m = mover s m := (mover_congr hymovers m).trans (hmover m)
  obtain ⟨c, n, hreport⟩ := bridgeReport_on (s := y) (v := v) (by rw [hymovers, howner])
    (by rw [hymover, hv]) he hd (by rwa [hymover])
  have hdrive : Run.Reaches 2
      { st := y, work := .report 5 .off .on :: .flush :: .actEnd :: .restore false :: l, acting := 1, told := true }
      { st := setIdle 0 (setDuty n (setMover m ((mover s m).started v c) y))
        work := .signal (stowSig m) 0 :: .shown [.mover m] [] :: .flush :: .actEnd :: .restore false :: l
        acting := 1, told := true } := by
    have hpower : y.charge.power ≠ .starting := by rwa [hycharge, hcharge]
    refine .trans (a := 1) (q := { st := setIdle 0 (setDuty n (setMover m ((mover s m).started v c) y))
                                   work := .stowSignal m :: .shown [.mover m] [] :: .flush :: .actEnd :: .restore false :: l
                                   acting := 1, told := true }) (.step rfl ?_) (b := 1) (.step rfl ?_)
    · simp only [perform, Run.react, ownerReport_bridge hpower, hreport, hymover]
      rfl
    · have hmoving : ((mover (setIdle 0 (setDuty n (setMover m ((mover s m).started v c) y))) m).state == .stowed) = false := by
        rw [show mover (setIdle 0 (setDuty n (setMover m ((mover s m).started v c) y))) m = (mover s m).started v c from
          mover_setMover_same m _ y]
        simpa using started_not_stowed (mover s m) v c
      simp only [perform, Run.react, stowSignal, hmoving]
      rfl
  have hdriven : Driven m v s (setIdle 0 (setDuty n (setMover m ((mover s m).started v c) y))) := {
    move := ⟨c, mover_setMover_same m _ y⟩
    owner := (setMover_owner m _ y).trans (by rw [hymovers, howner])
    on := by
      rw [show outlet (setIdle 0 (setDuty n (setMover m ((mover s m).started v c) y))) 5 = outlet y 5 from by cases m <;> rfl]
      exact hon
    others := fun q hq => (show outlet (setIdle 0 (setDuty n (setMover m ((mover s m).started v c) y))) q = outlet y q by
      cases m <;> rfl).trans (hother q hq) }
  have hzinterlock : (setIdle 0 (setDuty n (setMover m ((mover s m).started v c) y))).interlock = s.interlock := by
    rw [← hinterlock, ← hyinterlock]; cases m <;> rfl
  generalize setIdle 0 (setDuty n (setMover m ((mover s m).started v c) y)) = z at hdrive hdriven hzinterlock
  obtain ⟨w, hw, hsignal⟩ := signal_quiet_reaches (g := stowSig m) (v := 0) (r := { st := z, work := [], acting := 1, told := true })
    (hq.congr hzinterlock) (.inl one_ne_zero) (.shown [.mover m] [] :: .flush :: .actEnd :: .restore false :: l)
  have hshown : Run.Reaches 1
      { st := w, work := .shown [.mover m] [] :: .flush :: .actEnd :: .restore false :: l, acting := 1, told := true }
      { st := showAction [.mover m] [] w, work := .flush :: .actEnd :: .restore false :: l, acting := 1, told := true } := .step rfl rfl
  obtain ⟨t, ht, hflush⟩ := flush_reaches_told (showAction [.mover m] [] w) l
  refine ⟨t, ?_, ?_⟩
  · exact ((hdriven.congr hw.movers (by rw [hw.outlets])).congr (u := showAction [.mover m] [] w) rfl rfl).congr
      ht.movers (by rw [ht.outlets])
  · exact (((((hclaim.trans hgrant).trans hdrive).trans hsignal).trans hshown).trans hflush).mono (by decide)

end Sys2Proof.Machine
end

section
/-!
SUPPORT. The reactions of the movers and the lights to IGNITION and DOOR (R159, R160, R175).
-/
namespace Sys2Proof.Machine

variable {s t u : State} {m : Mover} {tag : MoveTag} {dir : Dir} {l : List Act}

/-! ### An automatic move on a free bridge -/

theorem setMover_outside (m : Mover) (x : MoverRec) (s : State) : (setMover m x s).outlets = s.outlets ∧
    (setMover m x s).store = s.store ∧ (setMover m x s).interlock = s.interlock ∧ (setMover m x s).charge = s.charge := by
  cases m <;> exact ⟨rfl, rfl, rfl, rfl⟩

theorem setPending_outside (m : Mover) (b : Bool) (s : State) : (setPending m b s).outlets = s.outlets ∧
    (setPending m b s).store = s.store ∧ (setPending m b s).interlock = s.interlock ∧ (setPending m b s).charge = s.charge ∧
    ∀ k, mover (setPending m b s) k = mover s k := by
  cases m <;> exact ⟨rfl, rfl, rfl, rfl, fun k => by cases k <;> rfl⟩

/-- R144: a stowed signal that is up to date is not handed on. -/
theorem stowSignal_same_reaches (h : sigVal s (stowSig m) = if (mover s m).state == .stowed then 1 else 0) (l : List Act) :
    ∃ t, (t.outlets = s.outlets ∧ t.store = s.store ∧ t.interlock = s.interlock ∧ t.charge = s.charge ∧
      ∀ k, mover t k = mover s k) ∧ Run.Reaches 2 { st := s, work := .stowSignal m :: l } { st := t, work := l } := by
  have hsend : Run.Reaches 1 { st := s, work := .stowSignal m :: l }
      { st := (stowSignal m s).1, work := .signal (stowSig m) (if (mover s m).state == .stowed then 1 else 0) :: l } := .step rfl rfl
  have hstate : (stowSignal m s).1.outlets = s.outlets ∧ (stowSignal m s).1.store = s.store ∧
      (stowSignal m s).1.interlock = s.interlock ∧ (stowSignal m s).1.charge = s.charge ∧
      ∀ k, mover (stowSignal m s).1 k = mover s k := by
    unfold stowSignal
    simp only
    split
    · exact setPending_outside m false s
    · exact ⟨rfl, rfl, rfl, rfl, fun _ => rfl⟩
  generalize (stowSignal m s).1 = x at hsend hstate
  refine ⟨x, hstate, hsend.trans (b := 1) (.step rfl ?_)⟩
  have hsame : sigVal x (stowSig m) = if (mover s m).state == .stowed then 1 else 0 := by
    rw [sigVal, hstate.2.2.1]; exact h
  simp only [perform, Run.signal, if_pos hsame]

theorem Driven.auto {x y : State} (h : Driven m (autoMove x m tag dir) y t) : DrivesAuto x t m tag dir := by
  obtain ⟨⟨c, hmove⟩, howner, ⟨hon, hcharge, hdemand⟩, -⟩ := h
  refine ⟨⟨(autoMove x m tag dir).started c, ?_, rfl, rfl, rfl, rfl, rfl, rfl, rfl⟩, ?_, howner, hon, hcharge, ?_⟩
  · rw [hmove]; rfl
  · rw [hmove]; rfl
  · rw [hdemand]; rfl

/-- R145, R159, R160: an automatic move starts on a free bridge and drives at once. -/
theorem autoStart_reaches (hfree : BridgeFree s m dir) (hstall : (mover s m).state ≠ .stalled)
    (hk : dir = .inward ∨ (mover s m).known = true) (hp : s.charge.power ≠ .starting)
    (hstow : sigVal s (stowSig m) = if (mover s m).state == .stowed then 1 else 0) (hq : Quiet s (stowSig m) 0) (l : List Act) :
    ∃ t, (DrivesAuto s t m tag dir ∧ OtherOutletsKept s t 5) ∧
      Run.Reaches 27 { st := (autoStart m tag dir s).1, work := (autoStart m tag dir s).2 ++ l } { st := t, work := l } := by
  obtain ⟨-, -, -, hoff, hin, hshed, hfit⟩ := hfree
  have hstart : autoStart m tag dir s =
      (setMover m { mover s m with move := some (autoMove s m tag dir) } s, [.stowSignal m, .claim m]) := by
    unfold autoStart leaveStalled
    simp only [if_neg hstall]
  rw [hstart]
  obtain ⟨houtlets, hstore, hinterlock, hcharge⟩ := setMover_outside m { mover s m with move := some (autoMove s m tag dir) } s
  have hmover := mover_setMover_same m { mover s m with move := some (autoMove s m tag dir) } s
  simp only [List.cons_append, List.nil_append]
  generalize setMover m { mover s m with move := some (autoMove s m tag dir) } s = x at *
  obtain ⟨y, ⟨hyo, hys, hyi, hyc, hym⟩, hsignal⟩ := stowSignal_same_reaches (s := x) (m := m)
    (by rw [sigVal, hinterlock, hmover]; exact hstow) (.claim m :: l)
  have houty : y.outlets = s.outlets := hyo.trans houtlets
  have hmovery : mover y m = { mover s m with move := some (autoMove s m tag dir) } := (hym m).trans hmover
  obtain ⟨t, ht, hclaim⟩ := claim_reaches (s := y) (m := m) (v := autoMove s m tag dir) (by rw [hmovery]) rfl rfl
    (by rw [hmovery]; exact hk) (by rwa [hyc, hcharge]) (by rw [outlet_congr houty]; exact hoff) (by rw [outlet_congr houty]; exact hin)
    (fun e => by rw [configuredClass, cfg, hys, hstore, houty]; exact hshed e)
    (by rw [grantedTotal, houty]; exact hfit) (hq.congr (hyi.trans hinterlock)) l
  exact ⟨t, ⟨ht.auto, fun q hq => (ht.others q hq).trans (outlet_congr houty q)⟩, hsignal.trans hclaim⟩

/-! ### IGNITION and DOOR from ACTIVE on -/

/-- R50: a press of IGNITION or DOOR in ACTIVE, but for the digest and the idle timer. -/
theorem vehicleInput_shows {i : VehicleInput} (hr : s.pins.reset = false) (hp : s.charge.power = .active)
    (hi : i = .ignition ∨ i = .door) (hline : lineOf s (.vehicle i) = { raw := true, level := false }) :
    ∃ t, exec (.vehicleInput i true) s = .next t ∧ Shows (runEach (inputActs i true) (signalTaken i true s)) t := by
  have htaken : vehicleTaken i true s = inputTaken i true s :=
    vehicleTaken_running (by rw [hline]) (by rw [hline]; decide) (by rw [hp]; decide)
  have hwoken : woken i true s = s := by
    rw [woken, hp]
    exact if_neg (by simp)
  have htold : told i true s = runEach (inputActs i true) (signalTaken i true s) := by
    unfold told
    rw [hwoken]
    rcases hi with rfl | rfl <;> rfl
  obtain ⟨d, hd⟩ := live_eq (f := vehicleTaken i true) hr
  refine ⟨live (vehicleTaken i true) s, rfl, ?_⟩
  rw [hd, htaken, inputTaken_eq, htold]
  generalize runEach (inputActs i true) (signalTaken i true s) = x
  refine Shows.trans ?_ ((idleCheck_shows _).trans ⟨d, _, rfl⟩)
  split
  · exact ⟨_, _, rfl⟩
  · exact .refl x

theorem signalTaken_blocks {i : VehicleInput} (h : BlocksOnly s (inputSignal i) 1) (hn : NoneOutward s) :
    Informed (takeLine (.vehicle i) true s) (signalTaken i true s) ∧
      (signalTaken i true s).interlock.signals = s.interlock.signals.set (inputSignal i).index 1 := by
  have hline : BlocksOnly (takeLine (.vehicle i) true s) (inputSignal i) 1 := h
  obtain ⟨t, ht, hreach⟩ := signal_blocks_reaches (r := { st := takeLine (.vehicle i) true s, work := [] }) hline
    (hn.congr rfl) (.inr (.inr rfl)) []
  have hrun : signalTaken i true s = t := hreach.run_eq (by decide)
  rw [hrun]
  exact ht

theorem signalTaken_quiet {i : VehicleInput} (h : Quiet s (inputSignal i) 1) :
    Heard (inputSignal i) 1 (takeLine (.vehicle i) true s) (signalTaken i true s) := by
  have hline : Quiet (takeLine (.vehicle i) true s) (inputSignal i) 1 := h
  obtain ⟨t, ht, hreach⟩ := signal_quiet_reaches (r := { st := takeLine (.vehicle i) true s, work := [] }) hline (.inr (.inr rfl)) []
  have hrun : signalTaken i true s = t := hreach.run_eq (by decide)
  rw [hrun]
  exact ht

/-! ### The recall of the entry scene (R172, R175) -/

theorem dropRecalls_nil (s : State) : dropRecalls [] s = s := by
  unfold dropRecalls
  simp

/-- The channels of a recall that can be retargeted at once: free, with a way to light or to fade, and a standing demand. -/
def Ready (s : State) (l : List Word) (c : Fin 6) : Prop :=
  (channel s c).owner = none ∧ (l.getD c.val 0 ≠ 0 ∨ (channel s c).output ≠ 0) ∧ (outlet s (lightOutlet c)).demand.isSome = true

/-- R165, R172: a channel's record with its new target. -/
def Channel.aimed (l : List Word) (n : LightOwner) (c : Fin 6) (x : Channel) : Channel :=
  { x with
    target := (l.getD c.val 0).toNat
    rampStep := rampStepOf x.output (l.getD c.val 0).toNat (l.getD 6 0).toNat, owner := some n }

theorem retarget_ready {l : List Word} {c : Fin 6} (h : Ready s l c) (n : LightOwner) :
    retarget l n c s = setChannel c ((channel s c).aimed l n c) s := by
  have hnone : (outlet s (lightOutlet c)).demand.isNone = false := by simp [h.2.2]
  unfold retarget
  simp only [hnone, Bool.and_false, Bool.not_false, Bool.and_true]
  rfl

/-- R164: a channel with a way to go and a standing demand asks for nothing. -/
theorem lightDemand_ready {l : List Word} {c : Fin 6} (h : Ready s l c) (n : LightOwner) :
    lightDemand (setChannel c ((channel s c).aimed l n c) s) c = [] := by
  obtain ⟨-, hway, hdemand⟩ := h
  have hchannel : channel (setChannel c ((channel s c).aimed l n c) s) c = (channel s c).aimed l n c := by
    rw [channel_setChannel, if_pos rfl]
  have hout : outlet (setChannel c ((channel s c).aimed l n c) s) (lightOutlet c) = outlet s (lightOutlet c) := rfl
  unfold lightDemand
  simp only [hchannel, hout]
  split
  · rw [if_neg (by rw [Option.isNone_iff_eq_none]; exact Option.isSome_iff_ne_none.1 hdemand)]
  · next hzero =>
    rw [if_neg]
    rintro ⟨hoff, -⟩
    refine hway.elim (fun hl => hzero ?_) (fun ho => ho hoff)
    exact Nat.pos_of_ne_zero fun e => hl (BitVec.eq_of_toNat_eq e)

/-- The channels with their new targets. -/
def aimAll (l : List Word) (n : LightOwner) : List (Fin 6) → State → State
  | [], s => s
  | c :: cs, s => aimAll l n cs (setChannel c ((channel s c).aimed l n c) s)

theorem channel_aimAll (l : List Word) (n : LightOwner) (q : Fin 6) (cs : List (Fin 6)) : ∀ s : State, cs.Nodup →
    channel (aimAll l n cs s) q = if q ∈ cs then (channel s q).aimed l n q else channel s q := by
  induction cs with
  | nil => exact fun _ _ => rfl
  | cons c cs ih =>
    intro s hcs
    obtain ⟨hc, hcs⟩ := List.nodup_cons.1 hcs
    rw [aimAll, ih _ hcs, channel_setChannel]
    by_cases hq : q = c
    · subst hq
      simp [hc]
    · simp [hq]

theorem aimAll_frame (l : List Word) (n : LightOwner) (cs : List (Fin 6)) : ∀ s : State,
    (aimAll l n cs s).outlets = s.outlets ∧ (aimAll l n cs s).lights.cache = s.lights.cache := by
  induction cs with
  | nil => exact fun _ => ⟨rfl, rfl⟩
  | cons c cs ih => exact fun s => ih (setChannel c ((channel s c).aimed l n c) s)

/-- R172: the channels of a recall that are ready are retargeted one after the other, and nothing else happens. -/
theorem recallOn_reaches (l : List Word) (n : LightOwner) (hit : Bool) (w : List Act) (cs : List (Fin 6)) : ∀ s : State, cs.Nodup →
    (∀ c ∈ cs, Ready s l c) → Run.Reaches cs.length { st := s, work := .recallOn l n hit cs [] :: w }
      { st := aimAll l n cs s, work := .recallOn l n hit [] [] :: w } := by
  induction cs with
  | nil => exact fun s _ _ => .refl 0 _
  | cons c cs ih =>
    intro s hcs hready
    obtain ⟨hc, hcs⟩ := List.nodup_cons.1 hcs
    have hfirst := hready c (by simp)
    have hlost : loseChannel n c (channel s c).owner [] = [] := by rw [hfirst.1]; rfl
    have hstep : Run.Reaches 1 { st := s, work := .recallOn l n hit (c :: cs) [] :: w }
        { st := setChannel c ((channel s c).aimed l n c) s, work := .recallOn l n hit cs [] :: w } := by
      refine .step rfl ?_
      simp only [perform, Run.react, recallStep, hlost, List.map_nil, dropRecalls_nil, retarget_ready hfirst, lightDemand_ready hfirst]
      rfl
    have hrest := ih (setChannel c ((channel s c).aimed l n c) s) hcs fun q hq => by
      have hne : q ≠ c := fun e => hc (e ▸ hq)
      have hq := hready q (by simp [hq])
      rw [Ready, channel_setChannel, if_neg hne]
      exact hq
    exact (hstep.trans hrest).mono (by simp; omega)

/-- A channel of the owner that is still on its way keeps the recall in hand. -/
theorem recallTest_onWay {n : LightOwner} {c : Fin 6} (ho : (channel s c).owner = some n) (ha : arrived s c = false) :
    recallTest n s = (s, []) := by
  have hnot : ¬ (ownedBy s n).all (arrived s) = true := fun h => by
    have hc := List.all_eq_true.1 h c (List.mem_filter.2 ⟨mem_channels c, by simp [ho]⟩)
    rw [ha] at hc
    exact Bool.false_ne_true hc
  unfold recallTest
  split
  · rw [if_neg hnot]
  · rfl

/-- A recall in hand. -/
def withRecall (x : Recall) (s : State) : State := { s with lights := { s.lights with recalls := x :: s.lights.recalls } }

/-- R172: a recall whose channels are ready and of which one has a way to go. -/
theorem recall_reaches {l : List Word} {n : LightOwner} {cs : List (Fin 6)} (hit : Bool) (hcs : cs.Nodup)
    (hready : ∀ c ∈ cs, Ready s l c)
    (hway : ∃ c ∈ cs, (outlet s (lightOutlet c)).state = .on ∧ (channel s c).output ≠ (l.getD c.val 0).toNat) :
    ∃ t, ((∀ c, channel t c = if c ∈ cs then (channel s c).aimed l n c else channel s c) ∧ t.outlets = s.outlets ∧
        t.lights.cache = s.lights.cache) ∧
      Run.Reaches (cs.length + 4) { st := s, work := [.recallOn l n hit cs []] } { st := t, work := [] } := by
  have haim := recallOn_reaches l n hit [] cs s hcs hready
  have hchannels := fun q => channel_aimAll l n q cs s hcs
  obtain ⟨houtlets, hcache⟩ := aimAll_frame l n cs s
  generalize aimAll l n cs s = a at *
  generalize hb : withRecall { owner := n, retargeted := (touched l).length, hit := hit } a = b
  have happlied : Run.Reaches 2 { st := a, work := [.recallOn l n hit [] []] }
      { st := b, work := [.recallTest n, .shown ((touched l).map Part.channel) recallParts] } := ⟨2, le_rfl, by subst hb; rfl⟩
  have htest : recallTest n b = (b, []) := by
    obtain ⟨c, hc, hon, hne⟩ := hway
    have hgoes : channel b c = (channel s c).aimed l n c := by subst hb; exact (hchannels c).trans (if_pos hc)
    have hlit : outlet b (lightOutlet c) = outlet s (lightOutlet c) := by subst hb; exact outlet_congr houtlets _
    refine recallTest_onWay (c := c) (by rw [hgoes]; rfl) ?_
    rw [arrived, heldDark, hgoes, hlit, hon]
    simp only [Channel.aimed, bne_self_eq_false, Bool.and_false, Bool.or_false]
    exact beq_eq_false_iff_ne.2 hne
  have hdone : Run.Reaches 1 { st := b, work := [.recallTest n, .shown ((touched l).map Part.channel) recallParts] }
      { st := b, work := [.shown ((touched l).map Part.channel) recallParts] } := by
    refine .step rfl ?_
    simp only [perform, Run.react, htest]
    rfl
  have hshown : Run.Reaches 1 { st := b, work := [.shown ((touched l).map Part.channel) recallParts] }
      { st := showAction ((touched l).map Part.channel) recallParts b, work := [] } := .step rfl rfl
  exact ⟨showAction ((touched l).map Part.channel) recallParts b, by subst hb; exact ⟨hchannels, houtlets, hcache⟩,
    haim.trans (happlied.trans (hdone.trans hshown))⟩

end Sys2Proof.Machine
end

section
/-!
PROOF. VEHICLE_INPUT (O43): what every taken input leaves, the retract on IGNITION, the extension and the entry scene on DOOR.
-/
namespace Sys2Proof.Machine

variable {s t : State}

/-- R50 to R53, R61: what every taken input leaves. -/
theorem vehicleInput_taken (s : State) (i : VehicleInput) (b : Bool) (hr : s.pins.reset = false)
    (hraw : (lineOf s (.vehicle i)).raw = b) (hl : (lineOf s (.vehicle i)).level ≠ b) :
    ∃ t, exec (.vehicleInput i b) s = .next t ∧ (lineOf t (.vehicle i)).level = b ∧
      (∀ j, j ≠ .vehicle i → lineOf t j = lineOf s j) ∧
      sigVal t (inputSignal i) = (if b then 1 else 0) ∧
      (i = .shorePresent → t.charge.shore = b) ∧ (i = .engineRun → t.charge.alternator = b) ∧
      ((i = .shorePresent ∨ i = .engineRun) → t.charge.shedLevel = shedOf t ∧ t.charge.limit = limitOf t ∧
        Noticed t .energy 6 ∧ (t.charge.shedLevel ≠ s.charge.shedLevel → Noticed t .energy 0)) ∧
      (b = true → (i = .ignition ∨ i = .door) → s.charge.power ≠ .starting → t.charge.power = .active ∧ t.charge.idle = 0) ∧
      (i = .engineRun → s.charge.power ≠ .starting →
        (b = true → ((outlet s 6).state = .off ∨ (outlet s 6).state = .tripped) →
          (outlet t 6).demand = some { charge := ratedOf s 6 }) ∧
        (b = false → (outlet t 6).demand = none ∧ ((outlet t 6).state = .off ∨ (outlet t 6).state = .tripped))) := by
  obtain ⟨d, hd⟩ := live_eq (f := vehicleTaken i b) hr
  obtain ⟨w, htaken, hlines, hsource⟩ := vehicleTaken_taken hraw hl
  have hwake : b = true → (i = .ignition ∨ i = .door) → s.charge.power ≠ .starting →
      (vehicleTaken i b s).charge.power = .active ∧ (vehicleTaken i b s).charge.idle = 0 := by
    intro hb hi hp
    have hw : wakesBy i b = true := by subst hb; rcases hi with rfl | rfl <;> rfl
    rw [vehicleTaken_running hraw hl hp]
    exact ⟨(inputTaken_taken i b s).power.trans (woken_power hw hp), inputTaken_idle hw s⟩
  have hrelay : i = .engineRun → s.charge.power ≠ .starting →
      (b = true → ((outlet s 6).state = .off ∨ (outlet s 6).state = .tripped) →
        (outlet (vehicleTaken i b s) 6).demand = some { charge := ratedOf s 6 }) ∧
      (b = false → (outlet (vehicleTaken i b s) 6).demand = none ∧
        ((outlet (vehicleTaken i b s) 6).state = .off ∨ (outlet (vehicleTaken i b s) 6).state = .tripped)) := by
    intro hi hp
    rw [vehicleTaken_running hraw hl hp]
    subst hi
    exact inputTaken_relay b s
  have hexec : exec (.vehicleInput i b) s = .next ((vehicleTaken i b s).withDigest d) := congrArg Host.Outcome.next hd
  generalize vehicleTaken i b s = x at *
  refine ⟨_, hexec, ?_, fun j hj => ?_, htaken.input, htaken.shore, htaken.alternator, fun hi => ?_, hwake, hrelay⟩
  · exact congrArg Line.level ((htaken.lines (.vehicle i)).trans (if_pos rfl))
  · exact (htaken.lines j).trans ((if_neg hj).trans (hlines j))
  · obtain ⟨hshed, hlimit, hnotice, hchange⟩ := htaken.sourced hi
    rw [hsource hi] at hchange
    exact ⟨hshed, hlimit, hnotice, hchange⟩

/-! ### The movers and the lights in a state that agrees -/

theorem BridgeFree.congr {m : Mover} {d : Dir} (h : BridgeFree s m d) (hm : t.movers = s.movers) (ho : t.outlets = s.outlets)
    (hs : t.store = s.store) : BridgeFree t m d := by
  unfold BridgeFree at h ⊢
  rw [outlet_congr ho, hm, ho, configuredClass, cfg, hs, grantedTotal, ho]
  exact h

theorem DrivesAuto.congr {x y : State} {m : Mover} {tag : MoveTag} {d : Dir} (h : DrivesAuto x y m tag d) (hs : x.store = s.store)
    (hm : t.movers = y.movers) (ho : t.outlets = y.outlets) : DrivesAuto s t m tag d := by
  unfold DrivesAuto cfg at h ⊢
  rw [mover_congr hm, outlet_congr ho, hm, ← hs]
  exact h

theorem isStowed_congr (h : t.movers = s.movers) (m : Mover) : isStowed t m = isStowed s m := by
  rw [isStowed, isStowed, mover_congr h]

theorem sigVal_of_set {g q : Signal} {v : Nat} (h : t.interlock.signals = s.interlock.signals.set g.index v) (hne : q.index ≠ g.index) :
    sigVal t q = sigVal s q := by
  have hset : sigVal t q = sigVal (setSignal g v s) q := by rw [sigVal, h]; rfl
  rw [hset, sigVal_setSignal, if_neg hne]

/-! ### IGNITION -/

/-- R159: IGNITION on an unstowed step with a free bridge. -/
theorem ignition_retracts (hr : s.pins.reset = false) (hp : s.charge.power = .active)
    (hline : s.pins.ignition = { raw := true, level := false }) (hout : isStowed s .step = false) (hsig : sigVal s .stepStowed = 0)
    (hblocks : BlocksOnly s .ignition 1) (hstall : (mover s .step).state ≠ .stalled) (hfree : BridgeFree s .step .inward) :
    ∃ t, exec (.vehicleInput .ignition true) s = .next t ∧ DrivesAuto s t .step .retract .inward ∧ OtherOutletsKept s t 5 := by
  obtain ⟨howner, hawning, hstep, -⟩ := id hfree
  have hnone : NoneOutward s := fun m v e => by
    cases m with
    | awning => rw [mover, hawning] at e; exact absurd e (by simp)
    | step => rw [mover, hstep] at e; exact absurd e (by simp)
  obtain ⟨t, hexec, hshows⟩ := vehicleInput_shows hr hp (.inl rfl) hline
  obtain ⟨hinf, hsignals⟩ := signalTaken_blocks (i := .ignition) hblocks hnone
  change Shows (run [.retract .step] (signalTaken .ignition true s)) t at hshows
  generalize signalTaken .ignition true s = x at *
  have hmovers : x.movers = s.movers := hinf.movers
  have houtlets : x.outlets = s.outlets := hinf.outlets
  have hstore : x.store = s.store := hinf.store
  have hpower : x.charge.power ≠ .starting := by rw [show x.charge = s.charge from hinf.charge, hp]; decide
  have hlow : sigVal x .stepStowed = 0 := (sigVal_of_set hsignals (by decide)).trans hsig
  have hmover : mover x .step = mover s .step := mover_congr hmovers .step
  have hstate : ((mover s .step).state == .stowed) = false := by
    have hmove : (mover s .step).move = none := hstep
    simpa [isStowed, hmove] using hout
  have hretract : Run.Reaches 1 { st := x, work := [.retract .step] }
      { st := (autoStart .step .retract .inward x).1, work := (autoStart .step .retract .inward x).2 ++ [] } := by
    refine .step rfl ?_
    have hmove : (mover x .step).move = none := by rw [hmover]; exact hstep
    have hstart : requestRetract .step x = autoStart .step .retract .inward x := by
      unfold requestRetract
      rw [isStowed_congr hmovers, hout, hmovers, howner, hmove]
      rfl
    simp only [perform, Run.react, hstart]
  obtain ⟨y, ⟨hdrives, hothers⟩, hreach⟩ := autoStart_reaches (s := x) (tag := .retract) (hfree.congr hmovers houtlets hstore)
    (by rw [hmover]; exact hstall) (.inl rfl) hpower (by rw [hmover, hstate]; exact hlow) (.inl hlow) []
  rw [(hretract.trans hreach).run_eq (by decide)] at hshows
  exact ⟨t, hexec, hdrives.congr hstore hshows.movers hshows.outlets, fun q hq =>
    (outlet_congr hshows.outlets q).trans ((hothers q hq).trans (outlet_congr houtlets q))⟩

/-- R145, R159: IGNITION while the bridge is owned leaves the retract pending. -/
theorem ignition_pends {h : Mover} (hr : s.pins.reset = false) (hp : s.charge.power = .active)
    (hline : s.pins.ignition = { raw := true, level := false }) (hout : isStowed s .step = false)
    (hblocks : BlocksOnly s .ignition 1) (howner : s.movers.owner = some h) (hnone : NoneOutward s) :
    ∃ t, exec (.vehicleInput .ignition true) s = .next t ∧ t.movers.pendingStep = true ∧ t.movers.owner = some h ∧
      t.outlets.table = s.outlets.table := by
  obtain ⟨t, hexec, hshows⟩ := vehicleInput_shows hr hp (.inl rfl) hline
  obtain ⟨hinf, -⟩ := signalTaken_blocks (i := .ignition) hblocks hnone
  change Shows (run [.retract .step] (signalTaken .ignition true s)) t at hshows
  generalize signalTaken .ignition true s = x at *
  have hmovers : x.movers = s.movers := hinf.movers
  have houtlets : x.outlets = s.outlets := hinf.outlets
  have hretract : Run.Reaches 2 { st := x, work := [.retract .step] }
      { st := showAction [] [.bridge] (setPending .step true x), work := [] } := by
    have hpend : requestRetract .step x = (setPending .step true x, [.shown [] [.bridge]]) := by
      unfold requestRetract
      rw [isStowed_congr hmovers, hout, hmovers, howner]
      simp
    refine .trans (a := 1) (q := { st := setPending .step true x, work := [.shown [] [.bridge]] }) (.step rfl ?_) (b := 1) (.step rfl rfl)
    simp only [perform, Run.react, hpend]
    rfl
  rw [hretract.run_eq (by decide)] at hshows
  refine ⟨t, hexec, ?_, ?_, ?_⟩
  · rw [hshows.movers]; rfl
  · rw [hshows.movers]; exact (congrArg (fun v => v.owner) hmovers :).trans howner
  · rw [hshows.outlets]; exact congrArg Outlets.table houtlets

/-! ### DOOR -/

theorem entryScene_congr (h : t.ram.scenes = s.ram.scenes) : entryScene t = entryScene s := by
  unfold entryScene sceneRecord
  rw [h]

/-- The state in which the movers and the lights hear of the door. -/
structure Opened (s x : State) : Prop where
  movers : x.movers = s.movers
  outlets : x.outlets = s.outlets
  lights : x.lights = s.lights
  store : x.store = s.store
  power : x.charge.power ≠ .starting
  ignition : x.pins.ignition.level = false
  scenes : x.ram.scenes = s.ram.scenes

/-- R50, R160, R175: DOOR in ACTIVE is the extension and then the entry scene. -/
theorem door_opens (hr : s.pins.reset = false) (hp : s.charge.power = .active) (hline : s.pins.door = { raw := true, level := false })
    (hign : s.pins.ignition.level = false) (hq : Quiet s .door 1) :
    ∃ t x, exec (.vehicleInput .door true) s = .next t ∧ Shows (run [.doorScene] (run [.extension] x)) t ∧ Opened s x ∧
      blockCount x .step = blockCount s .step ∧ sigVal x .stepStowed = sigVal s .stepStowed ∧
      (Quiet (setSignal .door 1 s) .stepStowed 0 → Quiet x .stepStowed 0) := by
  obtain ⟨t, hexec, hshows⟩ := vehicleInput_shows hr hp (.inr rfl) hline
  have hheard := signalTaken_quiet (i := .door) hq
  change Shows (run [.doorScene] (run [.extension] (signalTaken .door true s))) t at hshows
  generalize signalTaken .door true s = x at *
  have hinf := hheard.informed
  refine ⟨t, x, hexec, hshows, ⟨hinf.movers, hinf.outlets, hinf.lights, hinf.store, ?_, ?_, hinf.scenes⟩, hheard.step,
    sigVal_of_set (s := s) hheard.signals (by decide), fun h => hheard.quiet _ _ h⟩
  · rw [show x.charge = s.charge from hinf.charge, hp]; decide
  · rw [hinf.pins]; exact hign

/-- R175: without an entry scene the lights stay. -/
theorem run_doorScene_none (h : entryScene s = none) : run [.doorScene] s = s := by
  refine Run.Reaches.run_eq (n := 1) (by decide) (.step rfl ?_)
  have hscene : doorScene s = (s, []) := by
    unfold doorScene
    split
    · rfl
    · rw [h]
  simp only [perform, Run.react, hscene]
  rfl

/-- R160: a stowed step that is blocked, or whose bridge is owned, drops the extension. -/
theorem run_extension_drops (hign : s.pins.ignition.level = false) (hauto : Image.autoStep (cfg s) = true)
    (hstow : (mover s .step).state = .stowed) (hknown : (mover s .step).known = true)
    (hbusy : blockCount s .step ≠ 0 ∨ s.movers.owner ≠ none) : run [.extension] s = raise .movers (bit 9) s := by
  refine Run.Reaches.run_eq (n := 2) (by decide) (.trans (a := 1) (q := { st := s, work := [.raise .movers (bit 9)] })
    (.step rfl ?_) (b := 1) (.step rfl rfl))
  have hext : extension s = (s, [.raise .movers (bit 9)]) := by
    unfold extension
    simp only
    rw [if_pos ⟨hign, hauto, hstow, hknown⟩, if_pos hbusy]
  simp only [perform, Run.react, hext]
  rfl

/-- R160: a step that is not stowed is not extended. -/
theorem run_extension_unstowed (h : (mover s .step).state ≠ .stowed) : run [.extension] s = s := by
  refine Run.Reaches.run_eq (n := 1) (by decide) (.step rfl ?_)
  have hext : extension s = (s, []) := by
    unfold extension
    simp only
    rw [if_neg fun ⟨_, _, hs, _⟩ => h hs]
  simp only [perform, Run.react, hext]
  rfl

namespace Opened

variable {x : State}

theorem mover (h : Opened s x) (m : Mover) : mover x m = Machine.mover s m := mover_congr h.movers m

theorem entryScene (h : Opened s x) : entryScene x = Machine.entryScene s := entryScene_congr h.scenes

theorem cfg (h : Opened s x) : cfg x = Machine.cfg s := by rw [Machine.cfg, Machine.cfg, h.store]

theorem cacheOf (h : Opened s x) (n : Fin 32) : cacheOf x n = Machine.cacheOf s n := by
  unfold Machine.cacheOf cacheEntry
  rw [h.lights]

theorem outlet (h : Opened s x) (q : Fin 16) : outlet x q = Machine.outlet s q := outlet_congr h.outlets q

end Opened

/-- R160: the extension of a stowed step that is blocked or whose bridge is owned is dropped and told. -/
theorem door_drops (hr : s.pins.reset = false) (hp : s.charge.power = .active) (hline : s.pins.door = { raw := true, level := false })
    (hign : s.pins.ignition.level = false) (hq : Quiet s .door 1) (hscene : entryScene s = none)
    (hauto : Image.autoStep (cfg s) = true) (hstow : (mover s .step).state = .stowed) (hknown : (mover s .step).known = true)
    (hbusy : blockCount s .step ≠ 0 ∨ s.movers.owner ≠ none) :
    ∃ t, exec (.vehicleInput .door true) s = .next t ∧ t.movers = s.movers ∧ t.outlets.table = s.outlets.table ∧
      Noticed t .movers 9 := by
  obtain ⟨t, x, hexec, hshows, hopen, hblocked, -, -⟩ := door_opens hr hp hline hign hq
  have hext : run [.extension] x = raise .movers (bit 9) x :=
    run_extension_drops hopen.ignition (by rw [hopen.cfg]; exact hauto) (by rw [hopen.mover]; exact hstow)
      (by rw [hopen.mover]; exact hknown) (by rw [hblocked, hopen.movers]; exact hbusy)
  have hstill : entryScene (raise .movers (bit 9) x) = none := (entryScene_congr (s := x) rfl).trans (hopen.entryScene.trans hscene)
  rw [hext, run_doorScene_none hstill] at hshows
  refine ⟨t, hexec, hshows.movers.trans hopen.movers, ?_, ?_⟩
  · rw [hshows.outlets]; exact congrArg Outlets.table hopen.outlets
  · rw [Noticed, hshows.port]; exact raise_noticed .movers (by decide) x

/-- R160: the extension of a stowed step on a free bridge. -/
theorem door_extends (hr : s.pins.reset = false) (hp : s.charge.power = .active) (hline : s.pins.door = { raw := true, level := false })
    (hign : s.pins.ignition.level = false) (hq : Quiet s .door 1) (hscene : entryScene s = none)
    (hauto : Image.autoStep (cfg s) = true) (hstow : (mover s .step).state = .stowed) (hknown : (mover s .step).known = true)
    (hblock : blockCount s .step = 0) (hfree : BridgeFree s .step .out) (hsig : sigVal s .stepStowed = 1)
    (hquiet : Quiet (setSignal .door 1 s) .stepStowed 0) :
    ∃ t, exec (.vehicleInput .door true) s = .next t ∧ DrivesAuto s t .step .extend .out ∧ OtherOutletsKept s t 5 := by
  obtain ⟨t, x, hexec, hshows, hopen, hblocked, hsame, hheard⟩ := door_opens hr hp hline hign hq
  have hmover := hopen.mover .step
  have hext : Run.Reaches 1 { st := x, work := [.extension] }
      { st := (autoStart .step .extend .out x).1, work := (autoStart .step .extend .out x).2 ++ [] } := by
    refine .step rfl ?_
    have hstart : extension x = autoStart .step .extend .out x := by
      unfold extension
      simp only
      rw [if_pos ⟨hopen.ignition, by rw [hopen.cfg]; exact hauto, by rw [← hstow, ← hmover]; rfl,
          by rw [← hknown, ← hmover]; rfl⟩,
        hblocked, hblock, hopen.movers, hfree.1]
      rfl
    simp only [perform, Run.react, hstart]
  obtain ⟨y, ⟨hdrives, hothers⟩, hreach⟩ := autoStart_reaches (s := x) (tag := .extend)
    (hfree.congr hopen.movers hopen.outlets hopen.store) (by rw [hmover, hstow]; decide) (.inr (by rw [hmover]; exact hknown))
    hopen.power (by rw [hmover, hstow]; exact hsame.trans hsig) (hheard hquiet) []
  have hrun := (hext.trans hreach).run_eq (by decide)
  have hstill : entryScene y = none := by
    have hscenes : y.ram.scenes = x.ram.scenes := hrun ▸ congrArg Steady.scenes (run_steady [.extension] x)
    rw [entryScene_congr hscenes, hopen.entryScene, hscene]
  rw [hrun, run_doorScene_none hstill] at hshows
  exact ⟨t, hexec, hdrives.congr hopen.store hshows.movers hshows.outlets, fun q hq =>
    (outlet_congr hshows.outlets q).trans ((hothers q hq).trans (hopen.outlet q))⟩

/-- R175: without an entry scene the door of an unstowed step is only noted. -/
theorem door_notes (hr : s.pins.reset = false) (hp : s.charge.power = .active) (hline : s.pins.door = { raw := true, level := false })
    (hign : s.pins.ignition.level = false) (hq : Quiet s .door 1) (hstow : (mover s .step).state ≠ .stowed)
    (hscene : entryScene s = none) :
    ∃ t, exec (.vehicleInput .door true) s = .next t ∧ t.movers = s.movers ∧ t.lights = s.lights ∧
      t.outlets.table = s.outlets.table := by
  obtain ⟨t, x, hexec, hshows, hopen, -⟩ := door_opens hr hp hline hign hq
  rw [run_extension_unstowed (by rw [hopen.mover]; exact hstow), run_doorScene_none (hopen.entryScene.trans hscene)] at hshows
  exact ⟨t, hexec, hshows.movers.trans hopen.movers, hshows.lights.trans hopen.lights,
    by rw [hshows.outlets]; exact congrArg Outlets.table hopen.outlets⟩

/-- R168, R169, R175: an entry scene whose record fails the check. -/
theorem door_fails {k : Fin 32} {w : Nat} (hr : s.pins.reset = false) (hp : s.charge.power = .active)
    (hline : s.pins.door = { raw := true, level := false })
    (hign : s.pins.ignition.level = false) (hq : Quiet s .door 1) (hstow : (mover s .step).state ≠ .stowed)
    (hscene : entryScene s = some k) (hcache : cacheOf s k = none) (hbad : offending (sceneRecord s k) = some w) :
    ∃ t, exec (.vehicleInput .door true) s = .next t ∧ t.lights = { s.lights with lastEntry := some .badParam } ∧
      t.outlets.table = s.outlets.table ∧ Noticed t .lights 1 := by
  obtain ⟨t, x, hexec, hshows, hopen, -⟩ := door_opens hr hp hline hign hq
  have hrecord : sceneRecord x k = sceneRecord s k := by unfold sceneRecord; rw [hopen.scenes]
  have hrun : run [.doorScene] x = raise .lights (bit 1) { x with lights := { x.lights with lastEntry := some .badParam } } := by
    refine Run.Reaches.run_eq (n := 2) (by decide) (.trans (a := 1)
      (q := { st := { x with lights := { x.lights with lastEntry := some .badParam } }, work := [.raise .lights (bit 1)] })
      (.step rfl ?_) (b := 1) (.step rfl rfl))
    have hreact : doorScene x = ({ x with lights := { x.lights with lastEntry := some .badParam } }, [.raise .lights (bit 1)]) := by
      unfold doorScene lookup
      simp only [hopen.ignition, hopen.entryScene, hscene, hopen.cacheOf, hcache, hrecord, hbad]
      rfl
    simp only [perform, Run.react, hreact]
    rfl
  rw [run_extension_unstowed (by rw [hopen.mover]; exact hstow), hrun] at hshows
  refine ⟨t, hexec, ?_, ?_, ?_⟩
  · rw [hshows.lights, ← hopen.lights]; rfl
  · rw [hshows.outlets]; exact congrArg Outlets.table hopen.outlets
  · rw [Noticed, hshows.port]; exact raise_noticed .lights (by decide) _

/-- The record goes into the cache, and the entry recall takes its number (R169, R175). -/
def entryCached (k : Fin 32) (l : List Word) (s : State) : State :=
  { s with lights := { s.lights with
      cache := s.lights.cache.set s.lights.pointer { scene := k, valid := true, copy := l }
      pointer := s.lights.pointer + 1, nextEntry := s.lights.nextEntry + 1 } }

/-- R168 to R172, R175: an entry scene that passes the check and applies at once. -/
theorem door_recalls {k : Fin 32} (hr : s.pins.reset = false) (hp : s.charge.power = .active)
    (hline : s.pins.door = { raw := true, level := false })
    (hign : s.pins.ignition.level = false) (hq : Quiet s .door 1) (hstow : (mover s .step).state ≠ .stowed)
    (hscene : entryScene s = some k) (hcache : cacheOf s k = none) (hgood : offending (sceneRecord s k) = none)
    (happly : Applicable s (sceneRecord s k)) :
    ∃ t, exec (.vehicleInput .door true) s = .next t ∧ Retargeted s t (sceneRecord s k) (.entry s.lights.nextEntry) ∧
      t.outlets.table = s.outlets.table ∧ cacheEntry t s.lights.pointer = { scene := k, valid := true, copy := sceneRecord s k } := by
  obtain ⟨t, x, hexec, hshows, hopen, -⟩ := door_opens hr hp hline hign hq
  have hrecord : sceneRecord x k = sceneRecord s k := by unfold sceneRecord; rw [hopen.scenes]
  generalize sceneRecord s k = l at *
  have hreact : doorScene x = (entryCached k l x, [.recallOn l (.entry s.lights.nextEntry) false (touched l) []]) := by
    unfold doorScene lookup
    simp only [hopen.ignition, hopen.entryScene, hscene, hopen.cacheOf, hcache, hrecord, hgood, applyRecall]
    rw [← hopen.lights]
    rfl
  have hmem : ∀ c : Fin 6, c ∈ touched l ↔ l.getD c.val 0 ≠ 0xFFFF := fun c => by
    rw [touched, List.mem_filter, bne_iff_ne]
    exact and_iff_right (mem_channels c)
  have hchannel : ∀ c, channel (entryCached k l x) c = channel s c := fun c => (channel_congr hopen.lights c :)
  have hout : ∀ q, outlet (entryCached k l x) q = outlet s q := hopen.outlet
  obtain ⟨y, ⟨hchannels, houtlets, hkept⟩, hreach⟩ := recall_reaches
    (s := entryCached k l x) (l := l) (n := .entry s.lights.nextEntry) (cs := touched l) false ((List.nodup_finRange 6).filter _)
    (fun c hc => by
      obtain ⟨h1, h2, -, h4⟩ := happly.1 c ((hmem c).1 hc)
      rw [Ready, hchannel, hout]
      exact ⟨h1, h2, h4⟩)
    (by
      obtain ⟨c, hc, hway⟩ := happly.2
      refine ⟨c, (hmem c).2 hc, ?_⟩
      rw [hchannel, hout]
      exact ⟨(happly.1 c hc).2.2.1, hway⟩)
  have hshort : (touched l).length ≤ 6 := List.length_filter_le _ _
  have hrun : run [.doorScene] x = y := by
    refine Run.Reaches.run_eq (n := 1 + ((touched l).length + 4)) (by simp only [cascadeBound]; omega)
      (.trans (a := 1) (.step rfl ?_) hreach)
    simp only [perform, Run.react, hreact]
    rfl
  rw [run_extension_unstowed (by rw [hopen.mover]; exact hstow), hrun] at hshows
  refine ⟨t, hexec, fun c => ?_, ?_, ?_⟩
  · rw [channel_congr hshows.lights, hchannels c, hchannel]
    by_cases hc : l.getD c.val 0 ≠ 0xFFFF
    · rw [if_pos hc, if_pos ((hmem c).2 hc)]; rfl
    · rw [if_neg hc, if_neg (mt (hmem c).1 hc)]
  · rw [hshows.outlets, houtlets]; exact congrArg Outlets.table hopen.outlets
  · rw [cacheEntry, hshows.lights, hkept, ← hopen.lights]
    exact Vector.getElem_set_self _

/-- Settles O43: the cascades of a taken input one after the other, on IGNITION and DOOR traced act by act. -/
theorem vehicleInputIsTaken : Obligations.VehicleInputIsTaken := by
  refine ⟨fun s i b hr hraw hl => vehicleInput_taken s i b hr hraw hl, fun s hr hp hline hout hsig hblocks =>
    ⟨ignition_retracts hr hp hline hout hsig hblocks, fun h howner hnone => ignition_pends hr hp hline hout hblocks howner hnone⟩,
    fun s hr hp hline hign hq => ⟨fun hscene hauto hstow hknown => ⟨door_drops hr hp hline hign hq hscene hauto hstow hknown,
      door_extends hr hp hline hign hq hscene hauto hstow hknown⟩, fun hstow => ⟨door_notes hr hp hline hign hq hstow,
      fun k hscene hcache => ⟨fun w => door_fails hr hp hline hign hq hstow hscene hcache,
        door_recalls hr hp hline hign hq hstow hscene hcache⟩⟩⟩⟩

end Sys2Proof.Machine
end

section
/-!
SUPPORT. What the blocks' reactions leave of the outlet controller and of the heat that is asked for, and the acts they set off
(`Civil`): they ask the controller, and perform none of its own acts.
-/
namespace Sys2Proof.Machine

/-! ### What the outlet controller decides on -/

/-- What the outlet controller decides on: of each outlet its demand, state, charge and inhibit count, the sequencer's state as it is
known to it, the shed level, the settings, the held and the retained flag of the HEATER SUPPLY; and the overrun mark. -/
@[ext] structure Grid where
  outlets : Fin 16 → Option Demand × OutletState × Nat × Nat
  heater : SeqState
  shedLevel : Nat
  active : Image
  kept : Bool × Bool
  overrun : Bool

def State.grid (s : State) : Grid where
  outlets o := ((outlet s o).demand, (outlet s o).state, (outlet s o).charge, (outlet s o).inhibit)
  heater := s.outlets.heater
  shedLevel := s.outlets.shedLevel
  active := s.store.active
  kept := ((outlet s 2).held, s.retained.heater)
  overrun := s.overrun

/-- What heater demand and heat level follow from, and the two themselves (R126). -/
def State.warmth (s : State) : ClimateMode × Bool × Vector (Bool × Nat) 3 × Bool × Nat :=
  (s.climate.mode, s.climate.frost, s.climate.zones.map fun z => (z.demand, z.deficit), s.climate.demand, s.climate.level)

/-- An act that a block sets off: none of the outlet controller's own but a request, a shed level and a limit. -/
def Act.outward : Act → Bool
  | .take _ | .drain | .action _ | .arbiterIf | .restore _ | .flush | .flushEnd | .actEnd | .judge _ | .preempt _ | .pass _
  | .ask _ _ | .cut _ _ | .cutRest | .rejudge _ _ | .arbiter | .consider _ | .clearTrip _ | .tripDone _ _ | .trip _ | .rises _
  | .fall _ _ | .overLimit _ | .report _ _ _ | .blockRise _ _ | .blockFall _ _ | .notices _ _ | .evalEnd | .resume _ => false
  | _ => true

/-- Every act of the list is one that a block sets off. -/
def Outward (l : List Act) : Prop := l.all Act.outward = true

section
variable {l m : List Act}

@[simp] theorem outward_nil : Outward [] := rfl

@[simp] theorem outward_cons {a : Act} : Outward (a :: l) ↔ a.outward = true ∧ Outward l := by simp [Outward]

@[simp] theorem outward_append : Outward (l ++ m) ↔ Outward l ∧ Outward m := by simp [Outward]

@[simp] theorem outward_ite {c : Prop} [Decidable c] : Outward (if c then l else m) ↔ (c → Outward l) ∧ (¬ c → Outward m) := by
  split <;> simp [*]

theorem outward_iff : Outward l ↔ ∀ a ∈ l, a.outward = true := by simp [Outward]

end

/-- A reaction that leaves the grid as it is, recomputes the heat where it changes what the heat follows from, and sets off acts of
blocks alone. -/
structure Civil (s : State) (x : React) : Prop where
  grid : x.1.grid = s.grid
  heat : x.1.warmth = s.warmth ∨ .heatDemand ∈ x.2
  acts : Outward x.2

variable (s : State)

theorem civil_nil : Civil s (s, []) := ⟨rfl, .inl rfl, rfl⟩

theorem showing_civil {l : List Part} {f : State → React} (h : Civil s (f s)) : Civil s (showing l f s) := ⟨h.grid, h.heat, h.acts⟩

theorem closing_civil {m l : List Part} {f : State → React} (h : Civil s (f s)) : Civil s (closing m l f s) :=
  ⟨h.grid, h.heat.imp_right (List.mem_append_left _), outward_append.2 ⟨h.acts, rfl⟩⟩

/-- The grid sees of a record what it holds of it. -/
theorem setOutlet_grid {o : Fin 16} {x : Outlet}
    (hx : (x.demand, x.state, x.charge, x.inhibit) = s.grid.outlets o) (h2 : o = 2 → x.held = (outlet s 2).held) :
    (setOutlet o x s).grid = s.grid := by
  have ho : (setOutlet o x s).grid.outlets = s.grid.outlets := funext fun q => by
    simp only [State.grid, outlet_setOutlet]
    split
    · next e => exact hx.trans (congrArg s.grid.outlets e.symm)
    · rfl
  have hk : (setOutlet o x s).grid.kept = s.grid.kept := by
    simp only [State.grid, outlet_setOutlet]
    split
    · next e => rw [h2 e.symm]; rfl
    · rfl
  exact Grid.ext ho rfl rfl rfl hk rfl

theorem setHeld_grid {o : Fin 16} (h : o ≠ 2) (b : Bool) : (setHeld o b s).grid = s.grid :=
  setOutlet_grid s rfl fun e => absurd e h

/-! ### Charge monitor and node link -/

theorem solarEval_civil : Civil s (solarEval s) := by unfold solarEval; split <;> exact ⟨rfl, .inl rfl, rfl⟩
theorem shedEval_civil : Civil s (shedEval s) := by unfold shedEval; simp only; split <;> exact ⟨rfl, .inl rfl, rfl⟩
theorem limitEval_civil : Civil s (limitEval s) := by unfold limitEval; simp only; split <;> exact ⟨rfl, .inl rfl, rfl⟩
theorem floatDone_civil (x : CmdResult) : Civil s (floatDone x s) := ⟨rfl, .inl rfl, rfl⟩

theorem sendHeater_grid (i : Fin 12) (e : HeaterEntry) : (sendHeater i e s).grid = s.grid ∧ (sendHeater i e s).warmth = s.warmth := by
  cases e <;> exact ⟨rfl, rfl⟩

theorem linkChoose_grid (now : Nat) : (linkChoose now s).grid = s.grid ∧ (linkChoose now s).warmth = s.warmth := by
  unfold linkChoose
  simp only
  split
  · exact ⟨rfl, rfl⟩
  · exact sendHeater_grid s _ _
  · split
    · exact ⟨rfl, rfl⟩
    · split <;> exact ⟨rfl, rfl⟩

theorem chooseIfIdle_grid : (chooseIfIdle s).grid = s.grid ∧ (chooseIfIdle s).warmth = s.warmth := by
  unfold chooseIfIdle
  split
  · exact linkChoose_grid s _
  · exact ⟨rfl, rfl⟩

theorem postHeater_civil (e : HeaterEntry) : Civil s (postHeater e s) := by
  unfold postHeater
  split
  · exact ⟨rfl, .inl rfl, by cases e <;> rfl⟩
  · obtain ⟨hg, hw⟩ := chooseIfIdle_grid (setLink (fun k => { k with heater := some e }) s)
    exact ⟨hg, .inl hw, rfl⟩

theorem postFloat_civil : Civil s (postFloat s) := by
  unfold postFloat
  split
  · exact ⟨rfl, .inl rfl, rfl⟩
  · obtain ⟨hg, hw⟩ := chooseIfIdle_grid (setLink (fun k => { k with solar := true }) s)
    exact ⟨hg, .inl hw, rfl⟩

/-! ### Water -/

theorem pumpStart_civil : Civil s (pumpStart s) := by unfold pumpStart; split <;> exact ⟨rfl, .inl rfl, rfl⟩
theorem pumpDry_civil (c : DryCause) : Civil s (pumpDry c s) := ⟨rfl, .inl rfl, rfl⟩
theorem pumpLeaveDry_civil : Civil s (pumpLeaveDry s) := ⟨rfl, .inl rfl, by simp [pumpLeaveDry, Act.outward]⟩
theorem freshPump_civil : Civil s (freshPump s) := by
  unfold freshPump
  split
  · exact ⟨rfl, .inl rfl, rfl⟩
  · split
    · exact pumpLeaveDry_civil s
    · exact civil_nil s
theorem pumpReport_civil (x : OutletState) : Civil s (pumpReport x s) := by
  unfold pumpReport; (repeat' split) <;> exact ⟨rfl, .inl rfl, rfl⟩
theorem fillEnd_civil (e : FillEnd) : Civil s (fillEnd e s) := by unfold fillEnd; split <;> exact ⟨rfl, .inl rfl, rfl⟩
theorem fillFinish_civil (e : FillEnd) : Civil s (fillFinish e s) := by unfold fillFinish; split <;> exact ⟨rfl, .inl rfl, rfl⟩
theorem freshFill_civil : Civil s (freshFill s) := by
  unfold freshFill; split
  · exact fillEnd_civil s _
  · exact civil_nil s
theorem fillReport_civil (x : OutletState) : Civil s (fillReport x s) := by
  unfold fillReport; split
  · exact civil_nil s
  · next f _ =>
    have hend : ∀ e, Civil s (fillEnd e (setFill { f with valve := x } s)) := fun e =>
      have h := fillEnd_civil (setFill { f with valve := x } s) e
      ⟨h.grid, h.heat, h.acts⟩
    cases x
    case waiting | on | off => exact ⟨rfl, .inl rfl, rfl⟩
    case shed | inhibited | tripped => exact hend _
theorem outward_stageActs (t : Option Int) : Outward (stageActs s t) := by unfold stageActs; split <;> rfl
theorem frostEval_civil (c : Bool) : Civil s (frostEval c s) := by
  have hb : ∀ t, Outward (blindActs s t).2 := fun t => by unfold blindActs; simp only; split <;> rfl
  unfold frostEval; simp only; split
  · exact ⟨rfl, .inl rfl, by simp [outward_stageActs]⟩
  · exact ⟨rfl, .inl rfl, outward_append.2 ⟨hb _, outward_stageActs s _⟩⟩
theorem stageChange_civil (t : Stage) (c : BitVec 32) : Civil s (stageChange t c s) := by
  unfold stageChange; simp only; split
  · exact civil_nil s
  · exact ⟨rfl, .inl rfl, by simp [Act.outward]⟩
theorem stageFill_civil (t : Stage) : Civil s (stageFill t s) := by
  unfold stageFill; split
  · exact fillEnd_civil s _
  · exact civil_nil s
theorem stageLeave_civil (x y : Stage) : Civil s (stageLeave x y s) := ⟨rfl, .inl rfl, by simp [stageLeave, Act.outward]⟩
theorem stageBegin_civil (x y : Stage) : Civil s (stageBegin x y s) := ⟨rfl, .inl rfl, by simp [stageBegin, Act.outward]⟩
theorem drainLatch_civil : Civil s (drainLatch s) := ⟨setHeld_grid (setLatch true s) (by decide) true, .inl rfl, rfl⟩

/-! ### Climate: zones, flaps, demand, level -/

theorem outward_flapActs (o : Fin 16) (x y : Bool) : Outward (flapActs s o x y) := by
  unfold flapActs
  (repeat' split) <;> rfl

theorem climateChange_civil (f : Climate → Climate) : Civil s (climateChange f s) :=
  ⟨rfl, .inr (by simp [climateChange]), by simp [climateChange, outward_flapActs, Act.outward]⟩

theorem zoneFollow_civil (z : Fin 3) : Civil s (zoneFollow z s) := climateChange_civil s _

theorem frostDemand_civil (c : Bool) : Civil s (frostDemand c s) := by
  unfold frostDemand; split
  · exact civil_nil s
  · obtain ⟨hg, hw, hl⟩ := climateChange_civil s fun q => { q with frost := c, zones := q.zones.set 2 (lockerZone c q.zones[2]) }
    exact ⟨hg, hw.imp_right (List.mem_append_left _), outward_append.2 ⟨hl, rfl⟩⟩

/-! ### The sequencer -/

theorem enter_civil (x : SeqState) (c : BitVec 32) : Civil s (enter x c s) := ⟨rfl, .inl rfl, by simp [enter, Act.outward]⟩
theorem heaterTest_civil : Civil s (heaterTest s) := by unfold heaterTest; split <;> exact ⟨rfl, .inl rfl, rfl⟩
theorem igniting_civil : Civil s (igniting s) := ⟨rfl, .inl rfl, rfl⟩
theorem startFail_civil (c : BitVec 32) : Civil s (startFail c s) := by unfold startFail; split <;> exact ⟨rfl, .inl rfl, rfl⟩
theorem stopping_civil (x : Bool) : Civil s (stopping x s) := ⟨rfl, .inl rfl, by simp [stopping, Act.outward]⟩
theorem running_civil : Civil s (running s) := ⟨rfl, .inl rfl, rfl⟩
theorem runJudge_civil : Civil s (runJudge s) := by unfold runJudge; (repeat' split) <;> exact ⟨rfl, .inl rfl, rfl⟩
theorem runShed_civil : Civil s (runShed s) := by unfold runShed; split <;> exact ⟨rfl, .inl rfl, rfl⟩
theorem seqDemand_civil : Civil s (seqDemand s) := by unfold seqDemand; (repeat' split) <;> exact ⟨rfl, .inl rfl, rfl⟩
theorem seqLevel_civil : Civil s (seqLevel s) := by unfold seqLevel; split <;> exact ⟨rfl, .inl rfl, rfl⟩
theorem seqFrost_civil (x : Bool) : Civil s (seqFrost x s) := by unfold seqFrost; (repeat' split) <;> exact ⟨rfl, .inl rfl, rfl⟩
theorem seqShed_civil : Civil s (seqShed s) := by unfold seqShed; split <;> exact ⟨rfl, .inl rfl, rfl⟩
theorem cooldownEnd_civil : Civil s (cooldownEnd s) := by unfold cooldownEnd; (repeat' split) <;> exact ⟨rfl, .inl rfl, rfl⟩
theorem offFaulty_civil : Civil s (offFaulty s) := by unfold offFaulty; (repeat' split) <;> exact ⟨rfl, .inl rfl, rfl⟩
theorem unitLost_civil : Civil s (unitLost s) := by unfold unitLost; split <;> exact ⟨rfl, .inl rfl, rfl⟩
theorem heaterResult_civil (c : HeaterCmd) (x : CmdResult) (y : Bool) : Civil s (heaterResult c x y s) := by
  unfold heaterResult; (repeat' split) <;> exact ⟨rfl, .inl rfl, rfl⟩

theorem runningReading_civil (u : UnitReading) : Civil s (runningReading u s) := by
  unfold runningReading; (repeat' split) <;> exact ⟨rfl, .inl rfl, rfl⟩
theorem lostReading_civil (u : UnitReading) (x : Bool) : Civil s (lostReading u x s) := by
  unfold lostReading; split
  · exact ⟨rfl, .inl rfl, rfl⟩
  · split
    · split <;> exact ⟨rfl, .inl rfl, rfl⟩
    · split
      · exact ⟨rfl, .inl rfl, outward_cons.2 ⟨rfl, by split <;> rfl⟩⟩
      · exact civil_nil s
theorem unitReading_civil (u : Option UnitReading) (x : Bool) : Civil s (unitReading u x s) := by
  have hrun : ∀ u', Civil s (runningReading u' (setSeq (fun q => { q with last := u }) s)) := fun u' =>
    have h := runningReading_civil (setSeq (fun q => { q with last := u }) s) u'
    ⟨h.grid, h.heat, h.acts⟩
  have hlost : ∀ u', Civil s (lostReading u' x (setSeq (fun q => { q with last := u }) s)) := fun u' =>
    have h := lostReading_civil (setSeq (fun q => { q with last := u }) s) u' x
    ⟨h.grid, h.heat, h.acts⟩
  unfold unitReading
  simp only
  split
  case h_7 => exact hrun _
  case h_10 => exact hlost _
  all_goals (repeat' split) <;> exact ⟨rfl, .inl rfl, rfl⟩
theorem supplyReport_civil (x : OutletState) : Civil s (supplyReport x s) := by
  unfold supplyReport; simp only
  split
  · split <;> exact ⟨rfl, .inl rfl, rfl⟩
  · unfold supplyTripped; split <;> exact ⟨rfl, .inl rfl, rfl⟩
  · exact ⟨rfl, .inl rfl, rfl⟩

/-! ### Movers -/

@[simp] theorem setMover_grid (m : Mover) (x : MoverRec) : (setMover m x s).grid = s.grid := by cases m <;> rfl
@[simp] theorem setMover_warmth (m : Mover) (x : MoverRec) : (setMover m x s).warmth = s.warmth := by cases m <;> rfl
@[simp] theorem setPending_grid (m : Mover) (c : Bool) : (setPending m c s).grid = s.grid := by cases m <;> rfl
@[simp] theorem setPending_warmth (m : Mover) (c : Bool) : (setPending m c s).warmth = s.warmth := by cases m <;> rfl

/-- A reaction that writes a mover's record alone. -/
theorem setMover_civil {l : List Act} (m : Mover) (x : MoverRec) (h : Outward l) : Civil s (setMover m x s, l) :=
  ⟨setMover_grid s m x, .inl (setMover_warmth s m x), h⟩

theorem stowSignal_civil (m : Mover) : Civil s (stowSignal m s) := by
  unfold stowSignal; simp only; split
  · exact ⟨setPending_grid s m _, .inl (setPending_warmth s m _), rfl⟩
  · exact ⟨rfl, .inl rfl, rfl⟩
theorem claim_civil (m : Mover) : Civil s (claim m s) := by unfold claim; split <;> exact ⟨rfl, .inl rfl, rfl⟩
theorem leaveStalled_grid (m : Mover) : (leaveStalled m s).grid = s.grid ∧ (leaveStalled m s).warmth = s.warmth := by
  unfold leaveStalled; simp only; split
  · exact ⟨setMover_grid s _ _, setMover_warmth s _ _⟩
  · exact ⟨rfl, rfl⟩
theorem autoStart_civil (m : Mover) (t : MoveTag) (d : Dir) : Civil s (autoStart m t d s) := by
  obtain ⟨hg, hw⟩ := leaveStalled_grid s m
  exact ⟨(setMover_grid _ _ _).trans hg, .inl ((setMover_warmth _ _ _).trans hw), rfl⟩
theorem requestRetract_civil (m : Mover) : Civil s (requestRetract m s) := by
  unfold requestRetract; split
  · exact civil_nil s
  · split
    · exact autoStart_civil s m _ _
    · exact ⟨setPending_grid s m _, .inl (setPending_warmth s m _), rfl⟩
theorem serveRelease_civil : Civil s (serveRelease s) := by
  have hstart : ∀ m, Civil s (autoStart m .retract .inward (setPending m false s)) := fun m =>
    have h := autoStart_civil (setPending m false s) m .retract .inward
    ⟨h.grid.trans (setPending_grid s m false), h.heat.imp_left fun e => e.trans (setPending_warmth s m false), h.acts⟩
  unfold serveRelease
  split
  · exact civil_nil s
  · split
    · exact hstart .step
    · split
      · exact hstart .awning
      · exact civil_nil s
theorem extension_civil : Civil s (extension s) := by
  unfold extension; simp only
  split
  · split
    · exact ⟨rfl, .inl rfl, rfl⟩
    · exact autoStart_civil s _ _ _
  · exact civil_nil s
theorem stopDrive_grid (m : Mover) (c : Bool) : (stopDrive m c s).grid = s.grid ∧ (stopDrive m c s).warmth = s.warmth := by
  have hset : ∀ x : MoverRec, (setMover m x s).grid = s.grid ∧ (setMover m x s).warmth = s.warmth := fun x =>
    ⟨setMover_grid s m x, setMover_warmth s m x⟩
  unfold stopDrive; simp only
  split
  · split
    · exact hset _
    · exact hset _
  · exact ⟨rfl, rfl⟩
theorem outward_endActs (m : Mover) (f : Outcome) (x : Word) : Outward (endActs s m f x) := by simp [endActs, Act.outward]
theorem moveEnd_civil (m : Mover) (f : Outcome) (x : Word) : Civil s (moveEnd m f x s) := by
  unfold moveEnd
  split
  · exact civil_nil s
  · split
    · exact civil_nil s
    · obtain ⟨hg, hw⟩ := stopDrive_grid s m (f == .stalled)
      exact ⟨hg, .inl hw, outward_endActs s _ _ _⟩
theorem moveFree_grid (m : Mover) : (moveFree m s).grid = s.grid ∧ (moveFree m s).warmth = s.warmth := by
  unfold moveFree; split <;> exact ⟨rfl, rfl⟩
theorem moveResult_civil (m : Mover) (f : Outcome) (x : Word) : Civil s (moveResult m f x s) := by
  unfold moveResult; simp only
  split
  · exact civil_nil s
  · split <;> exact setMover_civil s m _ (by simp [Act.outward])
theorem driveStart_civil (m : Mover) (v : Move) : Civil s (driveStart m v s) := by
  unfold driveStart; simp only; split
  · exact ⟨rfl, .inl rfl, rfl⟩
  · exact ⟨setMover_grid s m _, .inl (setMover_warmth s m _), rfl⟩
theorem bridgeReport_civil (x : OutletState) : Civil s (bridgeReport x s) := by
  unfold bridgeReport
  split
  · exact civil_nil s
  · split
    · exact civil_nil s
    · split
      · exact ⟨rfl, .inl rfl, by simp [outward_endActs]⟩
      · split
        · exact ⟨rfl, .inl rfl, rfl⟩
        · split
          · exact civil_nil s
          · exact driveStart_civil s _ _
        · simp only
          split
          · exact civil_nil s
          · exact setMover_civil s _ _ rfl
theorem bridgeAsk_civil : Civil s (bridgeAsk s) := by
  unfold bridgeAsk; split
  · obtain ⟨hg, hw⟩ := stopDrive_grid s ‹Mover› false
    exact ⟨hg, .inl hw, rfl⟩
  · exact civil_nil s
theorem blockBegins_civil (m : Mover) : Civil s (blockBegins m s) := by
  unfold blockBegins; (repeat' split) <;> exact ⟨rfl, .inl rfl, rfl⟩

/-! ### Lighting -/

theorem outward_lightDemand (c : Fin 6) : Outward (lightDemand s c) := by
  unfold lightDemand; simp only
  (repeat' split) <;> rfl
theorem ramp_civil (c : Fin 6) : Civil s (ramp c s) := by
  unfold ramp; simp only; split
  · exact ⟨rfl, .inl rfl, outward_append.2 ⟨outward_append.2 ⟨by simp [outward_lightDemand], by split <;> rfl⟩, rfl⟩⟩
  · exact civil_nil s
theorem lightCut_civil (c : Fin 6) (x : Bool) {l : List Act} (h : Outward l) : Civil s (lightCut c x l s) :=
  ⟨rfl, .inl rfl, by simp [lightCut, outward_lightDemand, h]⟩
theorem lightReport_civil (c : Fin 6) (x y : OutletState) : Civil s (lightReport c x y s) := by
  have htest : Outward ((match (channel s c).owner with | some n => [Act.recallTest n] | none => []) ++
      [.shown [.channel c] recallParts]) := outward_append.2 ⟨by split <;> rfl, rfl⟩
  cases y
  case on =>
    unfold lightReport; simp only; split
    · exact ⟨rfl, .inl rfl, outward_append.2 ⟨rfl, htest⟩⟩
    · split <;> exact ⟨rfl, .inl rfl, htest⟩
  case off => exact ⟨rfl, .inl rfl, htest⟩
  case waiting | shed | inhibited | tripped => exact lightCut_civil s c _ htest
theorem lookup_grid (n : Fin 32) : (lookup n s).1.grid = s.grid ∧ (lookup n s).1.warmth = s.warmth := by
  unfold lookup; simp only
  (repeat' split) <;> exact ⟨rfl, rfl⟩
theorem OnlyLights.grid {s t : State} (h : OnlyLights s t) : t.grid = s.grid ∧ t.warmth = s.warmth := by
  obtain ⟨_, rfl⟩ := h
  exact ⟨rfl, rfl⟩
theorem clearOwners_onlyLights (l : List LightOwner) : ∀ s : State, OnlyLights s (clearOwners l s) := by
  induction l with
  | nil => exact fun s => ⟨s.lights, rfl⟩
  | cons n l ih => exact fun s => (clearOwner_onlyLights n channels s).trans (ih _)
theorem recallStep_civil (l : List Word) (n : LightOwner) (c : Bool) (cs : List (Fin 6)) (lost : List (LightOwner × Fin 6)) :
    Civil s (recallStep l n c cs lost s) := by
  unfold recallStep
  split
  · exact ⟨rfl, .inl rfl, outward_append.2 ⟨outward_lightDemand _ _, rfl⟩⟩
  · obtain ⟨hg, hw⟩ := (clearOwners_onlyLights (lost.map (·.1)) s).grid
    refine ⟨hg, .inl hw, outward_append.2 ⟨outward_iff.2 fun a ha => ?_, rfl⟩⟩
    obtain ⟨e, -, rfl⟩ := List.mem_map.1 ha
    rfl
theorem supersede_civil (p o : LightOwner) (c : Fin 6) : Civil s (supersede p o c s) := by
  unfold supersede; split <;> exact ⟨rfl, .inl rfl, rfl⟩
theorem arrive_civil (x : Recall) : Civil s (arrive x s) := by
  have h : (clearOwner x.owner channels (dropRecalls [x.owner] s)).grid = s.grid ∧
      (clearOwner x.owner channels (dropRecalls [x.owner] s)).warmth = s.warmth :=
    (clearOwner_onlyLights _ _ (dropRecalls [x.owner] s)).grid
  unfold arrive
  generalize clearOwner x.owner channels (dropRecalls [x.owner] s) = t at h ⊢
  split <;> exact ⟨h.1, .inl h.2, rfl⟩
theorem recallTest_civil (n : LightOwner) : Civil s (recallTest n s) := by
  unfold recallTest
  split
  · split
    · exact arrive_civil s _
    · exact civil_nil s
  · exact civil_nil s
theorem applied_civil (n : LightOwner) (j : Nat) (c : Bool) : Civil s (applied n j c s) := ⟨rfl, .inl rfl, rfl⟩
theorem doorScene_civil : Civil s (doorScene s) := by
  unfold doorScene
  split
  · exact civil_nil s
  · split
    · exact civil_nil s
    · next n _ =>
      have h := lookup_grid s n
      split
      · next e => rw [e] at h; exact ⟨h.1, .inl h.2, rfl⟩
      · next e => rw [e] at h; exact ⟨h.1, .inl h.2, rfl⟩

/-! ### Owners -/

theorem ownerReport_civil (o : Fin 16) (x y : OutletState) : Civil s (ownerReport o x y s) := by
  unfold ownerReport
  split
  · exact civil_nil s
  · split
    · exact showing_civil s (pumpReport_civil s _)
    · split
      · exact closing_civil s (supplyReport_civil s _)
      · split
        · exact bridgeReport_civil s _
        · split
          · exact showing_civil s (fillReport_civil s _)
          · split
            · exact ⟨rfl, .inl rfl, rfl⟩
            · split
              · exact lightReport_civil s _ _ _
              · exact civil_nil s

/-! ### Notices, slots, the interlock engine -/

theorem finish_grid (n : Fin 32) (f : Finish) : (finish n f s).grid = s.grid ∧ (finish n f s).warmth = s.warmth := by
  have h := finish_sansOrders n f s
  exact ⟨(congrArg State.grid h :), (congrArg State.warmth h :)⟩

theorem afterReports_grid : (afterReports s).grid = s.grid ∧ (afterReports s).warmth = s.warmth := by
  obtain ⟨_, _, h⟩ := afterReports_shows s
  rw [h]
  exact ⟨rfl, rfl⟩

theorem setBlockCount_grid (m : Mover) (k : Nat) :
    (setBlockCount m k s).grid = s.grid ∧ (setBlockCount m k s).warmth = s.warmth := by cases m <;> exact ⟨rfl, rfl⟩

theorem evalNotices_grid (l : List Nat) (c : Bool) : (evalNotices l c s).grid = s.grid ∧ (evalNotices l c s).warmth = s.warmth := by
  unfold evalNotices; simp only; (repeat' split) <;> exact ⟨rfl, rfl⟩

end Sys2Proof.Machine
end

section
/-!
SUPPORT. What one act of a cascade does to the outlets, to the changes it leaves to report and to the stack of acts (`Run.Turns`).
-/
namespace Sys2Proof.Machine

/-! ### The record of an outlet -/

/-- Outside ON no charge is reserved (R64). -/
def Outlet.Idle (x : Outlet) : Prop := x.state ≠ .on → x.charge = 0

/-- An outlet in ON, WAITING or SHED is not inhibited (R76). -/
def Outlet.Free (x : Outlet) : Prop := x.state = .on ∨ x.state = .waiting ∨ x.state = .shed → x.inhibit = 0

/-- Outlet o is not shed where it is in ON or WAITING (R74). -/
def ClearAt (s : State) (o : Fin 16) : Prop := (outlet s o).state = .on ∨ (outlet s o).state = .waiting → isShed s o = false

variable {s t u : State} {o q : Fin 16}

theorem outlet_grid (h : t.grid = s.grid) (o : Fin 16) :
    (outlet t o).demand = (outlet s o).demand ∧ (outlet t o).state = (outlet s o).state ∧ (outlet t o).charge = (outlet s o).charge ∧
      (outlet t o).inhibit = (outlet s o).inhibit := by
  have h := congrFun (congrArg Grid.outlets h) o
  simpa only [State.grid, Prod.mk.injEq] using h

/-- What the class of an outlet is judged by in its demand: the direction, and the elevation (R66). -/
def Outlet.asked (x : Outlet) : Option (Option Dir × Bool) := x.demand.map fun d => (d.dir, d.elevated)

theorem effClass_of_asked (hd : (outlet t o).asked = (outlet s o).asked) (ha : t.store.active = s.store.active)
    (hh : t.outlets.heater = s.outlets.heater) : effClass t o = effClass s o := by
  have hcfg : configuredClass t o = configuredClass s o := by rw [configuredClass, configuredClass, cfg, cfg, ha]
  rw [effClass, effClass, hh, hcfg]
  unfold Outlet.asked at hd
  generalize (outlet t o).demand = x at hd
  generalize (outlet s o).demand = y at hd
  cases x <;> cases y
  case none.none => rfl
  case none.some => cases hd
  case some.none => cases hd
  case some.some x y =>
    simp only [Option.map_some, Option.some.injEq, Prod.mk.injEq] at hd
    simp only [Option.bind_some, hd]

theorem effClass_of_grid (hd : (outlet t o).demand = (outlet s o).demand) (ha : t.store.active = s.store.active)
    (hh : t.outlets.heater = s.outlets.heater) : effClass t o = effClass s o :=
  effClass_of_asked (by rw [Outlet.asked, hd]; rfl) ha hh

theorem isShed_grid (h : t.grid = s.grid) (o : Fin 16) : isShed t o = isShed s o := by
  have hl : t.outlets.shedLevel = s.outlets.shedLevel := congrArg Grid.shedLevel h
  rw [isShed, isShed, hl, effClass_of_grid (outlet_grid h o).1 (congrArg Grid.active h) (congrArg Grid.heater h)]

theorem effClass_dark (o q : Fin 16) (x : OutletState) (s : State) : effClass (darkOutlet o x s) q = effClass s q := by
  refine effClass_of_grid ?_ rfl rfl
  rw [darkOutlet, outlet_setOutlet]
  split
  · next e => rw [e]
  · rfl

theorem isShed_dark (o q : Fin 16) (x : OutletState) (s : State) : isShed (darkOutlet o x s) q = isShed s q := by
  rw [isShed, isShed, effClass_dark]
  rfl

theorem outlet_dark (o q : Fin 16) (x : OutletState) (s : State) :
    outlet (darkOutlet o x s) q = if q = o then (outlet s o).darkened x else outlet s q := outlet_setOutlet o q _ s

theorem outlet_grant (o q : Fin 16) (s : State) : outlet (grantOutlet o s) q = if q = o then { outlet s o with
    state := .on, charge := requested s o, grantOrder := s.outlets.nextGrant, measured := 0, sum := 0, samples := 0,
    whole := false, overMs := 0, pullIn := decide (o = 1 ∨ o = 7) } else outlet s q := outlet_setOutlet o q _ s

theorem isShed_grant (o q : Fin 16) (s : State) : isShed (grantOutlet o s) q = isShed s q := by
  have h : effClass (grantOutlet o s) q = effClass s q := by
    refine effClass_of_grid ?_ rfl rfl
    rw [outlet_grant]
    split
    · next e => rw [e]
    · rfl
  rw [isShed, isShed, h]
  rfl

theorem effClass_setDemand_other (h : q ≠ o) (d : Option Demand) (s : State) : effClass (setDemand o d s) q = effClass s q := by
  refine effClass_of_grid ?_ rfl rfl
  rw [setDemand, outlet_setOutlet, if_neg h]

theorem classShed_zero (n : Nat) : classShed 0 n = false := rfl

/-- A lower shed level sheds no more classes (R67). -/
theorem classShed_mono {c m n : Nat} (h : n ≤ m) (hm : classShed c m = false) : classShed c n = false := by
  simp only [classShed, Bool.and_eq_false_iff, decide_eq_false_iff_not] at *
  exact hm.imp_right fun e => not_le.2 ((Nat.add_le_add_left h c).trans_lt (not_le.1 e))

/-! ### Acts -/

/-- The property holds of the act, or of every operation of the action it is, none of which is an action again. -/
def Act.Among (P : Act → Bool) : Act → Prop
  | .action l => ∀ b ∈ l, (∀ m, b ≠ .action m) ∧ P b = true
  | a => P a = true

/-- The act is no re-judging of an outlet. -/
def Act.calm : Act → Bool
  | .rejudge _ _ => false
  | _ => true

/-- The act decides a request of outlet o. -/
def Act.decides (o : Fin 16) : Act → Bool
  | .judge q | .preempt q | .pass (.room q) | .clearTrip q => q == o
  | _ => false

/-- The act decides no request of outlet o. -/
def Act.passes (o : Fin 16) (a : Act) : Bool := !a.decides o

/-- The act may have an outlet shed that is in ON or WAITING: a demand or a sequencer state is taken, or the shed level rises. -/
def Act.reclasses (s : State) : Act → Bool
  | .take (.demand _ _) | .take (.heater _) => true
  | .shedLevel n => decide (s.outlets.shedLevel < n)
  | _ => false

/-- The act revokes outlet o (R69). -/
def Act.Revokes (a : Act) (o : Fin 16) : Prop := a = .cut o .revoked ∨ ∃ g, a = .pass g ∧ o ≠ 2 ∧ o ≠ 5

theorem Act.among_outward {a : Act} {P : Act → Bool} (h : a.outward = true) (hp : P a = true) : a.Among P := by
  cases a <;> first | exact hp | cases h

theorem Act.calm_outward {a : Act} (h : a.outward = true) : a.Among Act.calm :=
  Act.among_outward h (by cases a <;> first | rfl | cases h)

theorem Act.passes_outward {a : Act} (h : a.outward = true) (o : Fin 16) : a.Among (Act.passes o) :=
  Act.among_outward h (by cases a <;> first | rfl | cases h)

/-- What one act does: to each outlet, to the changes left to report, and to the stack. -/
structure Run.Turns (a : Act) (r r' : Run) : Prop where
  idle : ∀ o, (outlet r.st o).Idle → (outlet r'.st o).Idle
  free : ∀ o, (outlet r.st o).Free → (outlet r'.st o).Free
  lit : ∀ o, (outlet r'.st o).state = .on → (outlet r.st o).state = .on ∨
    (((outlet r.st o).state = .waiting → (outlet r.st o).inhibit = 0) → (outlet r'.st o).inhibit = 0 ∧ isShed r'.st o = false)
  tripped : ∀ o, (outlet r.st o).state = .tripped → a.passes o = true → (outlet r'.st o).state = .tripped
  clear : a.reclasses r.st = false → ∀ o, ClearAt r.st o → ClearAt r'.st o
  on : a.reclasses r.st = false → ∀ o, (outlet r.st o).state = .on →
    (outlet r'.st o).state = .on ∨ ClearAt r'.st o ∨ a.Revokes o
  changed : ∀ c ∈ r'.changed, c ∈ r.changed ∨ (c.2.2 = .tripped → (outlet r'.st c.1).state = .tripped)
  kept : ((outlet r.st 2).held = true → r.st.retained.heater = true) →
    (outlet r'.st 2).held = true → r'.st.retained.heater = true
  overrun : r'.st.overrun = r.st.overrun

namespace Run.Turns

variable {a : Act} {r r' p : Run}

/-- An act that leaves states, charges and counts of the outlets as they are, and has none of them shed that is not. -/
theorem of_outlets (hout : ∀ o, (outlet r'.st o).state = (outlet r.st o).state ∧ (outlet r'.st o).charge = (outlet r.st o).charge ∧
      (outlet r'.st o).inhibit = (outlet r.st o).inhibit)
    (hshed : a.reclasses r.st = false → ∀ o, isShed r.st o = false → isShed r'.st o = false)
    (hc : ∀ c ∈ r'.changed, c ∈ r.changed)
    (hk : ((outlet r.st 2).held = true → r.st.retained.heater = true) → (outlet r'.st 2).held = true → r'.st.retained.heater = true)
    (ho : r'.st.overrun = r.st.overrun) : Run.Turns a r r' where
  idle o h := by
    obtain ⟨hs, hk, -⟩ := hout o
    unfold Outlet.Idle at *
    rwa [hs, hk]
  free o h := by
    obtain ⟨hs, -, hi⟩ := hout o
    unfold Outlet.Free at *
    rwa [hs, hi]
  lit o h := .inl (by rwa [(hout o).1] at h)
  tripped o h _ := by rwa [(hout o).1]
  clear ha o h hon := hshed ha o (h (by rwa [(hout o).1] at hon))
  on _ o h := .inl (by rwa [(hout o).1])
  changed c hm := .inl (hc c hm)
  kept := hk
  overrun := ho

/-- An act that leaves the grid as it is. -/
theorem of_grid (h : r'.st.grid = r.st.grid) (hc : ∀ c ∈ r'.changed, c ∈ r.changed) : Run.Turns a r r' :=
  of_outlets (fun o => (outlet_grid h o).2) (fun _ o e => by rwa [isShed_grid h]) hc
    (fun hk => by
      have e := congrArg Grid.kept h
      simp only [State.grid, Prod.mk.injEq] at e
      rwa [e.1, e.2])
    (congrArg Grid.overrun h)

theorem refl (a : Act) (r : Run) : Run.Turns a r r := of_grid rfl fun _ h => h

/-- What follows leaves the grid as it is. -/
theorem before (h : Run.Turns a r r') (hg : p.st.grid = r'.st.grid) (hc : ∀ c ∈ p.changed, c ∈ r'.changed) : Run.Turns a r p := by
  have hp : Run.Turns .drain r' p := of_grid hg hc
  have hout := outlet_grid hg
  exact {
    idle := fun o ho => hp.idle o (h.idle o ho)
    free := fun o ho => hp.free o (h.free o ho)
    lit := fun o ho => by
      obtain ⟨-, hs, -, hi⟩ := hout o
      rw [hi, isShed_grid hg]
      exact h.lit o (hs ▸ ho)
    tripped := fun o ho hpass => hp.tripped o (h.tripped o ho hpass) rfl
    clear := fun ha o ho => hp.clear rfl o (h.clear ha o ho)
    on := fun ha o ho => by
      rw [(hout o).2.1]
      exact (h.on ha o ho).imp_right (Or.imp_left (hp.clear rfl o))
    changed := fun c hm => by
      rw [(hout c.1).2.1]
      exact h.changed c (hc c hm)
    kept := fun hk => hp.kept (h.kept hk)
    overrun := hp.overrun.trans h.overrun }

/-- What went before has left the grid as it was. -/
theorem after (h : Run.Turns a p r') (hg : p.st.grid = r.st.grid) (hc : ∀ c ∈ p.changed, c ∈ r.changed) : Run.Turns a r r' := by
  have hp : Run.Turns .drain r p := of_grid hg hc
  have hout := outlet_grid hg
  have hre : a.reclasses p.st = a.reclasses r.st := by
    have hl : p.st.outlets.shedLevel = r.st.outlets.shedLevel := congrArg Grid.shedLevel hg
    unfold Act.reclasses
    rw [hl]
  exact {
    idle := fun o ho => h.idle o (hp.idle o ho)
    free := fun o ho => h.free o (hp.free o ho)
    lit := fun o ho => by
      obtain ⟨-, hs, -, hi⟩ := hout o
      rw [← hi, ← hs]
      exact h.lit o ho
    tripped := fun o ho hpass => h.tripped o (hp.tripped o ho rfl) hpass
    clear := fun ha o ho => h.clear (hre ▸ ha) o (hp.clear rfl o ho)
    on := fun ha o ho => h.on (hre ▸ ha) o (by rwa [(hout o).2.1])
    changed := fun c hm => (h.changed c hm).imp_left (hc c)
    kept := fun hk => h.kept (hp.kept hk)
    overrun := h.overrun.trans hp.overrun }

/-- One part of an act after another, neither of which lights an outlet. -/
theorem trans (h : Run.Turns a r p) (g : Run.Turns a p r') (hl : ∀ o, (outlet p.st o).state = .on → (outlet r.st o).state = .on)
    (gl : ∀ o, (outlet r'.st o).state = .on → (outlet p.st o).state = .on) (ha : ∀ o, a.passes o = true)
    (hre : ∀ s, a.reclasses s = false) : Run.Turns a r r' where
  idle o ho := g.idle o (h.idle o ho)
  free o ho := g.free o (h.free o ho)
  lit o ho := .inl (hl o (gl o ho))
  tripped o ho hp := g.tripped o (h.tripped o ho hp) hp
  clear _ o ho := g.clear (hre _) o (h.clear (hre _) o ho)
  on _ o ho := by
    rcases h.on (hre _) o ho with e | e | e
    · exact g.on (hre _) o e
    · exact .inr (.inl (g.clear (hre _) o e))
    · exact .inr (.inr e)
  changed c hm := by
    rcases g.changed c hm with hm | hm
    · exact (h.changed c hm).imp_right fun f e => g.tripped _ (f e) (ha _)
    · exact .inr hm
  kept hk := g.kept (h.kept hk)
  overrun := g.overrun.trans h.overrun

/-- Outlets go dark together: to WAITING where they are not shed, or revoked; to WAITING or SHED where they are not inhibited. -/
theorem darkAll {l : List (Fin 16)} {x : OutletState} (hx : x ≠ .on)
    (hfree : x = .waiting ∨ x = .shed → ∀ o ∈ l, (outlet r.st o).Free → (outlet r.st o).inhibit = 0)
    (hclear : x = .waiting → ∀ o ∈ l, ClearAt r.st o → isShed r.st o = false)
    (hon : x = .waiting → ∀ o ∈ l, (outlet r.st o).state = .on → isShed r.st o = false ∨ a.Revokes o)
    (htrip : x ≠ .tripped → ∀ o ∈ l, (outlet r.st o).state = .tripped → a.passes o = false) : Run.Turns a r (r.darkAll x l) := by
  obtain ⟨⟨O, hst⟩, -, -, hch⟩ := Run.darkAll_frame x l r
  have hself : ∀ q ∈ l, outlet (r.darkAll x l).st q = (outlet r.st q).darkened x := fun q hq => by
    rw [Run.darkAll_outlet, if_pos hq]
  have hother : ∀ q ∉ l, outlet (r.darkAll x l).st q = outlet r.st q := fun q hq => by rw [Run.darkAll_outlet, if_neg hq]
  have hshed : ∀ q, isShed (r.darkAll x l).st q = isShed r.st q := by
    clear hst hch hfree hclear hon htrip hself hother
    induction l generalizing r with
    | nil => exact fun _ => rfl
    | cons o l ih => exact fun q => (ih (r := r.dark o x) q).trans (isShed_dark o q x r.st)
  have hcl : ∀ q ∈ l, isShed r.st q = false ∨ x ≠ .waiting → ClearAt (r.darkAll x l).st q := fun q hq h e => by
    rw [hshed]
    rw [hself q hq] at e
    rcases h with h | h
    · exact h
    · exact absurd e (not_or.2 ⟨hx, h⟩)
  exact {
    idle := fun q hq => by
      by_cases e : q ∈ l
      · rw [hself q e]; exact fun _ => rfl
      · rwa [hother q e]
    free := fun q hq => by
      by_cases e : q ∈ l
      · rw [hself q e]
        exact fun h => hfree (h.resolve_left hx) q e hq
      · rwa [hother q e]
    lit := fun q hq => by
      by_cases e : q ∈ l
      · rw [hself q e] at hq
        exact absurd hq hx
      · exact .inl (by rwa [hother q e] at hq)
    tripped := fun q hq hp => by
      by_cases e : q ∈ l
      · rw [hself q e]
        exact not_not.1 fun hne => by rw [htrip hne q e hq] at hp; cases hp
      · rwa [hother q e]
    clear := fun _ q hq => by
      by_cases e : q ∈ l
      · by_cases hw : x = .waiting
        · exact hcl q e (.inl (hclear hw q e hq))
        · exact hcl q e (.inr hw)
      · unfold ClearAt at *
        rwa [hother q e, hshed]
    on := fun _ q hq => by
      by_cases e : q ∈ l
      · by_cases hw : x = .waiting
        · exact .inr ((hon hw q e hq).imp_left fun h => hcl q e (.inl h))
        · exact .inr (.inl (hcl q e (.inr hw)))
      · exact .inl (by rwa [hother q e])
    changed := fun c hm => by
      rcases hch c hm with hm | ⟨hm, hcx⟩
      · exact .inl hm
      · exact .inr fun e => by rw [hself _ hm]; exact hcx.symm.trans e
    kept := fun hk => by
      rw [hst] at *
      by_cases e : (2 : Fin 16) ∈ l
      · rwa [hself 2 e]
      · rwa [hother 2 e]
    overrun := by rw [hst] }

/-- An outlet goes dark. -/
theorem dark {o : Fin 16} {x : OutletState} (hx : x ≠ .on)
    (hfree : x = .waiting ∨ x = .shed → (outlet r.st o).Free → (outlet r.st o).inhibit = 0)
    (hclear : x = .waiting → ClearAt r.st o → isShed r.st o = false)
    (hon : x = .waiting → (outlet r.st o).state = .on → isShed r.st o = false ∨ a.Revokes o)
    (htrip : x ≠ .tripped → (outlet r.st o).state = .tripped → a.passes o = false) : Run.Turns a r (r.dark o x) :=
  darkAll (l := [o]) hx (fun h _ hq => List.mem_singleton.1 hq ▸ hfree h) (fun h _ hq => List.mem_singleton.1 hq ▸ hclear h)
    (fun h _ hq => List.mem_singleton.1 hq ▸ hon h) (fun h _ hq => List.mem_singleton.1 hq ▸ htrip h)

/-- An outlet that is neither inhibited nor shed is granted. -/
theorem grant {o : Fin 16} (hfree : (outlet r.st o).state ≠ .waiting → (outlet r.st o).inhibit = 0) (hshed : isShed r.st o = false)
    (htrip : (outlet r.st o).state = .tripped → a.passes o = false) : Run.Turns a r (r.grant o) := by
  have hst : (r.grant o).st = grantOutlet o r.st := rfl
  have hon : (outlet (r.grant o).st o).state = .on := by rw [hst, outlet_grant, if_pos rfl]
  have hself : outlet (r.grant o).st o = { outlet r.st o with
      state := .on, charge := requested r.st o, grantOrder := r.st.outlets.nextGrant, measured := 0, sum := 0, samples := 0,
      whole := false, overMs := 0, pullIn := decide (o = 1 ∨ o = 7) } := by rw [hst, outlet_grant, if_pos rfl]
  have hother : ∀ q, q ≠ o → outlet (r.grant o).st q = outlet r.st q := fun q hq => by rw [hst, outlet_grant, if_neg hq]
  have hsame : ∀ q, isShed (r.grant o).st q = isShed r.st q := fun q => isShed_grant o q r.st
  exact {
    idle := fun q hq => by
      by_cases e : q = o
      · subst e; exact fun h => absurd hon h
      · rwa [hother q e]
    free := fun q hq => by
      by_cases e : q = o
      · subst e
        rw [hself]
        by_cases hw : (outlet r.st q).state = .waiting
        · exact fun _ => hq (.inr (.inl hw))
        · exact fun _ => hfree hw
      · rwa [hother q e]
    lit := fun q hq => by
      by_cases e : q = o
      · subst e
        rw [hsame, hself]
        by_cases hw : (outlet r.st q).state = .waiting
        · exact .inr fun h => ⟨h hw, hshed⟩
        · exact .inr fun _ => ⟨hfree hw, hshed⟩
      · exact .inl (by rwa [hother q e] at hq)
    tripped := fun q hq hp => by
      by_cases e : q = o
      · subst e
        rw [htrip hq] at hp
        cases hp
      · rwa [hother q e]
    clear := fun _ q hq => by
      by_cases e : q = o
      · subst e; exact fun _ => by rw [hsame]; exact hshed
      · unfold ClearAt at *
        rwa [hother q e, hsame]
    on := fun _ q hq => by
      by_cases e : q = o
      · subst e; exact .inl hon
      · exact .inl (by rwa [hother q e])
    changed := fun c hm => by
      rcases List.mem_append.1 hm with hm | hm
      · exact .inl hm
      · obtain rfl := List.mem_singleton.1 hm
        exact .inr nofun
    kept := fun hk => by
      by_cases e : (2 : Fin 16) = o
      · subst e
        rwa [hself]
      · rwa [hother 2 e]
    overrun := rfl }

end Run.Turns

end Sys2Proof.Machine
end

section
/-!
SUPPORT. Every act of a cascade turns the outlets as `Run.Turns` says: one lemma for each act of the outlet controller, and the blocks'
acts by their reactions (`Civil`).
-/
namespace Sys2Proof.Machine
namespace Run.Turns

variable {a : Act} {r r' p : Run}

/-- The record of one outlet changes, its state not. -/
theorem record {o : Fin 16} {x : Outlet} (hst : r'.st = setOutlet o x r.st) (hs : x.state = (outlet r.st o).state)
    (hidle : (outlet r.st o).Idle → x.Idle) (hfree : (outlet r.st o).Free → x.Free) (hheld : x.held = (outlet r.st o).held)
    (hshed : a.reclasses r.st = false → x.asked = (outlet r.st o).asked ∨ x.state ≠ .on ∧ x.state ≠ .waiting)
    (hc : ∀ c ∈ r'.changed, c ∈ r.changed ∨ c = (o, x.state, x.state)) : Run.Turns a r r' := by
  have hself : outlet r'.st o = x := by rw [hst, outlet_setOutlet, if_pos rfl]
  have hother : ∀ q, q ≠ o → outlet r'.st q = outlet r.st q := fun q hq => by rw [hst, outlet_setOutlet, if_neg hq]
  have hstate : ∀ q, (outlet r'.st q).state = (outlet r.st q).state := fun q => by
    by_cases e : q = o
    · rw [e, hself, hs]
    · rw [hother q e]
  have hlevel : r'.st.outlets.shedLevel = r.st.outlets.shedLevel := by rw [hst]; rfl
  have hsame : ∀ q, (outlet r'.st q).asked = (outlet r.st q).asked → isShed r'.st q = isShed r.st q := fun q hq => by
    rw [isShed, isShed, hlevel, effClass_of_asked hq (by rw [hst]; rfl) (by rw [hst]; rfl)]
  exact {
    idle := fun q hq => by
      by_cases e : q = o
      · subst e; rw [hself]; exact hidle hq
      · rwa [hother q e]
    free := fun q hq => by
      by_cases e : q = o
      · subst e; rw [hself]; exact hfree hq
      · rwa [hother q e]
    lit := fun q hq => .inl (by rwa [← hstate])
    tripped := fun q hq _ => by rwa [hstate]
    clear := fun ha q hq hon => by
      by_cases e : q = o
      · subst e
        rcases hshed ha with hd | ⟨h1, h2⟩
        · rw [hsame q (by rw [hself, hd])]
          exact hq (by rwa [hstate] at hon)
        · rw [hself] at hon
          exact absurd hon (not_or.2 ⟨h1, h2⟩)
      · rw [hsame q (by rw [hother q e])]
        exact hq (by rwa [hstate] at hon)
    on := fun _ q hq => .inl (by rwa [hstate])
    changed := fun c hm => (hc c hm).imp_right fun e => by rw [e]; exact fun h => by rw [hself]; exact h
    kept := fun hk => by
      by_cases e : (2 : Fin 16) = o
      · subst e
        rw [hself, hheld, hst]
        exact hk
      · rw [hother 2 e, hst]
        exact hk
    overrun := by rw [hst]; rfl }

theorem newRequest_grid (o : Fin 16) (s : State) : (newRequest o s).grid = s.grid :=
  (rfl : (newRequest o s).grid = (setOutlet o { outlet s o with requestOrder := s.outlets.nextRequest } s).grid).trans
    (setOutlet_grid s rfl fun e => by rw [e])

/-- A demand is set or withdrawn. -/
theorem demand {o : Fin 16} (d : Option Demand)
    (h : a.reclasses r.st = false → (outlet r.st o).state ≠ .on ∧ (outlet r.st o).state ≠ .waiting) :
    Run.Turns a r (r.onState (setDemand o d)) :=
  record rfl rfl id id rfl (fun ha => .inr (h ha)) fun _ => .inl

/-! ### The decision and the revocation (R68, R69) -/

theorem decides_passes {o : Fin 16} (h : a.decides o = true) : a.passes o = false := by rw [Act.passes, h]; rfl

theorem judge (o : Fin 16) : Run.Turns (.judge o) r (r.judge o) := by
  have hp : (Act.judge o).passes o = false := decides_passes (by simp [Act.decides])
  unfold Run.judge
  split
  · exact dark nofun nofun nofun nofun fun _ _ => hp
  · next hin =>
    have hin : (outlet r.st o).inhibit = 0 := not_not.1 hin
    split
    · exact dark nofun (fun _ _ => hin) nofun nofun fun _ _ => hp
    · next hs =>
      have hs : isShed r.st o = false := by simpa using hs
      split
      · exact grant (fun _ => hin) hs fun _ => hp
      · split
        · exact of_grid rfl fun _ h => h
        · exact dark nofun (fun _ _ => hin) (fun _ _ => hs) (fun _ _ => .inl hs) fun _ _ => hp

theorem passEnd (g : Goal) : Run.Turns (.pass g) r (r.passEnd g) := by
  unfold Run.passEnd
  split
  · exact refl _ r
  · next o =>
    have hp : (Act.pass (.room o)).passes o = false := decides_passes (by simp [Act.decides])
    simp only
    have hg : (if r.revoked then r.onState (raise .outlets (bit 13)) else r).st.grid = r.st.grid := by split <;> rfl
    have hc : (if r.revoked then r.onState (raise .outlets (bit 13)) else r).changed = r.changed := by split <;> rfl
    generalize (if r.revoked then r.onState (raise .outlets (bit 13)) else r) = q at hg hc
    refine after (p := q) ?_ hg (fun c h => hc ▸ h)
    split
    · exact dark nofun nofun nofun nofun fun _ _ => hp
    · next hin =>
      have hin : (outlet q.st o).inhibit = 0 := not_not.1 hin
      split
      · exact dark nofun (fun _ _ => hin) nofun nofun fun _ _ => hp
      · next hs => exact (grant (fun _ => hin) (by simpa using hs) fun _ => hp).before rfl fun _ h => h

/-- R69: one outlet in the search for the candidate. -/
def better (s : State) (best : Option (Fin 16)) (o : Fin 16) : Option (Fin 16) :=
  if (outlet s o).state = .on ∧ effClass s o ≠ 0 then
    match best with
    | none => some o
    | some b =>
      if effClass s b < effClass s o ∨ (effClass s b = effClass s o ∧ (outlet s b).grantOrder < (outlet s o).grantOrder)
      then some o else best
  else best

theorem candidate_eq (s : State) : Run.candidate s = outletsAll.foldl (better s) none := rfl

theorem better_on {s : State} {best : Option (Fin 16)} {o c : Fin 16} (h : better s best o = some c)
    (hb : ∀ c, best = some c → (outlet s c).state = .on ∧ effClass s c ≠ 0) : (outlet s c).state = .on ∧ effClass s c ≠ 0 := by
  unfold better at h
  split at h
  · next ho =>
    split at h
    · cases h; exact ho
    · split at h
      · cases h; exact ho
      · exact hb c h
  · exact hb c h

/-- R69: the candidate is an outlet in ON that is not PROTECTED. -/
theorem candidate_on {s : State} {c : Fin 16} (h : Run.candidate s = some c) : (outlet s c).state = .on ∧ effClass s c ≠ 0 := by
  rw [candidate_eq] at h
  generalize outletsAll = l at h
  have hnone : ∀ c, (none : Option (Fin 16)) = some c → (outlet s c).state = .on ∧ effClass s c ≠ 0 := nofun
  generalize (none : Option (Fin 16)) = b at h hnone
  induction l generalizing b with
  | nil => exact hnone c h
  | cons o l ih => exact ih _ h fun d hd => better_on hd hnone

theorem pass (g : Goal) : Run.Turns (.pass g) r (r.pass g) := by
  unfold Run.pass
  split
  · exact passEnd g
  · split
    · exact passEnd g
    · next c hc =>
      have hon := (candidate_on hc).1
      split
      · exact of_grid rfl fun _ h => h
      · next hne =>
        rw [not_or] at hne
        exact (dark (o := c) (x := .waiting) nofun (fun _ hf => hf (.inl hon)) (fun _ h => h (.inl hon))
          (fun _ _ => .inr (.inr ⟨g, rfl, hne⟩)) fun _ e => by rw [hon] at e; cases e).before rfl fun _ h => h

theorem cut (o : Fin 16) (c : Cut) : Run.Turns (.cut o c) r (r.cut o c) := by
  unfold Run.cut
  split
  · next h =>
    obtain ⟨hon, -⟩ := h
    have ht : ∀ P : Prop, (outlet r.st o).state = .tripped → P := fun P e => by rw [hon] at e; cases e
    split
    · exact dark nofun (fun _ hf => hf (.inl hon)) nofun nofun fun _ => ht _
    · exact (dark (o := o) (x := .waiting) nofun (fun _ hf => hf (.inl hon)) (fun _ h => h (.inl hon))
        (fun _ _ => .inr (.inl rfl)) fun _ => ht _).before rfl fun _ h => h
  · exact refl _ r

theorem overLimit (b : Bool) : Run.Turns a r (r.overLimit b) := by
  unfold Run.overLimit
  split
  · exact of_grid rfl fun _ h => h
  · exact refl _ r

/-! ### The shed level and the limit (R73 to R75, R77) -/

theorem cutRest : Run.Turns .cutRest r r.cutRest := by
  have hmem : ∀ o ∈ outletsAll.filter (Run.toShed r.st), (outlet r.st o).state = .on ∨ (outlet r.st o).state = .waiting := fun o ho => by
    have h := (List.mem_filter.1 ho).2
    simp only [Run.toShed, Bool.and_eq_true, Bool.or_eq_true, beq_iff_eq] at h
    exact h.1
  exact darkAll (l := outletsAll.filter (Run.toShed r.st)) (x := .shed) nofun
    (fun _ o ho hf => hf ((hmem o ho).imp_right .inl)) nofun nofun
    fun _ o ho e => by rcases hmem o ho with h | h <;> rw [h] at e <;> cases e

theorem unshed : Run.Turns a r r.unshed := by
  have hmem : ∀ o ∈ outletsAll.filter (fun o => (outlet r.st o).state == .shed && !isShed r.st o),
      (outlet r.st o).state = .shed ∧ isShed r.st o = false := fun o ho => by
    have h := (List.mem_filter.1 ho).2
    simpa only [Bool.and_eq_true, beq_iff_eq, Bool.not_eq_true'] using h
  exact darkAll (l := outletsAll.filter fun o => (outlet r.st o).state == .shed && !isShed r.st o) (x := .waiting) nofun
    (fun _ o ho hf => hf (.inr (.inr (hmem o ho).1))) (fun _ o ho _ => (hmem o ho).2) (fun _ o ho _ => .inl (hmem o ho).2)
    fun _ o ho e => by rw [(hmem o ho).1] at e; cases e

/-- A new shed level is taken: it alone changes. -/
theorem level (n : Nat) : Run.Turns (.shedLevel n) r
    (r.onState fun s => { s with outlets := { s.outlets with shedLevel := n } }) :=
  of_outlets (fun _ => ⟨rfl, rfl, rfl⟩) (fun ha o hs => by
    have hn : n ≤ r.st.outlets.shedLevel := by simpa [Act.reclasses] using ha
    exact classShed_mono hn hs) (fun _ h => h) id rfl

theorem shedLevel (n : Nat) : Run.Turns (.shedLevel n) r (r.shedLevel n) := by
  have hlevel := level (r := r) n
  unfold Run.shedLevel
  simp only
  split
  · exact hlevel.before rfl fun _ h => h
  · split
    · next hlt _ =>
      have hun := unshed (a := .drain) (r := r.onState fun s => { s with outlets := { s.outlets with shedLevel := n } })
      have hdark : ∀ o, (outlet (r.onState fun s => { s with outlets := { s.outlets with shedLevel := n } }).unshed.st o).state = .on →
          (outlet r.st o).state = .on := fun o h => by
        rw [show (r.onState fun s => { s with outlets := { s.outlets with shedLevel := n } }).unshed = Run.darkAll .waiting _ _ from rfl,
          Run.darkAll_outlet] at h
        split at h
        · cases h
        · exact h
      exact {
        idle := fun o h => hun.idle o (hlevel.idle o h)
        free := fun o h => hun.free o (hlevel.free o h)
        lit := fun o h => .inl (hdark o h)
        tripped := fun o h _ => hun.tripped o (hlevel.tripped o h rfl) rfl
        clear := fun ha o h => hun.clear rfl o (hlevel.clear ha o h)
        on := fun _ o h => (hun.on rfl o h).imp_right (Or.imp_right fun h => by
          rcases h with h | ⟨_, h, -⟩ <;> cases h)
        changed := fun c h => hun.changed c h
        kept := fun h => hun.kept h
        overrun := hun.overrun }
    · exact hlevel

theorem limit (n : Nat) : Run.Turns a r (r.limit n) := by
  unfold Run.limit
  simp only
  split
  · exact of_grid rfl fun _ h => h
  · split <;> exact of_grid rfl fun _ h => h

theorem rejudge (o : Fin 16) (c : Class) : Run.Turns (.rejudge o c) r (r.rejudge o c) := by
  unfold Run.rejudge
  split
  · exact refl _ r
  · split
    · next hon =>
      split
      · split
        · exact of_grid rfl fun _ h => h
        · exact dark nofun (fun _ hf => hf (.inl hon)) nofun nofun fun _ e => by rw [hon] at e; cases e
      · split
        · exact refl _ r
        · exact of_grid rfl fun _ h => h
    · next hw =>
      split
      · exact dark nofun (fun _ hf => hf (.inr (.inl hw))) nofun nofun fun _ e => by rw [hw] at e; cases e
      · split
        · exact of_grid rfl fun _ h => h
        · exact refl _ r
    · next hs =>
      split
      · exact refl _ r
      · next hns =>
        have hns : isShed r.st o = false := by simpa using hns
        split
        · exact of_grid rfl fun _ h => h
        · exact (dark (o := o) (x := .waiting) nofun (fun _ hf => hf (.inr (.inr hs))) (fun _ _ => hns) (fun _ _ => .inl hns)
            fun _ e => by rw [hs] at e; cases e).before rfl fun _ h => h
    · exact refl _ r

/-! ### Waiting outlets, trips, inhibits (R72, R76, R82, R83) -/

theorem consider (o : Fin 16) : Run.Turns (.consider o) r (r.consider o) := by
  unfold Run.consider
  split
  · next hw =>
    have ht : ∀ P : Prop, (outlet r.st o).state = .tripped → P := fun P e => by rw [hw] at e; cases e
    split
    · exact dark nofun (fun _ hf => hf (.inr (.inl hw))) nofun nofun fun _ => ht _
    · next hs =>
      split
      · exact grant (fun h => absurd hw h) (by simpa using hs) (ht _)
      · split
        · exact of_grid rfl fun _ h => h
        · exact refl _ r
  · exact refl _ r

theorem trip (o : Fin 16) : Run.Turns a r (r.trip o) :=
  before (r' := r.dark o .tripped) (dark nofun nofun nofun nofun fun h => absurd rfl h) rfl fun _ h => h

theorem clearTrip (o : Fin 16) : Run.Turns (.clearTrip o) r (r.clearTrip o) := by
  have hp : (Act.clearTrip o).passes o = false := decides_passes (by simp [Act.decides])
  unfold Run.clearTrip
  split
  · exact dark nofun nofun nofun nofun fun _ _ => hp
  · exact of_grid (newRequest_grid o r.st) fun _ h => h

/-- The record of one outlet is replaced by one that is INHIBITED or OFF. -/
theorem replaced {o : Fin 16} {y : Outlet} {T : Vector Outlet 16}
    (hst : r'.st = { r.st with outlets := { r.st.outlets with table := T } })
    (hout : ∀ q, outlet r'.st q = if q = o then y else outlet r.st q) (hy : y.state = .inhibited ∨ y.state = .off) (hc : y.charge = 0)
    (hheld : y.held = (outlet r.st o).held) (ht : (outlet r.st o).state ≠ .tripped)
    (hch : ∀ c ∈ r'.changed, c ∈ r.changed ∨ c.2.2 ≠ .tripped) : Run.Turns a r r' := by
  have hself : outlet r'.st o = y := by rw [hout, if_pos rfl]
  have hother : ∀ q, q ≠ o → outlet r'.st q = outlet r.st q := fun q hq => by rw [hout, if_neg hq]
  have hsame : ∀ q, q ≠ o → isShed r'.st q = isShed r.st q := fun q hq => by
    have hd := congrArg Outlet.demand (hother q hq)
    have hl : r'.st.outlets.shedLevel = r.st.outlets.shedLevel := by rw [hst]
    rw [isShed, isShed, hl, effClass_of_grid hd (by rw [hst]) (by rw [hst])]
  have hclear : ClearAt r'.st o := fun e => by
    rw [hself] at e
    rcases hy with hy | hy <;> rw [hy] at e <;> rcases e with e | e <;> cases e
  exact {
    idle := fun q hq => by
      by_cases e : q = o
      · subst e; rw [hself]; exact fun _ => hc
      · rwa [hother q e]
    free := fun q hq => by
      by_cases e : q = o
      · subst e
        rw [hself]
        intro e
        rcases hy with hy | hy <;> rw [hy] at e <;> rcases e with e | e | e <;> cases e
      · rwa [hother q e]
    lit := fun q hq => by
      by_cases e : q = o
      · subst e
        rw [hself] at hq
        rcases hy with hy | hy <;> rw [hy] at hq <;> cases hq
      · exact .inl (by rwa [hother q e] at hq)
    tripped := fun q hq _ => by
      by_cases e : q = o
      · subst e; exact absurd hq ht
      · rwa [hother q e]
    clear := fun _ q hq => by
      by_cases e : q = o
      · subst e; exact hclear
      · unfold ClearAt at *
        rwa [hother q e, hsame q e]
    on := fun _ q hq => by
      by_cases e : q = o
      · subst e; exact .inr (.inl hclear)
      · exact .inl (by rwa [hother q e])
    changed := fun c hm => (hch c hm).imp_right fun h e => absurd e h
    kept := fun hk => by
      rw [hst] at *
      by_cases e : (2 : Fin 16) = o
      · subst e; rwa [hself, hheld]
      · rwa [hother 2 e]
    overrun := by rw [hst] }

/-- One count of an evaluation's rises. -/
theorem rise {m : List (Fin 16 × Nat)} (o : Fin 16) (k : Nat) :
    Run.Turns (.rises m) r (if (outlet r.st o).inhibit = 0 ∧ ((outlet r.st o).state = .on ∨ (outlet r.st o).state = .waiting ∨
        (outlet r.st o).state = .shed)
      then (r.onState (setOutlet o { outlet r.st o with inhibit := (outlet r.st o).inhibit + k })).dark o .inhibited
      else r.onState (setOutlet o { outlet r.st o with inhibit := (outlet r.st o).inhibit + k })) := by
  split
  · next h =>
    obtain ⟨-, h⟩ := h
    refine replaced (o := o) (y := Outlet.darkened .inhibited { outlet r.st o with inhibit := (outlet r.st o).inhibit + k }) rfl
      (fun q => ?_) (.inl rfl) rfl rfl (fun e => ?_) fun c hm => ?_
    · rw [Run.dark_outlet, onState_st, outlet_setOutlet, outlet_setOutlet, if_pos rfl]
      split <;> rfl
    · rcases h with h | h | h <;> rw [h] at e <;> cases e
    · rcases List.mem_append.1 hm with hm | hm
      · exact .inl hm
      · rw [List.mem_singleton.1 hm]
        exact .inr nofun
  · next h =>
    refine record (o := o) rfl rfl id (fun hf e => ?_) rfl (fun _ => .inl rfl) fun _ => .inl
    exact absurd ⟨hf e, e⟩ h

/-- No count that rises lights an outlet. -/
theorem rise_on (o q : Fin 16) (k : Nat) (h : (outlet (if (outlet r.st o).inhibit = 0 ∧ ((outlet r.st o).state = .on ∨
        (outlet r.st o).state = .waiting ∨ (outlet r.st o).state = .shed)
      then (r.onState (setOutlet o { outlet r.st o with inhibit := (outlet r.st o).inhibit + k })).dark o .inhibited
      else r.onState (setOutlet o { outlet r.st o with inhibit := (outlet r.st o).inhibit + k })).st q).state = .on) :
    (outlet r.st q).state = .on := by
  by_cases e : q = o
  · subst e
    split at h
    · rw [Run.dark_outlet, if_pos rfl] at h
      cases h
    · rwa [onState_st, outlet_setOutlet, if_pos rfl] at h
  · split at h
    · rwa [Run.dark_outlet, if_neg e, onState_st, outlet_setOutlet, if_neg e] at h
    · rwa [onState_st, outlet_setOutlet, if_neg e] at h

theorem rises {m : List (Fin 16 × Nat)} (l : List (Fin 16 × Nat)) : ∀ r : Run, Run.Turns (.rises m) r (r.rises l) ∧
    ∀ o, (outlet (r.rises l).st o).state = .on → (outlet r.st o).state = .on := by
  induction l with
  | nil => exact fun r => ⟨refl _ r, fun _ h => h⟩
  | cons x l ih =>
    intro r
    rw [rises_cons]
    obtain ⟨hl, hdark⟩ := ih (if (outlet r.st x.1).inhibit = 0 ∧ ((outlet r.st x.1).state = .on ∨ (outlet r.st x.1).state = .waiting ∨
        (outlet r.st x.1).state = .shed)
      then (r.onState (setOutlet x.1 { outlet r.st x.1 with inhibit := (outlet r.st x.1).inhibit + x.2 })).dark x.1 .inhibited
      else r.onState (setOutlet x.1 { outlet r.st x.1 with inhibit := (outlet r.st x.1).inhibit + x.2 }))
    have hone := rise (r := r) (m := m) x.1 x.2
    exact ⟨hone.trans hl (fun o => rise_on x.1 o x.2) hdark (fun _ => rfl) fun _ => rfl, fun o h => rise_on x.1 o x.2 (hdark o h)⟩

theorem fall (o : Fin 16) (k : Nat) : Run.Turns a r (r.fall o k) := by
  have h : Run.Turns a r (r.onState (setOutlet o { outlet r.st o with inhibit := (outlet r.st o).inhibit - k })) :=
    record rfl rfl id (fun hf hs => by rw [hf hs]; exact Nat.zero_sub k) rfl (fun _ => .inl rfl) fun _ => .inl
  unfold Run.fall
  simp only
  split
  · exact h.before rfl fun _ h => h
  · exact h

/-! ### Requests (R66, R68, R70, R71) -/

theorem takeCharge (o : Fin 16) (k : Nat) : Run.Turns a r (r.takeCharge o k) := by
  unfold Run.takeCharge
  simp only
  split
  · exact refl _ r
  · next d hd =>
    split
    · exact refl _ r
    · split
      · next hon =>
        split
        · refine record (o := o) (x := { outlet r.st o with demand := some { d with charge := k }, charge := k }) rfl rfl
            (fun _ h => absurd hon h) id rfl (fun _ => .inl ?_) fun c hm => ?_
          · rw [Outlet.asked, Outlet.asked, hd]
            rfl
          · exact (List.mem_append.1 hm).imp_right fun e => (List.mem_singleton.1 e).trans (by rw [hon])
        · exact of_grid rfl fun _ h => h
      · refine record (o := o) (x := { outlet r.st o with demand := some { d with charge := k } }) rfl rfl id id rfl
          (fun _ => .inl ?_) fun _ => .inl
        rw [Outlet.asked, Outlet.asked, hd]
        rfl

theorem takeDemand (o : Fin 16) (d : Demand) : Run.Turns (.take (.demand o d)) r (r.takeDemand o d) := by
  have hset : Run.Turns (.take (.demand o d)) r (r.onState (setDemand o (some d))) := demand _ fun h => by cases h
  unfold Run.takeDemand
  simp only
  split
  · exact hset.before (newRequest_grid o _) fun _ h => h
  · next ht =>
    refine record (o := o) rfl rfl id id rfl (fun h => by cases h) fun c hm => ?_
    exact (List.mem_append.1 hm).imp_right fun e => (List.mem_singleton.1 e).trans (by rw [ht])
  · exact (demand (r := r) _ fun h => by cases h).before rfl fun _ h => h
  · exact refl _ r

theorem takeWithdraw (o : Fin 16) : Run.Turns (.take (.withdraw o)) r (r.takeWithdraw o) := by
  unfold Run.takeWithdraw
  split
  · next h => exact demand _ fun _ => by rw [h]; exact ⟨nofun, nofun⟩
  · next h => exact demand _ fun _ => by rw [h]; exact ⟨nofun, nofun⟩
  · next hoff ht =>
    refine replaced (o := o) (y := Outlet.darkened .off { outlet r.st o with demand := none }) rfl (fun q => ?_) (.inr rfl) rfl rfl ht
      fun c hm => ?_
    · rw [Run.dark_outlet, onState_st, setDemand, outlet_setOutlet, outlet_setOutlet, if_pos rfl]
      split <;> rfl
    · rcases List.mem_append.1 hm with hm | hm
      · exact .inl hm
      · rw [List.mem_singleton.1 hm]
        exact .inr nofun

theorem takeHeater (q : SeqState) : Run.Turns (.take (.heater q)) r (r.takeHeater q) :=
  of_outlets (fun _ => ⟨rfl, rfl, rfl⟩) (fun h => by cases h) (fun _ h => h) id rfl

theorem take (q : Req) : Run.Turns (.take q) r (r.take q) := by
  unfold Run.take
  split
  · exact of_grid rfl fun _ h => h
  · cases q with
    | demand o d => exact takeDemand o d
    | withdraw o => exact takeWithdraw o
    | charge o k => exact takeCharge o k
    | heater q => exact takeHeater q

/-! ### Owners asked, and the flags of the supply (R78, R129) -/

theorem react {f : State → React} (h : Civil r.st (f r.st)) : Run.Turns a r (r.react f) := of_grid h.grid fun _ h => h

/-- R137: the answer for the supply leaves the outlets, and the sequencer's state as it is known to them, or makes it one in which the
supply is PROTECTED. -/
theorem supplyAsk_outlets (s : State) : (supplyAsk s).1 = s ∨
    supplyProtected (seq s).state = true ∧ (supplyAsk s).1 = { s with outlets := { s.outlets with heater := (seq s).state } } := by
  unfold supplyAsk
  split
  · exact .inl rfl
  · split
    · exact .inr ⟨‹_›, rfl⟩
    · exact .inl rfl

/-- R66: a supply whose sequencer is in such a state is PROTECTED. -/
theorem effClass_supply {s : State} (h : supplyProtected s.outlets.heater = true) : effClass s 2 = 0 := by simp [effClass, h]

theorem effClass_heater {s : State} {o : Fin 16} (h : o ≠ 2) (q : SeqState) :
    effClass { s with outlets := { s.outlets with heater := q } } o = effClass s o := by
  unfold effClass
  simp only [h, false_and, if_false]
  rfl

theorem ask (o : Fin 16) (c : Cut) : Run.Turns (.ask o c) r (perform (.ask o c) r) := by
  simp only [perform]
  split
  · unfold ownerAsk
    split
    · rcases supplyAsk_outlets r.st with e | ⟨hp, e⟩
      · exact of_grid (congrArg State.grid e) fun _ h => h
      · have hst : (r.react supplyAsk).st = { r.st with outlets := { r.st.outlets with heater := (seq r.st).state } } := e
        refine of_outlets (fun q => by rw [hst]; exact ⟨rfl, rfl, rfl⟩) (fun _ q hq => ?_) (fun _ h => h)
          (fun h => by rw [hst]; exact h) (by rw [hst])
        rw [hst]
        by_cases h2 : q = 2
        · subst h2
          rw [isShed, effClass_supply hp]
          rfl
        · rw [isShed, effClass_heater h2]
          exact hq
    · split
      · exact of_grid (bridgeAsk_civil r.st).grid fun _ h => h
      · exact of_grid rfl fun _ h => h
  · exact refl _ r

theorem seqFlags_outlet (s : State) (q : Fin 16) : outlet (seqFlags s) q =
    if q = 2 then { outlet s 2 with held := (seq s).state.active } else outlet s q := outlet_setOutlet 2 q _ s

theorem seqFlags : Run.Turns a r (r.onState Machine.seqFlags) := by
  have hout : ∀ q, (outlet (Machine.seqFlags r.st) q).demand = (outlet r.st q).demand ∧
      (outlet (Machine.seqFlags r.st) q).state = (outlet r.st q).state ∧
      (outlet (Machine.seqFlags r.st) q).charge = (outlet r.st q).charge ∧
      (outlet (Machine.seqFlags r.st) q).inhibit = (outlet r.st q).inhibit := fun q => by
    rw [seqFlags_outlet]
    split
    · next e => rw [e]; exact ⟨rfl, rfl, rfl, rfl⟩
    · exact ⟨rfl, rfl, rfl, rfl⟩
  refine of_outlets (fun q => (hout q).2) (fun _ q hq => ?_) (fun _ h => h) (fun _ h => ?_) rfl
  · rw [onState_st, isShed, effClass_of_grid (hout q).1 rfl rfl]
    exact hq
  · rw [onState_st, seqFlags_outlet, if_pos rfl] at h
    exact h

end Run.Turns

/-! ### Every act -/

/-- What every act of a cascade does to the outlets. -/
theorem perform_turns (a : Act) (r : Run) : Run.Turns a r (perform a r) := by
  have same : ∀ {r' : Run}, r'.st.grid = r.st.grid → r'.changed = r.changed → Run.Turns a r r' := fun h hc =>
    .of_grid h fun _ hm => hc ▸ hm
  cases a
  case req q =>
    simp only [perform, Run.req]
    split <;> exact same rfl rfl
  case take q => exact .take q
  case drain =>
    simp only [perform, Run.drain]
    split <;> exact same rfl rfl
  case action l => exact same rfl rfl
  case arbiterIf =>
    simp only [perform, Run.arbiterIf]
    split <;> exact same rfl rfl
  case restore b => exact same rfl rfl
  case flush =>
    simp only [perform, Run.flush]
    split
    · next c l e => exact .of_grid rfl fun d hd => by rw [e]; exact List.mem_cons_of_mem _ hd
    · split
      · exact .of_grid rfl fun _ h => h
      · split <;> exact .of_grid rfl fun _ h => h
  case flushEnd => exact same (afterReports_grid r.st).1 rfl
  case actEnd =>
    simp only [perform, Run.actEnd, Run.drainIfDone]
    split <;> exact same rfl rfl
  case judge o => exact .judge o
  case preempt o => exact same rfl rfl
  case pass g => exact .pass g
  case ask o c => exact .ask o c
  case cut o c => exact .cut o c
  case cutRest => exact .cutRest
  case rejudge o c => exact .rejudge o c
  case arbiter => exact same rfl rfl
  case consider o => exact .consider o
  case clearTrip o => exact .clearTrip o
  case trip o => exact .trip o
  case tripDone n o => exact same (finish_grid r.st _ _).1 rfl
  case rises l => exact (Run.Turns.rises l r).1
  case fall o k => exact .fall o k
  case shedLevel n => exact .shedLevel n
  case limit n => exact .limit n
  case overLimit b => exact .overLimit b
  case report o x y => exact .react (ownerReport_civil r.st o x y)
  case signal g v =>
    simp only [perform, Run.signal]
    split
    · exact same rfl rfl
    · split <;> exact same rfl rfl
  case blockRise m k => exact same (setBlockCount_grid r.st m _).1 rfl
  case blockFall m k => exact same (setBlockCount_grid r.st m _).1 rfl
  case notices l c => exact same (evalNotices_grid r.st l c).1 rfl
  case evalEnd =>
    simp only [perform, Run.evalEnd, Run.drainIfDone]
    split <;> exact same rfl rfl
  case resume k => exact same rfl rfl
  case raise g c => exact same rfl rfl
  case finish n f => exact same (finish_grid r.st n f).1 rfl
  case shown m l => exact same rfl rfl
  case solar => exact .react (showing_civil _ (solarEval_civil r.st))
  case floatResult x => exact .react (showing_civil _ (floatDone_civil r.st x))
  case shedEval => exact .react (shedEval_civil r.st)
  case limitEval => exact .react (limitEval_civil r.st)
  case post e => exact .react (postHeater_civil r.st e)
  case postFloat => exact .react (postFloat_civil r.st)
  case result c x b => exact .react (heaterResult_civil r.st c x b)
  case freshPump => exact .react (freshPump_civil r.st)
  case freshFill => exact .react (freshFill_civil r.st)
  case pumpStart => exact .react (pumpStart_civil r.st)
  case pumpDry c => exact .react (showing_civil _ (pumpDry_civil r.st c))
  case fillEnd e => exact .react (fillEnd_civil r.st e)
  case fillFinish e => exact .react (showing_civil _ (fillFinish_civil r.st e))
  case frostTemp b => exact .react (showing_civil _ (frostEval_civil r.st b))
  case stage t b => exact .react (stageChange_civil r.st t b)
  case stageFill t => exact .react (stageFill_civil r.st t)
  case stageLeave x y => exact .react (stageLeave_civil r.st x y)
  case stageBegin x y => exact .react (stageBegin_civil r.st x y)
  case drainLatch => exact .react (drainLatch_civil r.st)
  case delivered b => exact same rfl rfl
  case zoneFollow z => exact .react (zoneFollow_civil r.st z)
  case heatDemand => exact same rfl rfl
  case frostDemand b => exact .react (frostDemand_civil r.st b)
  case seqFrost b => exact .react (seqFrost_civil r.st b)
  case seqShed => exact .react (seqShed_civil r.st)
  case seqDemand => exact .react (seqDemand_civil r.st)
  case seqLevel => exact .react (seqLevel_civil r.st)
  case heaterTest => exact .react (heaterTest_civil r.st)
  case enter x c => exact .react (enter_civil r.st x c)
  case seqReport =>
    simp only [perform, Run.seqReport]
    split <;> exact same rfl rfl
  case seqFlags => exact .seqFlags
  case igniting => exact .react (igniting_civil r.st)
  case running => exact .react (running_civil r.st)
  case stopping b => exact .react (stopping_civil r.st b)
  case startFail c => exact .react (startFail_civil r.st c)
  case runJudge => exact .react (runJudge_civil r.st)
  case runShed => exact .react (runShed_civil r.st)
  case cooldownEnd => exact .react (cooldownEnd_civil r.st)
  case unitReading u b => exact .react (closing_civil _ (unitReading_civil r.st u b))
  case unitLost => exact .react (unitLost_civil r.st)
  case offFaulty => exact .react (offFaulty_civil r.st)
  case blockBegins m => exact same (blockBegins_civil r.st m).grid rfl
  case stowSignal m => exact .react (stowSignal_civil r.st m)
  case claim m => exact .react (claim_civil r.st m)
  case moveEnd m f x => exact .react (moveEnd_civil r.st m f x)
  case moveFree m => exact same (moveFree_grid r.st m).1 rfl
  case moveResult m f x => exact .react (moveResult_civil r.st m f x)
  case serveRelease => exact .react (serveRelease_civil r.st)
  case retract m => exact .react (requestRetract_civil r.st m)
  case extension => exact .react (extension_civil r.st)
  case doorScene => exact .react (doorScene_civil r.st)
  case recallOn l n b cs lost => exact .react (recallStep_civil r.st l n b cs lost)
  case applied n k b => exact .react (applied_civil r.st n k b)
  case supersede x y c => exact .react (supersede_civil r.st x y c)
  case recallTest n => exact .react (recallTest_civil r.st n)
  case ramp c => exact .react (ramp_civil r.st c)

end Sys2Proof.Machine
end

section
/-!
SUPPORT. A sequencer in STOPPING stays there under the blocks' reactions that set off no change of state (`Staying`), and the acts that
leave it there (`Act.tide`).
-/
namespace Sys2Proof.Machine

/-- The act neither leads the sequencer out of STOPPING nor cuts the HEATER SUPPLY. -/
def Act.tide : Act → Bool
  | .report o _ x => !(o == 2 && x == .tripped)
  | .cut o _ => o != 2
  | .enter _ _ | .trip _ | .unitLost | .cooldownEnd | .unitReading _ _ | .offFaulty | .rejudge _ _ => false
  | _ => true

/-- Where the sequencer is in STOPPING, the reaction leaves it there, and what it sets off does. -/
def Staying (s : State) (x : React) : Prop :=
  (seq s).state = .stopping → (seq x.1).state = .stopping ∧ Sparing (.state .stopping) x.2

theorem Act.tide_of_spares {a : Act} (ho : a.outward = true) (hs : a.spares (.state .stopping) = true) : a.tide = true := by
  cases a
  case enter | cooldownEnd | unitReading | unitLost | offFaulty => exact absurd hs (by simp [Act.spares, Watch.lax, Watch.linkOnly])
  all_goals first | rfl | cases ho

section
variable {s : State} {x : React}

theorem Mute.staying (h : Mute (.state .stopping) s x) : Staying s x := fun e =>
  ⟨(congrArg (fun k => k.2.1.state) h.1 :).trans e, h.2⟩

theorem closing_staying {m l : List Part} {f : State → React} (h : Staying s (f s)) : Staying s (closing m l f s) := fun e =>
  ⟨(h e).1, sparing_append.2 ⟨(h e).2, rfl⟩⟩

variable (s)

theorem sendHeater_seq (i : Fin 12) (e : HeaterEntry) : seq (sendHeater i e s) = seq s := by cases e <;> rfl

theorem linkChoose_seq (now : Nat) : seq (linkChoose now s) = seq s := by
  unfold linkChoose
  simp only
  split
  · rfl
  · exact sendHeater_seq s _ _
  · split
    · rfl
    · split <;> rfl

theorem chooseIfIdle_seq : seq (chooseIfIdle s) = seq s := by
  unfold chooseIfIdle
  split
  · exact linkChoose_seq s _
  · rfl

theorem postHeater_staying (e : HeaterEntry) : Staying s (postHeater e s) := fun h => by
  unfold postHeater
  split
  · exact ⟨h, by cases e <;> rfl⟩
  · exact ⟨(congrArg Sequencer.state (chooseIfIdle_seq _)).trans h, rfl⟩

theorem postFloat_staying : Staying s (postFloat s) := fun h => by
  unfold postFloat
  split
  · exact ⟨h, rfl⟩
  · exact ⟨(congrArg Sequencer.state (chooseIfIdle_seq _)).trans h, rfl⟩

theorem heaterTest_staying : Staying s (heaterTest s) := fun h => by
  rw [heaterTest, if_neg (by simp [h])]
  exact ⟨h, rfl⟩

theorem igniting_staying : Staying s (igniting s) := fun h => ⟨h, rfl⟩

theorem running_staying : Staying s (running s) := fun h => ⟨h, rfl⟩

theorem startFail_staying (c : BitVec 32) : Staying s (startFail c s) := fun h => by
  rw [startFail, if_neg (by simp [h])]
  exact ⟨h, rfl⟩

theorem runJudge_staying : Staying s (runJudge s) := fun h => by
  rw [runJudge, if_pos (by simp [h])]
  exact ⟨h, rfl⟩

theorem runShed_staying : Staying s (runShed s) := fun h => by
  rw [runShed, if_neg (by simp [h])]
  exact ⟨h, rfl⟩

theorem seqDemand_staying : Staying s (seqDemand s) := fun h => by
  simp only [seqDemand, h]
  exact ⟨trivial, rfl⟩

theorem seqLevel_staying : Staying s (seqLevel s) := fun h => by
  simp only [seqLevel, h]
  exact ⟨h, rfl⟩

theorem seqFrost_staying (b : Bool) : Staying s (seqFrost b s) := fun h => by
  simp only [seqFrost, h]
  exact ⟨trivial, rfl⟩

theorem heaterResult_staying (c : HeaterCmd) (x : CmdResult) (b : Bool) : Staying s (heaterResult c x b s) := fun h => by
  cases c <;> simp only [heaterResult, h]
  case clearFault => exact ⟨h, rfl⟩
  all_goals
    split
    · exact ⟨h, rfl⟩
    · exact ⟨h, rfl⟩

theorem supplyReport_staying {x : OutletState} (hx : x ≠ .tripped) : Staying s (supplyReport x s) := fun h => by
  cases x
  case on =>
    simp only [supplyReport, h]
    exact ⟨h, rfl⟩
  case tripped => exact absurd rfl hx
  all_goals exact ⟨h, rfl⟩

theorem ownerReport_staying {o : Fin 16} {x y : OutletState} (h : (Act.report o x y).tide = true) :
    Staying s (ownerReport o x y s) := by
  unfold ownerReport
  split
  · exact (mute_nil s).staying
  · split
    · exact (showing_mute s (pumpReport_mute s _)).staying
    · split
      · next e =>
        subst e
        exact closing_staying (supplyReport_staying s (by simpa [Act.tide] using h))
      · split
        · exact (bridgeReport_mute s _).staying
        · split
          · exact (showing_mute s (fillReport_mute s _)).staying
          · split
            · exact Mute.staying ⟨rfl, rfl⟩
            · split
              · exact (lightReport_mute s _ _ _).staying
              · exact (mute_nil s).staying

end

end Sys2Proof.Machine
end

section
/-!
SUPPORT. What one act of a cascade puts on the stack (`Run.Pushes`).
-/
namespace Sys2Proof.Machine

/-- An act of the outlet controller, or one that does no more than write, that may be found on any stack: it re-judges nothing, decides
nothing, and does not end the STOPPING of the sequencer. -/
def Act.mild (a : Act) : Bool := a.calm && a.tide && match a with
  | .judge _ | .preempt _ | .pass (.room _) | .clearTrip _ | .action _ => false
  | _ => true

theorem Act.Among.imp {P Q : Act → Bool} (h : ∀ a, P a = true → Q a = true) {a : Act} (ha : a.Among P) : a.Among Q := by
  cases a
  case action l => exact fun b hb => ⟨(ha b hb).1, h b (ha b hb).2⟩
  all_goals exact h _ ha

theorem Act.calm_of_mild {a : Act} (h : a.mild = true) : a.calm = true := by
  simp only [Act.mild, Bool.and_eq_true] at h
  exact h.1.1

theorem Act.tide_of_mild {a : Act} (h : a.mild = true) : a.tide = true := by
  simp only [Act.mild, Bool.and_eq_true] at h
  exact h.1.2

theorem Act.passes_of_mild {a : Act} (o : Fin 16) (h : a.mild = true) : a.passes o = true := by
  cases a
  case pass g => cases g <;> first | rfl | cases h
  all_goals first | rfl | cases h

/-- An act that is no action is one of itself alone. -/
theorem Act.among_of {P : Act → Bool} {a : Act} (hn : ∀ m, a ≠ .action m) (h : P a = true) : a.Among P := by
  cases a
  case action l => exact absurd rfl (hn l)
  all_goals exact h

theorem Act.among_mild {a : Act} (h : a.mild = true) : a.Among Act.mild :=
  Act.among_of (fun m e => by subst e; cases h) h

/-- The sequencer is in STOPPING, and no trip of the HEATER SUPPLY is left to report. -/
structure Run.Tidal (r : Run) : Prop where
  seq : (seq r.st).state = .stopping
  changed : ∀ c ∈ r.changed, c.1 = 2 → c.2.2 ≠ .tripped

/-- What an act puts on the stack: no re-judging but of a request that is taken; a decision on outlet o, but for one it is itself, only
alone and where the outlet is neither in ON nor in TRIPPED; and nothing that ends a STOPPING of the sequencer or cuts the HEATER SUPPLY,
but for its revocation. Where what the heat follows from has changed, the heat is reckoned anew. -/
structure Run.Pushes (a : Act) (r r' : Run) (p : List Act) : Prop where
  work : r'.work = p ++ r.work
  calm : a.reclasses r.st = false → a.Among Act.calm → ∀ b ∈ p, b.Among Act.calm
  passes : ∀ o, a.Among (Act.passes o) → (∀ b ∈ p, b.Among (Act.passes o)) ∨
    ((outlet r.st o).state ≠ .on ∧ (outlet r.st o).state ≠ .tripped ∧ (outlet r'.st o).state = (outlet r.st o).state ∧
      (p = [.judge o] ∨ p = [.preempt o]))
  tide : a.reclasses r.st = false → a.Among Act.tide → r.Tidal → (seq r'.st).state = .stopping ∧
    ((∀ b ∈ p, b.Among Act.tide) ∨
      ∃ g, a = .pass g ∧ p = [.ask 2 .revoked, .cut 2 .revoked, .pass g] ∧ r'.st = r.st ∧ (outlet r.st 2).state = .on ∧ effClass r.st 2 ≠ 0)
  heat : a ≠ .heatDemand → r'.st.warmth = r.st.warmth ∨ .heatDemand ∈ p

theorem seq_of_climate {s t : State} (h : t.climate = s.climate) : seq t = seq s := congrArg Climate.seq h

theorem warmth_of_climate {s t : State} (h : t.climate = s.climate) : t.warmth = s.warmth := by rw [State.warmth, h]; rfl

namespace Run.Pushes

variable {a : Act} {r r' : Run} {p : List Act}

theorem of_among (hw : r'.work = p ++ r.work) (h : ∀ b ∈ p, b.Among Act.mild) (hs : r'.st.climate = r.st.climate := by rfl) :
    Run.Pushes a r r' p where
  work := hw
  calm _ _ b hb := (h b hb).imp fun _ => Act.calm_of_mild
  passes o _ := .inl fun b hb => (h b hb).imp fun _ => Act.passes_of_mild o
  tide _ _ ht := ⟨seq_of_climate hs ▸ ht.seq, .inl fun b hb => (h b hb).imp fun _ => Act.tide_of_mild⟩
  heat _ := .inl (warmth_of_climate hs)

theorem of_all (hw : r'.work = p ++ r.work) (h : p.all Act.mild = true) (hs : r'.st.climate = r.st.climate := by rfl) :
    Run.Pushes a r r' p :=
  of_among hw (fun b hb => Act.among_mild (List.all_eq_true.1 h b hb)) hs

theorem none (hw : r'.work = r.work) (hs : r'.st.climate = r.st.climate := by rfl) : Run.Pushes a r r' [] := of_all hw rfl hs

/-- A block's reaction. -/
theorem react {f : State → React} (h : Civil r.st (f r.st)) (hs : a.Among Act.tide → Staying r.st (f r.st)) :
    Run.Pushes a r (r.react f) (f r.st).2 where
  work := rfl
  calm _ _ b hb := Act.calm_outward (outward_iff.1 h.acts b hb)
  passes o _ := .inl fun b hb => Act.passes_outward (outward_iff.1 h.acts b hb) o
  tide _ ha ht := by
    obtain ⟨hseq, hl⟩ := hs ha ht.seq
    refine ⟨hseq, .inl fun b hb => ?_⟩
    have ho := outward_iff.1 h.acts b hb
    exact Act.among_outward ho (Act.tide_of_spares ho (sparing_iff.1 hl b hb))
  heat _ := h.heat

theorem react_mute {f : State → React} (h : Civil r.st (f r.st)) (hm : Mute (.state .stopping) r.st (f r.st)) :
    Run.Pushes a r (r.react f) (f r.st).2 := react h fun _ => hm.staying

/-- The decision on an outlet that is neither in ON nor in TRIPPED. -/
theorem decision {o : Fin 16} {d : Act} (hw : r'.work = [d] ++ r.work) (hd : d = .judge o ∨ d = .preempt o)
    (hon : (outlet r.st o).state ≠ .on) (ht : (outlet r.st o).state ≠ .tripped)
    (hst : (outlet r'.st o).state = (outlet r.st o).state) (hs : r'.st.climate = r.st.climate := by rfl) : Run.Pushes a r r' [d] where
  work := hw
  calm _ _ b hb := by
    rw [List.mem_singleton.1 hb]
    rcases hd with rfl | rfl <;> rfl
  passes q _ := by
    by_cases e : q = o
    · subst e
      exact .inr ⟨hon, ht, hst, hd.imp (congrArg fun x => [x]) (congrArg fun x => [x])⟩
    · refine .inl fun b hb => ?_
      rw [List.mem_singleton.1 hb]
      have hne : ¬ o = q := fun h => e h.symm
      rcases hd with rfl | rfl <;> simp [Act.Among, Act.passes, Act.decides, hne]
  tide _ _ ht := ⟨seq_of_climate hs ▸ ht.seq, .inl fun b hb => by
    rw [List.mem_singleton.1 hb]
    rcases hd with rfl | rfl <;> rfl⟩
  heat _ := .inl (warmth_of_climate hs)

/-- An act that decides on outlet o goes on deciding on it. -/
theorem decides {o : Fin 16} (hw : r'.work = p ++ r.work) (hd : ∀ b ∈ p, b.calm = true ∧ b.tide = true ∧ (∀ m, b ≠ .action m) ∧
      ∀ q, b.decides q = true → q = o) (ha : ¬ a.Among (Act.passes o)) (hs : r'.st.climate = r.st.climate := by rfl) :
    Run.Pushes a r r' p where
  work := hw
  calm _ _ b hb := by
    obtain ⟨hc, -, hn, -⟩ := hd b hb
    exact Act.among_of hn hc
  passes q hq := .inl fun b hb => by
    obtain ⟨-, -, hn, hdec⟩ := hd b hb
    refine Act.among_of hn ?_
    rw [Act.passes, Bool.not_eq_true', ← Bool.not_eq_true]
    exact fun h => ha (hdec q h ▸ hq)
  tide _ _ ht := ⟨seq_of_climate hs ▸ ht.seq, .inl fun b hb => by
    obtain ⟨-, hc, hn, -⟩ := hd b hb
    exact Act.among_of hn hc⟩
  heat _ := .inl (warmth_of_climate hs)

end Run.Pushes

variable (r : Run)

theorem judge_pushes (o : Fin 16) : ∃ p, Run.Pushes (.judge o) r (r.judge o) p := by
  unfold Run.judge
  split
  · exact ⟨[], .none rfl⟩
  · split
    · exact ⟨[], .none rfl⟩
    · split
      · exact ⟨[], .none rfl⟩
      · split
        · refine ⟨[.preempt o], .decides (o := o) rfl ?_ ?_⟩
          · simp [Act.calm, Act.tide, Act.decides]
          · simp [Act.Among, Act.passes, Act.decides]
        · exact ⟨[], .none rfl⟩

theorem preempt_pushes (o : Fin 16) : Run.Pushes (.preempt o) r (perform (.preempt o) r) [.pass (.room o)] := by
  refine .decides (o := o) rfl ?_ ?_
  · simp [Act.calm, Act.tide, Act.decides]
  · simp [Act.Among, Act.passes, Act.decides]

theorem passEnd_pushes (a : Act) (g : Goal) : ∃ p, Run.Pushes a r (r.passEnd g) p := by
  unfold Run.passEnd
  split
  · exact ⟨[], .none rfl⟩
  · simp only
    have hw : (if r.revoked then r.onState (raise .outlets (bit 13)) else r).work = r.work := by split <;> rfl
    have hs : (if r.revoked then r.onState (raise .outlets (bit 13)) else r).st.climate = r.st.climate := by split <;> rfl
    generalize (if r.revoked then r.onState (raise .outlets (bit 13)) else r) = q at hw hs
    split
    · exact ⟨[], .none hw hs⟩
    · split
      · exact ⟨[], .none hw hs⟩
      · exact ⟨[.overLimit _], .of_all (congrArg (_ :: ·) hw) rfl hs⟩

/-- A pass goes on after a revocation. -/
theorem pass_pushes_of {g : Goal} {r' : Run} {p : List Act} (hp : ∀ b ∈ p, b.mild = true)
    (hw : r'.work = (p ++ [.pass g]) ++ r.work) (hs : r'.st.climate = r.st.climate) : Run.Pushes (.pass g) r r' (p ++ [.pass g]) := by
  cases g with
  | limit =>
    refine .of_all hw (List.all_eq_true.2 fun b hb => ?_) hs
    rcases List.mem_append.1 hb with hb | hb
    · exact hp b hb
    · rw [List.mem_singleton.1 hb]
      rfl
  | room o =>
    refine .decides (o := o) hw (fun b hb => ?_) (by simp [Act.Among, Act.passes, Act.decides]) hs
    rcases List.mem_append.1 hb with hb | hb
    · have hm := hp b hb
      refine ⟨Act.calm_of_mild hm, Act.tide_of_mild hm, fun m e => (by subst e; cases hm), fun q hq => ?_⟩
      have hpass := Act.passes_of_mild q hm
      rw [Act.passes, hq] at hpass
      cases hpass
    · rw [List.mem_singleton.1 hb]
      exact ⟨rfl, rfl, nofun, fun q h => (by simpa [Act.decides] using h : o = q).symm⟩

theorem pass_pushes (g : Goal) : ∃ p, Run.Pushes (.pass g) r (r.pass g) p := by
  unfold Run.pass
  split
  · exact passEnd_pushes r _ g
  · split
    · exact passEnd_pushes r _ g
    · next c hc =>
      obtain ⟨hon, hclass⟩ := Run.Turns.candidate_on hc
      split
      · next h25 =>
        rcases h25 with rfl | rfl
        · have hcalm : ∀ b ∈ [Act.ask 2 .revoked, .cut 2 .revoked, .pass g], b.Among Act.calm := by simp [Act.Among, Act.calm]
          refine ⟨[.ask 2 .revoked, .cut 2 .revoked, .pass g], ⟨rfl, fun _ _ => hcalm, fun o ho => .inl ?_, fun _ _ ht =>
            ⟨ht.seq, .inr ⟨g, rfl, rfl, rfl, hon, hclass⟩⟩, fun _ => .inl rfl⟩⟩
          have ho : (Act.pass g).passes o = true := ho
          simpa [Act.Among, Act.passes, Act.decides] using ho
        · exact ⟨_, pass_pushes_of r (p := [.ask 5 .revoked, .cut 5 .revoked]) (by simp [Act.mild, Act.calm, Act.tide]) rfl rfl⟩
      · exact ⟨_, pass_pushes_of r (p := []) nofun rfl rfl⟩

theorem rejudge_pushes (o : Fin 16) (c : Class) : ∃ p, Run.Pushes (.rejudge o c) r (r.rejudge o c) p := by
  have hask : Run.Pushes (.rejudge o c) r (r.push [.ask o .shed, .cut o .shed]) [.ask o .shed, .cut o .shed] :=
    ⟨rfl, fun _ h => (by cases h), fun q _ => .inl (by simp [Act.Among, Act.passes, Act.decides]), fun _ h => (by cases h), fun _ => .inl rfl⟩
  unfold Run.rejudge
  split
  · exact ⟨[], .none rfl⟩
  · split
    · split
      · split
        · exact ⟨_, hask⟩
        · exact ⟨[], .none rfl⟩
      · split
        · exact ⟨[], .none rfl⟩
        · exact ⟨[.pass .limit, .restore r.room], .of_all rfl rfl⟩
    · next hw =>
      split
      · exact ⟨[], .none rfl⟩
      · split
        · exact ⟨_, .decision rfl (.inr rfl) (by rw [hw]; decide) (by rw [hw]; decide) rfl⟩
        · exact ⟨[], .none rfl⟩
    · next hs =>
      split
      · exact ⟨[], .none rfl⟩
      · split
        · exact ⟨_, .decision rfl (.inl rfl) (by rw [hs]; decide) (by rw [hs]; decide) rfl⟩
        · exact ⟨[.arbiter], .of_all rfl rfl⟩
    · exact ⟨[], .none rfl⟩

theorem consider_pushes (o : Fin 16) : ∃ p, Run.Pushes (.consider o) r (r.consider o) p := by
  unfold Run.consider
  split
  · next hw =>
    split
    · exact ⟨[], .none rfl⟩
    · split
      · exact ⟨[], .none rfl⟩
      · split
        · exact ⟨_, .decision rfl (.inr rfl) (by rw [hw]; decide) (by rw [hw]; decide) rfl⟩
        · exact ⟨[], .none rfl⟩
  · exact ⟨[], .none rfl⟩

theorem clearTrip_pushes (o : Fin 16) : ∃ p, Run.Pushes (.clearTrip o) r (r.clearTrip o) p := by
  unfold Run.clearTrip
  split
  · exact ⟨[], .none rfl⟩
  · refine ⟨[.judge o], .decides (o := o) rfl ?_ ?_⟩
    · simp [Act.calm, Act.tide, Act.decides]
    · simp [Act.Among, Act.passes, Act.decides]

theorem fall_pushes (o : Fin 16) (k : Nat) : ∃ p, Run.Pushes (.fall o k) r (r.fall o k) p := by
  unfold Run.fall
  simp only
  split
  · next h =>
    obtain ⟨-, h⟩ := h
    exact ⟨_, .decision rfl (.inl rfl) (by rw [h]; decide) (by rw [h]; decide)
      (by rw [Run.push_st, Run.onState_st, outlet_setOutlet, if_pos rfl])⟩
  · exact ⟨[], .none rfl⟩

theorem darkAll_work (x : OutletState) (l : List (Fin 16)) :
    (r.darkAll x l).work = r.work ∧ (r.darkAll x l).st.climate = r.st.climate := by
  obtain ⟨⟨O, hO⟩, hw, -⟩ := Run.darkAll_frame x l r
  exact ⟨hw, by rw [hO]⟩

theorem cutRest_pushes : Run.Pushes .cutRest r r.cutRest [] :=
  have h := darkAll_work r .shed (outletsAll.filter (Run.toShed r.st))
  .none h.1 h.2

theorem among_action {P : Act → Bool} {l : List Act} (h : ∀ b ∈ l, P b = true) (hn : ∀ m, Act.action m ∉ l) :
    (Act.action l).Among P := fun b hb => ⟨fun m e => hn m (e ▸ hb), h b hb⟩

/-- A rise of the shed level puts one action on the stack: the release requests, then all the remaining cuts (R74). -/
theorem shedLevel_rise {n : Nat} (h : r.st.outlets.shedLevel < n) : ∃ l t, r.shedLevel n = { r with
    st := t, work := .action (l ++ [.cutRest]) :: r.work } ∧ t.climate = r.st.climate ∧ (∀ o, (outlet t o).state = (outlet r.st o).state) ∧
    ∀ b ∈ l, (∀ m, b ≠ .action m) ∧ b.calm = true ∧ ∀ o, b.passes o = true := by
  refine ⟨Run.askShed { r.st with outlets := { r.st.outlets with shedLevel := n } } 2 ++
    Run.askShed { r.st with outlets := { r.st.outlets with shedLevel := n } } 5,
    { r.st with outlets := { r.st.outlets with shedLevel := n } }, ?_, rfl, fun _ => rfl, fun b hb => ?_⟩
  · unfold Run.shedLevel
    simp only [if_pos h]
    rfl
  · have hask : ∀ o, b ∈ Run.askShed { r.st with outlets := { r.st.outlets with shedLevel := n } } o →
        b = .ask o .shed ∨ b = .cut o .shed := fun o hb => by
      unfold Run.askShed at hb
      split at hb
      · simpa using hb
      · cases hb
    rcases List.mem_append.1 hb with hb | hb <;> rcases hask _ hb with rfl | rfl <;> exact ⟨nofun, rfl, fun _ => rfl⟩

theorem shedLevel_pushes (n : Nat) : ∃ p, Run.Pushes (.shedLevel n) r (r.shedLevel n) p := by
  by_cases h : r.st.outlets.shedLevel < n
  · obtain ⟨l, t, e, hclimate, -, hl⟩ := shedLevel_rise r h
    have hre : (Act.shedLevel n).reclasses r.st ≠ false := by simp [Act.reclasses, h]
    refine ⟨[.action (l ++ [.cutRest])], ⟨by rw [e]; rfl, fun h => absurd h hre, fun o _ => .inl fun b hb => ?_,
      fun h => absurd h hre, fun _ => .inl (by rw [e]; exact warmth_of_climate hclimate)⟩⟩
    rw [List.mem_singleton.1 hb]
    intro c hc
    rcases List.mem_append.1 hc with hc | hc
    · exact ⟨(hl c hc).1, (hl c hc).2.2 o⟩
    · rw [List.mem_singleton.1 hc]
      exact ⟨nofun, rfl⟩
  · unfold Run.shedLevel
    simp only [if_neg h]
    split
    · obtain ⟨hw, hs⟩ := darkAll_work (r.onState fun s => { s with outlets := { s.outlets with shedLevel := n } }) .waiting
        (outletsAll.filter fun o => (outlet { r.st with outlets := { r.st.outlets with shedLevel := n } } o).state == .shed &&
          !isShed { r.st with outlets := { r.st.outlets with shedLevel := n } } o)
      exact ⟨[.action [.arbiter]], .of_among (congrArg (Act.action [.arbiter] :: ·) hw)
        (by simp [Act.Among, Act.mild, Act.calm, Act.tide]) hs⟩
    · exact ⟨[], .none rfl⟩

theorem limit_pushes (n : Nat) : ∃ p, Run.Pushes (.limit n) r (r.limit n) p := by
  unfold Run.limit
  simp only
  split
  · exact ⟨[.action [.arbiter]], .of_among rfl (by simp [Act.Among, Act.mild, Act.calm, Act.tide])⟩
  · split
    · exact ⟨[.action _], .of_among rfl (by simp [Act.Among, Act.mild, Act.calm, Act.tide, Run.passLimit])⟩
    · exact ⟨[], .none rfl⟩

theorem arbiter_pushes : Run.Pushes .arbiter r r.arbiter ((Run.waitingOrder r.st).map Act.consider) :=
  .of_all rfl (by simp [Act.mild, Act.calm, Act.tide])

theorem rises_work (l : List (Fin 16 × Nat)) :
    ∀ r : Run, (r.rises l).work = r.work ∧ (r.rises l).st.climate = r.st.climate := by
  induction l with
  | nil => exact fun r => ⟨rfl, rfl⟩
  | cons x l ih =>
    intro r
    obtain ⟨hw, hs⟩ := ih (if (outlet r.st x.1).inhibit = 0 ∧ ((outlet r.st x.1).state = .on ∨ (outlet r.st x.1).state = .waiting ∨
        (outlet r.st x.1).state = .shed)
      then (r.onState (setOutlet x.1 { outlet r.st x.1 with inhibit := (outlet r.st x.1).inhibit + x.2 })).dark x.1 .inhibited
      else r.onState (setOutlet x.1 { outlet r.st x.1 with inhibit := (outlet r.st x.1).inhibit + x.2 }))
    rw [Run.rises_cons, hw, hs]
    split <;> exact ⟨rfl, rfl⟩

/-! ### Requests -/

theorem takeDemand_pushes (o : Fin 16) (d : Demand) : ∃ p, Run.Pushes (.take (.demand o d)) r (r.takeDemand o d) p := by
  have hre : ∀ {P : Prop}, (Act.take (.demand o d)).reclasses r.st = false → P := fun h => by cases h
  unfold Run.takeDemand
  simp only
  split
  · next h =>
    refine ⟨_, .decision rfl (.inl rfl) (by rw [h]; decide) (by rw [h]; decide) ?_⟩
    obtain ⟨-, hn, -⟩ := outlet_grid (Run.Turns.newRequest_grid o (setDemand o (some d) r.st)) o
    rw [Run.push_st, Run.onState_st, hn, setDemand, outlet_setOutlet, if_pos rfl]
  · exact ⟨[], .none rfl⟩
  · next d0 _ _ _ =>
    exact ⟨[.rejudge o _, .take _], ⟨rfl, hre, fun q _ => .inl (by simp [Act.Among, Act.passes, Act.decides]), hre, fun _ => .inl rfl⟩⟩
  · exact ⟨[], .none rfl⟩

theorem takeCharge_pushes (o : Fin 16) (k : Nat) (a : Act) : ∃ p, Run.Pushes a r (r.takeCharge o k) p := by
  unfold Run.takeCharge
  simp only
  split
  · exact ⟨[], .none rfl⟩
  · split
    · exact ⟨[], .none rfl⟩
    · split
      · split
        · exact ⟨[], .none rfl⟩
        · exact ⟨[.take _, .arbiterIf, .take _], .of_all rfl rfl⟩
      · exact ⟨[], .none rfl⟩

theorem takeWithdraw_pushes (o : Fin 16) (a : Act) : Run.Pushes a r (r.takeWithdraw o) [] := by
  unfold Run.takeWithdraw
  split <;> exact .none rfl

theorem takeHeater_pushes (q : SeqState) :
    Run.Pushes (.take (.heater q)) r (r.takeHeater q) [.rejudge 2 (effClass r.st 2)] :=
  ⟨rfl, fun h => (by cases h), fun o _ => .inl (by simp [Act.Among, Act.passes, Act.decides]), fun h => (by cases h), fun _ => .inl rfl⟩

theorem take_pushes (q : Req) : ∃ p, Run.Pushes (.take q) r (r.take q) p := by
  unfold Run.take
  split
  · exact ⟨[.take q, .flush, .actEnd, .restore r.room], .of_all rfl rfl⟩
  · cases q with
    | demand o d => exact takeDemand_pushes r o d
    | withdraw o => exact ⟨_, takeWithdraw_pushes r o _⟩
    | charge o k => exact takeCharge_pushes r o k _
    | heater q => exact ⟨_, takeHeater_pushes r q⟩

theorem action_pushes (l : List Act) : Run.Pushes (.action l) r (r.action l) (l ++ [.flush, .actEnd, .restore r.room]) := by
  have hl : ∀ {P : Act → Bool}, (Act.action l).Among P → P .flush = true → P .actEnd = true → P (.restore r.room) = true →
      ∀ b ∈ l ++ [.flush, .actEnd, .restore r.room], b.Among P := fun ha h1 h2 h3 b hb => by
    rcases List.mem_append.1 hb with hb | hb
    · exact Act.among_of (ha b hb).1 (ha b hb).2
    · simp only [List.mem_cons, List.not_mem_nil, or_false] at hb
      rcases hb with rfl | rfl | rfl
      · exact h1
      · exact h2
      · exact h3
  exact ⟨rfl, fun _ ha => hl ha rfl rfl rfl, fun o ha => .inl (hl ha rfl rfl rfl), fun _ ha ht => ⟨ht.seq, .inl (hl ha rfl rfl rfl)⟩,
    fun _ => .inl rfl⟩

theorem flush_pushes : ∃ p, Run.Pushes .flush r r.flush p := by
  unfold Run.flush
  split
  · next c l e =>
    refine ⟨[.report c.1 c.2.1 c.2.2, .flush], ⟨rfl, fun _ _ => by simp [Act.Among, Act.calm],
      fun o _ => .inl (by simp [Act.Among, Act.passes, Act.decides]), fun _ _ ht => ⟨ht.seq, .inl ?_⟩, fun _ => .inl rfl⟩⟩
    have hc := ht.changed c (by simp [e])
    have hreport : (Act.report c.1 c.2.1 c.2.2).Among Act.tide := show Act.tide _ = true by
      by_cases h2 : c.1 = 2
      · simp [Act.tide, hc h2]
      · simp [Act.tide, h2]
    simp only [List.mem_cons, List.not_mem_nil, or_false]
    rintro b (rfl | rfl)
    · exact hreport
    · rfl
  · split
    · exact ⟨[.flushEnd, .flush], .of_all rfl rfl⟩
    · split
      · exact ⟨[.arbiter, .flush], .of_all rfl rfl⟩
      · exact ⟨[], .none rfl⟩

theorem drainIfDone_pushes (r : Run) : ∃ p, r.drainIfDone.work = p ++ r.work ∧ (p.all Act.mild = true) ∧
    r.drainIfDone.st.climate = r.st.climate := by
  unfold Run.drainIfDone
  split
  · exact ⟨[.drain], rfl, rfl, rfl⟩
  · exact ⟨[], rfl, rfl, rfl⟩

/-! ### The interlock engine -/

theorem among_handOut (l : List Change) : ∀ b ∈ handOut l, b.Among Act.mild := by
  have hrise : (Act.action [.rises (netRises l)]).Among Act.mild := by simp [Act.Among, Act.mild, Act.calm, Act.tide]
  have hr : ∀ m, ∀ b ∈ blockRiseActs l m, b.Among Act.mild := fun m b hb => by
    unfold blockRiseActs at hb
    simp only at hb
    split at hb
    · rw [List.mem_singleton.1 hb]; rfl
    · cases hb
  have hf : ∀ m, ∀ b ∈ blockFallActs l m, b.Among Act.mild := fun m b hb => by
    unfold blockFallActs at hb
    simp only at hb
    split at hb
    · rw [List.mem_singleton.1 hb]; rfl
    · cases hb
  have hfalls : ∀ b ∈ netFalls l, b.Among Act.mild := fun b hb => by
    obtain ⟨o, -, e⟩ := List.mem_filterMap.1 hb
    simp only at e
    split at e
    · cases e
      simp [Act.Among, Act.mild, Act.calm, Act.tide]
    · cases e
  intro b hb
  simp only [handOut, List.mem_append, or_assoc] at hb
  rcases hb with hb | hb | hb | hb | hb | hb | hb
  · split at hb
    · cases hb
    · rw [List.mem_singleton.1 hb]; exact hrise
  · exact hr _ b hb
  · exact hr _ b hb
  · exact hfalls b hb
  · exact hf _ b hb
  · exact hf _ b hb
  · simp only [List.mem_cons, List.not_mem_nil, or_false] at hb
    rcases hb with rfl | rfl <;> rfl

theorem signal_pushes (g : Signal) (v : Nat) : ∃ p, Run.Pushes (.signal g v) r (r.signal g v) p := by
  unfold Run.signal
  split
  · exact ⟨[], .none rfl⟩
  · split
    · exact ⟨_, .of_among rfl (among_handOut _)⟩
    · exact ⟨[], .none rfl⟩

theorem blockRise_pushes (m : Mover) (k : Nat) :
    ∃ p, Run.Pushes (.blockRise m k) r (r.react (blockRise m k)) p := by
  refine ⟨_, .of_all (p := (blockRise m k r.st).2) rfl ?_ ?_⟩
  · unfold blockRise
    simp only
    split <;> rfl
  · cases m <;> rfl

theorem finish_climate (n : Fin 32) (f : Finish) (s : State) : (finish n f s).climate = s.climate :=
  (congrArg State.climate (finish_sansOrders n f s) :)

theorem afterReports_climate (s : State) : (afterReports s).climate = s.climate := by
  obtain ⟨_, _, h⟩ := afterReports_shows s
  rw [h]

theorem evalNotices_climate (l : List Nat) (c : Bool) (s : State) : (evalNotices l c s).climate = s.climate := by
  unfold evalNotices; simp only; (repeat' split) <;> rfl

theorem moveFree_climate (m : Mover) (s : State) : (moveFree m s).climate = s.climate := by unfold moveFree; split <;> rfl

theorem blockFall_climate (m : Mover) (k : Nat) (s : State) : (blockFall m k s).climate = s.climate := by cases m <;> rfl

end Sys2Proof.Machine
end

section
/-!
SUPPORT. What every act of a cascade puts on the stack.
-/
namespace Sys2Proof.Machine

/-- What every act of a cascade puts on the stack. -/
theorem perform_pushes (a : Act) (r : Run) : ∃ p, Run.Pushes a r (perform a r) p := by
  have other : ∀ {f : State → React}, Civil r.st (f r.st) → ¬ a.Among Act.tide → ∃ p, Run.Pushes a r (r.react f) p :=
    fun h ha => ⟨_, .react h fun e => absurd e ha⟩
  cases a
  case req q =>
    simp only [perform, Run.req]
    split
    · exact ⟨[.take q], .of_all rfl rfl⟩
    · exact ⟨[], .none rfl⟩
  case take q => exact take_pushes r q
  case drain =>
    simp only [perform, Run.drain]
    split
    · exact ⟨[], .none rfl⟩
    · exact ⟨[.take _, .drain], .of_all rfl rfl⟩
  case action l => exact ⟨_, action_pushes r l⟩
  case arbiterIf =>
    simp only [perform, Run.arbiterIf]
    split
    · exact ⟨[.arbiter], .of_all rfl rfl⟩
    · exact ⟨[], .none rfl⟩
  case restore b => exact ⟨[], .none rfl⟩
  case flush => exact flush_pushes r
  case flushEnd => exact ⟨[], .none rfl (afterReports_climate r.st)⟩
  case actEnd =>
    obtain ⟨p, hw, hp, hs⟩ := drainIfDone_pushes ({ r with acting := r.acting - 1 }.onState (syncPart .outlets))
    exact ⟨p, .of_all hw hp hs⟩
  case judge o => exact judge_pushes r o
  case preempt o => exact ⟨_, preempt_pushes r o⟩
  case pass g => exact pass_pushes r g
  case ask o c =>
    simp only [perform]
    split
    · by_cases h2 : o = 2
      · subst h2
        have hst : r.react (ownerAsk 2) = r.react supplyAsk := rfl
        rw [hst]
        unfold Run.react supplyAsk
        split
        · next e =>
          refine ⟨[.enter .stopping 0, .stopping false], ⟨rfl, fun _ _ => by simp [Act.Among, Act.calm],
            fun o _ => .inl (by simp [Act.Among, Act.passes, Act.decides]), fun _ _ ht => ?_, fun _ => .inl rfl⟩⟩
          have hseq := ht.seq
          rw [e] at hseq
          cases hseq
        · split <;> exact ⟨[], .none rfl⟩
      · have hown : ownerAsk o r.st = (if o = 5 then bridgeAsk r.st else (r.st, [])) := by simp [ownerAsk, h2]
        have hcivil : Civil r.st (ownerAsk o r.st) := by
          rw [hown]
          split
          · exact bridgeAsk_civil r.st
          · exact civil_nil r.st
        refine ⟨_, .react_mute hcivil ?_⟩
        rw [hown]
        split
        · exact bridgeAsk_mute r.st
        · exact mute_nil r.st
    · exact ⟨[], .none rfl⟩
  case cut o c =>
    simp only [perform, Run.cut]
    split
    · split <;> exact ⟨[], .none rfl⟩
    · exact ⟨[], .none rfl⟩
  case cutRest => exact ⟨_, cutRest_pushes r⟩
  case rejudge o c => exact rejudge_pushes r o c
  case arbiter => exact ⟨_, arbiter_pushes r⟩
  case consider o => exact consider_pushes r o
  case clearTrip o => exact clearTrip_pushes r o
  case trip o => exact ⟨[], .none rfl⟩
  case tripDone n o => exact ⟨[], .none rfl (finish_climate _ _ r.st)⟩
  case rises l =>
    obtain ⟨hw, hs⟩ := rises_work l r
    exact ⟨[], .none hw hs⟩
  case fall o k => exact fall_pushes r o k
  case shedLevel n => exact shedLevel_pushes r n
  case limit n => exact limit_pushes r n
  case overLimit b =>
    simp only [perform, Run.overLimit]
    split <;> exact ⟨[], .none rfl⟩
  case report o x y => exact ⟨_, .react (ownerReport_civil r.st o x y) fun h => ownerReport_staying r.st h⟩
  case signal g v => exact signal_pushes r g v
  case blockRise m k => exact blockRise_pushes r m k
  case blockFall m k => exact ⟨[], .none rfl (blockFall_climate m k r.st)⟩
  case notices l c => exact ⟨[], .none rfl (evalNotices_climate l c r.st)⟩
  case evalEnd =>
    obtain ⟨p, hw, hp, hs⟩ := drainIfDone_pushes { r with evals := r.evals - 1 }
    exact ⟨p, .of_all hw hp hs⟩
  case resume k => exact ⟨[], .none rfl⟩
  case raise g c => exact ⟨[], .none rfl⟩
  case finish n f => exact ⟨[], .none rfl (finish_climate n f r.st)⟩
  case shown m l => exact ⟨[], .none rfl⟩
  case solar => exact ⟨_, .react_mute (showing_civil _ (solarEval_civil r.st)) (showing_mute _ (solarEval_mute r.st))⟩
  case floatResult x => exact ⟨_, .react_mute (showing_civil _ (floatDone_civil r.st x)) (showing_mute _ (floatDone_mute r.st x))⟩
  case shedEval => exact ⟨_, .react_mute (shedEval_civil r.st) (shedEval_mute r.st)⟩
  case limitEval => exact ⟨_, .react_mute (limitEval_civil r.st) (limitEval_mute r.st)⟩
  case post e => exact ⟨_, .react (postHeater_civil r.st e) fun _ => postHeater_staying r.st e⟩
  case postFloat => exact ⟨_, .react (postFloat_civil r.st) fun _ => postFloat_staying r.st⟩
  case result c x b => exact ⟨_, .react (heaterResult_civil r.st c x b) fun _ => heaterResult_staying r.st c x b⟩
  case freshPump => exact ⟨_, .react_mute (freshPump_civil r.st) (freshPump_mute r.st)⟩
  case freshFill => exact ⟨_, .react_mute (freshFill_civil r.st) (freshFill_mute r.st)⟩
  case pumpStart => exact ⟨_, .react_mute (pumpStart_civil r.st) (pumpStart_mute r.st)⟩
  case pumpDry c => exact ⟨_, .react_mute (showing_civil _ (pumpDry_civil r.st c)) (showing_mute _ (pumpDry_mute r.st c))⟩
  case fillEnd e => exact ⟨_, .react_mute (fillEnd_civil r.st e) (fillEnd_mute r.st e)⟩
  case fillFinish e => exact ⟨_, .react_mute (showing_civil _ (fillFinish_civil r.st e)) (showing_mute _ (fillFinish_mute r.st e))⟩
  case frostTemp b => exact ⟨_, .react_mute (showing_civil _ (frostEval_civil r.st b)) (showing_mute _ (frostEval_mute r.st b))⟩
  case stage t b => exact ⟨_, .react_mute (stageChange_civil r.st t b) (stageChange_mute r.st t b)⟩
  case stageFill t => exact ⟨_, .react_mute (stageFill_civil r.st t) (stageFill_mute r.st t)⟩
  case stageLeave x y => exact ⟨_, .react_mute (stageLeave_civil r.st x y) (stageLeave_mute r.st x y)⟩
  case stageBegin x y => exact ⟨_, .react_mute (stageBegin_civil r.st x y) (stageBegin_mute r.st x y)⟩
  case drainLatch => exact ⟨_, .react_mute (drainLatch_civil r.st) (drainLatch_mute r.st)⟩
  case delivered b => exact ⟨[], .none rfl⟩
  case zoneFollow z => exact ⟨_, .react_mute (zoneFollow_civil r.st z) (zoneFollow_mute r.st z)⟩
  case heatDemand =>
    have hall : ∀ b ∈ (heatDemand r.st).2, b.mild = true := List.all_eq_true.1
      (by simp [heatDemand, Act.mild, Act.calm, Act.tide, apply_ite (List.all · Act.mild)])
    exact ⟨(heatDemand r.st).2, rfl, fun _ _ b hb => (Act.among_mild (hall b hb)).imp fun _ => Act.calm_of_mild,
      fun o _ => .inl fun b hb => (Act.among_mild (hall b hb)).imp fun _ => Act.passes_of_mild o,
      fun _ _ ht => ⟨ht.seq, .inl fun b hb => (Act.among_mild (hall b hb)).imp fun _ => Act.tide_of_mild⟩, fun h => absurd rfl h⟩
  case frostDemand b => exact ⟨_, .react_mute (frostDemand_civil r.st b) (frostDemand_mute r.st b)⟩
  case seqFrost b => exact ⟨_, .react (seqFrost_civil r.st b) fun _ => seqFrost_staying r.st b⟩
  case seqShed => exact ⟨_, .react_mute (seqShed_civil r.st) seqShed_mute⟩
  case seqDemand => exact ⟨_, .react (seqDemand_civil r.st) fun _ => seqDemand_staying r.st⟩
  case seqLevel => exact ⟨_, .react (seqLevel_civil r.st) fun _ => seqLevel_staying r.st⟩
  case heaterTest => exact ⟨_, .react (heaterTest_civil r.st) fun _ => heaterTest_staying r.st⟩
  case enter x c => exact other (enter_civil r.st x c) (by simp [Act.Among, Act.tide])
  case seqReport =>
    simp only [perform, Run.seqReport]
    split
    · exact ⟨[], .none rfl⟩
    · exact ⟨[.take _], .of_all rfl rfl⟩
  case seqFlags => exact ⟨[], .none rfl rfl⟩
  case igniting => exact ⟨_, .react (igniting_civil r.st) fun _ => igniting_staying r.st⟩
  case running => exact ⟨_, .react (running_civil r.st) fun _ => running_staying r.st⟩
  case stopping b => exact ⟨_, .react_mute (stopping_civil r.st b) (stopping_mute rfl b)⟩
  case startFail c => exact ⟨_, .react (startFail_civil r.st c) fun _ => startFail_staying r.st c⟩
  case runJudge => exact ⟨_, .react (runJudge_civil r.st) fun _ => runJudge_staying r.st⟩
  case runShed => exact ⟨_, .react (runShed_civil r.st) fun _ => runShed_staying r.st⟩
  case cooldownEnd => exact other (cooldownEnd_civil r.st) (by simp [Act.Among, Act.tide])
  case unitReading u b => exact other (closing_civil _ (unitReading_civil r.st u b)) (by simp [Act.Among, Act.tide])
  case unitLost => exact other (unitLost_civil r.st) (by simp [Act.Among, Act.tide])
  case offFaulty => exact other (offFaulty_civil r.st) (by simp [Act.Among, Act.tide])
  case blockBegins m =>
    have h := blockBegins_civil r.st m
    have hm : Mute (.state .stopping) r.st (blockBegins m r.st) := blockBegins_mute r.st m
    refine ⟨(blockBegins m r.st).2 ++ [.resume r.acting], ?_, fun _ _ b hb => ?_, fun o _ => .inl fun b hb => ?_, fun _ _ ht => ?_,
      fun _ => h.heat.imp_right (List.mem_append_left _)⟩
    · simp [perform, Run.react, Run.apart, Run.push]
    · rcases List.mem_append.1 hb with hb | hb
      · exact Act.calm_outward (outward_iff.1 h.acts b hb)
      · rw [List.mem_singleton.1 hb]; rfl
    · rcases List.mem_append.1 hb with hb | hb
      · exact Act.passes_outward (outward_iff.1 h.acts b hb) o
      · rw [List.mem_singleton.1 hb]; rfl
    · obtain ⟨hseq, hl⟩ := hm.staying ht.seq
      refine ⟨hseq, .inl fun b hb => ?_⟩
      rcases List.mem_append.1 hb with hb | hb
      · have ho := outward_iff.1 h.acts b hb
        exact Act.among_outward ho (Act.tide_of_spares ho (sparing_iff.1 hl b hb))
      · rw [List.mem_singleton.1 hb]; rfl
  case stowSignal m => exact ⟨_, .react_mute (stowSignal_civil r.st m) (stowSignal_mute r.st m)⟩
  case claim m => exact ⟨_, .react_mute (claim_civil r.st m) (claim_mute r.st m)⟩
  case moveEnd m f x => exact ⟨_, .react_mute (moveEnd_civil r.st m f x) (moveEnd_mute r.st m f x)⟩
  case moveFree m => exact ⟨[], .none rfl (moveFree_climate m r.st)⟩
  case moveResult m f x => exact ⟨_, .react_mute (moveResult_civil r.st m f x) (moveResult_mute r.st m f x)⟩
  case serveRelease => exact ⟨_, .react_mute (serveRelease_civil r.st) (serveRelease_mute r.st)⟩
  case retract m => exact ⟨_, .react_mute (requestRetract_civil r.st m) (requestRetract_mute r.st m)⟩
  case extension => exact ⟨_, .react_mute (extension_civil r.st) (extension_mute r.st)⟩
  case doorScene => exact ⟨_, .react_mute (doorScene_civil r.st) (doorScene_mute r.st)⟩
  case recallOn l n b cs lost => exact ⟨_, .react_mute (recallStep_civil r.st l n b cs lost) (recallStep_mute r.st l n b cs lost)⟩
  case applied n k b => exact ⟨_, .react_mute (applied_civil r.st n k b) (applied_mute r.st n k b)⟩
  case supersede x y c => exact ⟨_, .react_mute (supersede_civil r.st x y c) (supersede_mute r.st x y c)⟩
  case recallTest n => exact ⟨_, .react_mute (recallTest_civil r.st n) (recallTest_mute r.st n)⟩
  case ramp c => exact ⟨_, .react_mute (ramp_civil r.st c) (ramp_mute r.st c)⟩

end Sys2Proof.Machine
end

section
/-!
SUPPORT. A trip of the HEATER SUPPLY that is still to be reported stands until it is (`Run.TripsStand`): where a request of the supply is
being decided, no trip of it is left to report.
-/
namespace Sys2Proof.Machine

/-- An act that may stand between a decision on the HEATER SUPPLY and its next step: the release of the BRIDGE. -/
def Act.beside : Act → Bool
  | .ask o _ | .cut o _ => o == 5
  | .shown _ _ => true
  | _ => false

/-- No trip of the HEATER SUPPLY is left to report. -/
def Run.Untold (r : Run) : Prop := ∀ c ∈ r.changed, c.1 = 2 → c.2.2 ≠ .tripped

/-- A request of the HEATER SUPPLY, which is not in ON, is being decided, and no trip of it is left to report. -/
def Run.Deciding (r : Run) : Prop := ∃ pre d rest, r.work = pre ++ d :: rest ∧ (∀ a ∈ pre, a.beside = true) ∧ d.decides 2 = true ∧
  (∀ a ∈ rest, a.Among (Act.passes 2)) ∧ (outlet r.st 2).state ≠ .on ∧ r.Untold

/-- A trip of the HEATER SUPPLY that is left to report stands, and no act on the stack decides a request of the supply but the one that is
being decided. -/
structure Run.TripsStand (r : Run) : Prop where
  told : ∀ c ∈ r.changed, c.1 = 2 → c.2.2 = .tripped → (outlet r.st 2).state = .tripped
  work : (∀ a ∈ r.work, a.Among (Act.passes 2)) ∨ r.Deciding

variable {r r' : Run} {a : Act} {l p : List Act}

theorem Run.TripsStand.untold (h : r.TripsStand) (ht : (outlet r.st 2).state ≠ .tripped) : r.Untold :=
  fun c hc h2 e => ht (h.told c hc h2 e)

/-- Where a request is decided, what an act has changed of the supply it has tripped it to. -/
theorem Run.Untold.told (h : r.Untold) (ht : Run.Turns a r r') :
    ∀ c ∈ r'.changed, c.1 = 2 → c.2.2 = .tripped → (outlet r'.st 2).state = .tripped := fun c hc h2 e => by
  rcases ht.changed c hc with hc | hc
  · exact absurd e (h c hc h2)
  · rw [← h2]
    exact hc e

theorem Act.passes_of_among {o : Fin 16} (h : a.Among (Act.passes o)) : a.passes o = true := by
  cases a
  case action l => rfl
  all_goals exact h

/-- An act that decides nothing on the supply keeps its trips. -/
theorem Run.TripsStand.perform_passes (h : r.TripsStand) (hw : ∀ b ∈ r.work, b.Among (Act.passes 2)) (ha : a.Among (Act.passes 2)) :
    (perform a r).TripsStand := by
  obtain ⟨p, hp⟩ := perform_pushes a r
  have ht := perform_turns a r
  refine ⟨fun c hc h2 e => ?_, ?_⟩
  · rcases ht.changed c hc with hc | hc
    · exact ht.tripped 2 (h.told c hc h2 e) (Act.passes_of_among ha)
    · rw [← h2]
      exact hc e
  · rw [Run.Deciding, hp.work]
    rcases hp.passes 2 ha with hl | ⟨hon, htr, hs, hd⟩
    · exact .inl fun b hb => (List.mem_append.1 hb).elim (hl b) (hw b)
    · have hnone : (perform a r).Untold := fun c hc h2 e => by
        rcases ht.changed c hc with hc | hc
        · exact h.untold htr c hc h2 e
        · have hstate := hc e
          rw [h2, hs] at hstate
          exact htr hstate
      have hon' : (outlet (perform a r).st 2).state ≠ .on := hs ▸ hon
      rcases hd with rfl | rfl
      · exact .inr ⟨[], .judge 2, r.work, rfl, nofun, rfl, hw, hon', hnone⟩
      · exact .inr ⟨[], .preempt 2, r.work, rfl, nofun, rfl, hw, hon', hnone⟩

/-- The release of the BRIDGE leaves the supply, and releases no more than the BRIDGE. -/
theorem perform_beside (ha : a.beside = true) (r : Run) : ∃ p, (perform a r).work = p ++ r.work ∧ (∀ b ∈ p, b.beside = true) ∧
    (outlet (perform a r).st 2).state = (outlet r.st 2).state ∧ (r.Untold → (perform a r).Untold) := by
  cases a
  case ask o c =>
    obtain rfl : o = 5 := by simpa [Act.beside] using ha
    simp only [perform]
    split
    · refine ⟨(bridgeAsk r.st).2, rfl, fun b hb => ?_, (outlet_grid (bridgeAsk_civil r.st).grid 2).2.1, id⟩
      unfold bridgeAsk at hb
      split at hb
      · rw [List.mem_singleton.1 hb]; rfl
      · cases hb
    · exact ⟨[], rfl, nofun, rfl, id⟩
  case cut o c =>
    obtain rfl : o = 5 := by simpa [Act.beside] using ha
    have hdark : ∀ x, (outlet (r.dark 5 x).st 2).state = (outlet r.st 2).state ∧ (r.Untold → (r.dark 5 x).Untold) := fun x =>
      ⟨by rw [Run.dark_outlet, if_neg (by decide)], fun h q hq h2 => (List.mem_append.1 hq).elim (fun hq => h q hq h2) fun e => by
        rw [List.mem_singleton.1 e] at h2
        exact absurd h2 (by simp)⟩
    simp only [perform, Run.cut]
    split
    · cases c
      · exact ⟨[], rfl, nofun, hdark .shed⟩
      · exact ⟨[], rfl, nofun, hdark .waiting⟩
    · exact ⟨[], rfl, nofun, rfl, id⟩
  case shown m l => exact ⟨[], rfl, nofun, rfl, id⟩
  all_goals cases ha

/-- A decision on the supply ends, or goes on. -/
theorem perform_decision (ha : a.decides 2 = true) (hw : ∀ b ∈ r.work, b.Among (Act.passes 2))
    (hon : (outlet r.st 2).state ≠ .on) (hu : r.Untold) :
    (∀ b ∈ (perform a r).work, b.Among (Act.passes 2)) ∨ (perform a r).Deciding := by
  cases a <;> try cases ha
  case judge o =>
    obtain rfl : o = 2 := by simpa [Act.decides] using ha
    simp only [perform, Run.judge]
    split
    · exact .inl hw
    · split
      · exact .inl hw
      · split
        · exact .inl hw
        · split
          · exact .inr ⟨[], .preempt 2, r.work, rfl, nofun, rfl, hw, hon, hu⟩
          · exact .inl hw
  case preempt o =>
    obtain rfl : o = 2 := by simpa [Act.decides] using ha
    exact .inr ⟨[], .pass (.room 2), r.work, rfl, nofun, rfl, hw, hon, hu⟩
  case pass g =>
    cases g
    case limit => cases ha
    case room o =>
      obtain rfl : o = 2 := by simpa [Act.decides] using ha
      have hend : ∀ b ∈ (r.passEnd (.room 2)).work, b.Among (Act.passes 2) := by
        unfold Run.passEnd
        simp only
        have hq : (if r.revoked then r.onState (raise .outlets (bit 13)) else r).work = r.work := by split <;> rfl
        generalize (if r.revoked then r.onState (raise .outlets (bit 13)) else r) = q at hq
        rw [← hq] at hw
        split
        · exact hw
        · split
          · exact hw
          · intro b hb
            rcases List.mem_cons.1 hb with rfl | hb
            · rfl
            · exact hw b hb
      simp only [perform, Run.pass]
      split
      · exact .inl hend
      · split
        · exact .inl hend
        · next c hc =>
          have hc2 : c ≠ 2 := fun e => hon (e ▸ (Run.Turns.candidate_on hc).1)
          split
          · next h25 =>
            obtain rfl := h25.resolve_left hc2
            exact .inr ⟨[.ask 5 .revoked, .cut 5 .revoked], .pass (.room 2), r.work, rfl, by simp [Act.beside], rfl, hw, hon, hu⟩
          · refine .inr ⟨[], .pass (.room 2), r.work, rfl, nofun, rfl, hw, ?_, fun q hq h2 => ?_⟩
            · rw [Run.push_st]
              have hsame : (outlet (r.dark c .waiting).st 2).state = (outlet r.st 2).state := by
                rw [Run.dark_outlet, if_neg hc2.symm]
              exact hsame ▸ hon
            · rcases List.mem_append.1 hq with hq | hq
              · exact hu q hq h2
              · rw [List.mem_singleton.1 hq]
                exact nofun
  case clearTrip o =>
    obtain rfl : o = 2 := by simpa [Act.decides] using ha
    simp only [perform, Run.clearTrip]
    split
    · exact .inl hw
    · refine .inr ⟨[], .judge 2, r.work, rfl, nofun, rfl, hw, ?_, hu⟩
      rw [Run.push_st, Run.onState_st, (outlet_grid (Run.Turns.newRequest_grid 2 r.st) 2).2.1]
      exact hon

/-- Every act of a cascade keeps the trips that are left to report. -/
theorem Run.TripsStand.perform (h : r.TripsStand) (hw : r.work = a :: l) : (perform a { r with work := l }).TripsStand := by
  have told : ∀ c ∈ ({ r with work := l } : Run).changed, c.1 = 2 → c.2.2 = .tripped →
      (outlet ({ r with work := l } : Run).st 2).state = .tripped := h.told
  rcases h.work with hall | ⟨pre, d, rest, e, hpre, hd, hrest, hon, hu⟩
  · rw [hw] at hall
    have hl : ∀ b ∈ l, b.Among (Act.passes 2) := fun b hb => hall b (List.mem_cons_of_mem _ hb)
    exact Run.TripsStand.perform_passes (r := { r with work := l }) ⟨told, .inl hl⟩ hl (hall a (by simp))
  · have ht := perform_turns a { r with work := l }
    have hu' : ({ r with work := l } : Run).Untold := hu
    refine ⟨hu'.told ht, ?_⟩
    rw [hw] at e
    cases pre with
    | nil =>
      obtain ⟨rfl, rfl⟩ := List.cons.inj e
      exact perform_decision hd hrest hon hu
    | cons b pre =>
      obtain ⟨rfl, rfl⟩ := List.cons.inj e
      obtain ⟨p, hp, hb, hs, hk⟩ := perform_beside (hpre a (by simp)) { r with work := pre ++ d :: rest }
      refine .inr ⟨p ++ pre, d, rest, hp.trans (List.append_assoc _ _ _).symm, fun b hmem => ?_, hd, hrest, hs ▸ hon, hk hu'⟩
      exact (List.mem_append.1 hmem).elim (hb b) fun hmem => hpre b (List.mem_cons_of_mem _ hmem)

theorem Run.TripsStand.firstActs (h : r.TripsStand) (k : Nat) : (firstActs k r).TripsStand := by
  induction k generalizing r with
  | zero => exact h
  | succ k ih =>
    cases hw : r.work with
    | nil => rwa [firstActs_of_done _ hw]
    | cons a l =>
      simp only [Machine.firstActs, hw]
      exact ih (h.perform hw)

/-- Where a request of the supply is being decided, the supply is not in ON: where it is, none is. -/
theorem Run.TripsStand.passes_of_on (h : r.TripsStand) (hon : (outlet r.st 2).state = .on) : r.Untold :=
  h.untold (by rw [hon]; decide)

end Sys2Proof.Machine
end

section
/-!
SUPPORT. Where no outlet in ON or WAITING is shed, a cascade ends so (R74). On its way one outlet at most is shed and still ON: while it
is re-judged and its owner is asked, while a STOPPING of the heater has the outlet controller learn of it, or while the cuts of a new
shed level are outstanding (`Run.Orderly`).
-/
namespace Sys2Proof.Machine

/-- No outlet in ON or WAITING is shed, but for `o`, and nothing on the stack re-judges one. -/
structure Run.Even (o : Option (Fin 16)) (r : Run) : Prop where
  others : ∀ q, some q ≠ o → ClearAt r.st q
  work : ∀ a ∈ r.work, a.Among Act.calm

/-- The HEATER SUPPLY is in ON and may be shed; its sequencer is in STOPPING, and the cut is on the stack below nothing that would end
that or cut the supply in another way. No other outlet in ON or WAITING is shed, but for `o`. -/
structure Run.Torn (o : Option (Fin 16)) (r : Run) : Prop where
  others : ∀ q, q ≠ 2 → some q ≠ o → ClearAt r.st q
  on : (outlet r.st 2).state = .on
  seq : (seq r.st).state = .stopping
  work : ∃ pre w, r.work = pre ++ .cut 2 .shed :: w ∧ (∀ a ∈ pre, a.Among Act.tide) ∧ ∀ a ∈ w, a.Among Act.calm

/-- The cuts of a risen shed level are on the stack, and below them nothing re-judges an outlet. -/
def Run.Risen (r : Run) : Prop := ∃ pre b w, r.work = pre ++ b :: w ∧ (b = .cutRest ∨ ∃ l, b = .action (l ++ [.cutRest])) ∧
  ∀ a ∈ w, a.Among Act.calm

/-- A cascade on its way. -/
def Run.Orderly (r : Run) : Prop := r.Even none ∨ r.Torn none ∨ r.Risen

variable {r r' : Run} {a : Act} {l p : List Act} {o : Option (Fin 16)}

theorem Act.calm_of_tide {a : Act} (h : a.tide = true) : a.calm = true := by cases a <;> first | rfl | cases h

theorem Run.Torn.calm (h : r.Torn o) : ∀ a ∈ r.work, a.Among Act.calm := fun a ha => by
  obtain ⟨pre, w, e, hpre, hw⟩ := h.work
  rw [e] at ha
  rcases List.mem_append.1 ha with ha | ha
  · exact (hpre a ha).imp fun _ => Act.calm_of_tide
  · rcases List.mem_cons.1 ha with rfl | ha
    · rfl
    · exact hw a ha

theorem clearAt_of_state {s : State} {q : Fin 16} (h1 : (outlet s q).state ≠ .on) (h2 : (outlet s q).state ≠ .waiting) : ClearAt s q :=
  fun h => absurd h (not_or.2 ⟨h1, h2⟩)

/-- R74: the cut of a shed outlet leaves none. -/
theorem cut_shed_clear {q : Fin 16} (hon : (outlet r.st q).state = .on) : ClearAt (perform (.cut q .shed) r).st q := by
  simp only [perform, Run.cut]
  split
  · intro e
    rw [Run.dark_outlet, if_pos rfl] at e
    rcases e with e | e <;> cases e
  · next h =>
    have hclass : effClass r.st q = 0 := not_not.1 fun e => h ⟨hon, e⟩
    exact fun _ => by rw [isShed, hclass]; rfl

/-- R74: after the cuts no outlet in ON or WAITING is shed. -/
theorem cutRest_clear (r : Run) (q : Fin 16) : ClearAt (perform .cutRest r).st q := by
  intro e
  have hdark : (perform .cutRest r) = r.darkAll .shed (outletsAll.filter (Run.toShed r.st)) := rfl
  rw [hdark, Run.darkAll_outlet] at e
  split at e
  · rcases e with e | e <;> cases e
  · next hq =>
    have hshed : ∀ l : List (Fin 16), ∀ r : Run, isShed (r.darkAll .shed l).st q = isShed r.st q := fun l => by
      induction l with
      | nil => exact fun _ => rfl
      | cons o l ih => exact fun r => (ih (r.dark o .shed)).trans (isShed_dark o q .shed r.st)
    rw [hdark, hshed]
    have hto : Run.toShed r.st q = false := by simpa [outletsAll] using hq
    simp only [Run.toShed, Bool.and_eq_false_iff, Bool.or_eq_false_iff, beq_eq_false_iff_ne] at hto
    exact hto.resolve_left fun h => absurd e (not_or.2 h)

/-! ### Acts that leave every outlet's class and the shed level -/

theorem Run.Even.close {q : Fin 16} (h : r.Even (some q)) (hq : ClearAt r.st q) : r.Even none :=
  ⟨fun p _ => if e : p = q then e ▸ hq else h.others p (by simpa using e), h.work⟩

theorem Run.Torn.close {q : Fin 16} (h : r.Torn (some q)) (hq : ClearAt r.st q) : r.Torn none :=
  ⟨fun p h2 _ => if e : p = q then e ▸ hq else h.others p h2 (by simpa using e), h.on, h.seq, h.work⟩

/-- The supply that is to be cut is the one outlet that may be shed. -/
theorem Run.Torn.even (h : r.Torn o) (ho : ∀ q, some q = o → q = 2) : r.Even (some 2) :=
  ⟨fun q hq => have h2 : q ≠ 2 := by simpa using hq
    h.others q h2 fun e => h2 (ho q e), h.calm⟩

theorem Run.Even.turns (h : r.Even o) (ht : Run.Turns a r r') (hre : a.reclasses r.st = false) (hw : r'.work = p ++ r.work)
    (hp : ∀ b ∈ p, b.Among Act.calm) : r'.Even o :=
  ⟨fun q hq => ht.clear hre q (h.others q hq), fun b hb => (List.mem_append.1 (hw ▸ hb)).elim (hp b) (h.work b)⟩

theorem Run.Torn.turns (h : r.Torn o) (ht : Run.Turns a r r') (hre : a.reclasses r.st = false) (hr : ¬ a.Revokes 2)
    (hw : r'.work = p ++ r.work) (hp : ∀ b ∈ p, b.Among Act.tide) (hs : (Machine.seq r'.st).state = .stopping) :
    r'.Even o ∨ r'.Torn o := by
  have others : ∀ q, q ≠ 2 → some q ≠ o → ClearAt r'.st q := fun q h2 hq => ht.clear hre q (h.others q h2 hq)
  rcases ht.on hre 2 h.on with hon | hclear | hrev
  · obtain ⟨pre, w, e, hpre, hcalm⟩ := h.work
    refine .inr ⟨others, hon, hs, p ++ pre, w, by rw [hw, e, List.append_assoc], fun b hb => ?_, hcalm⟩
    exact (List.mem_append.1 hb).elim (hp b) (hpre b)
  · refine .inl ⟨fun q hq => if e : q = 2 then e ▸ hclear else others q e hq, fun b hb => ?_⟩
    exact (List.mem_append.1 (hw ▸ hb)).elim (fun hb => (hp b hb).imp fun _ => Act.calm_of_tide) (h.calm b)
  · exact absurd hrev hr

/-- What is put before the acts on the stack leaves the cut of the supply where it is. -/
theorem Run.Torn.front (h : ({ r with work := l } : Run).Torn o) (hw : r.work = p ++ l) (hp : ∀ b ∈ p, b.Among Act.tide) :
    r.Torn o := by
  obtain ⟨pre, w, e, hpre, hcalm⟩ := h.work
  refine ⟨h.others, h.on, h.seq, p ++ pre, w, ?_, fun b hb => (List.mem_append.1 hb).elim (hp b) (hpre b), hcalm⟩
  rw [hw, List.append_assoc]
  exact congrArg (p ++ ·) e

theorem Run.Even.front (h : ({ r with work := l } : Run).Even o) (hw : r.work = p ++ l) (hp : ∀ b ∈ p, b.Among Act.calm) :
    r.Even o :=
  ⟨h.others, fun b hb => (List.mem_append.1 (hw ▸ hb)).elim (hp b) (h.work b)⟩

theorem Run.Even.tail (h : r.Even o) (hw : r.work = a :: l) : ({ r with work := l } : Run).Even o :=
  ⟨h.others, fun b hb => h.work b (hw ▸ List.mem_cons_of_mem _ hb)⟩

theorem Run.Even.step (h : r.Even o) (hw : r.work = a :: l) (hre : a.reclasses r.st = false) :
    (perform a { r with work := l }).Even o := by
  obtain ⟨p, hp⟩ := perform_pushes a { r with work := l }
  exact (h.tail hw).turns (perform_turns a { r with work := l }) hre hp.work (hp.calm hre (h.work a (by simp [hw])))

/-- Where the HEATER SUPPLY is to be cut, the next act is the cut, or one above it. -/
theorem Run.Torn.head (h : r.Torn o) (hw : r.work = a :: l) :
    a = .cut 2 .shed ∧ (∀ b ∈ l, b.Among Act.calm) ∨ a.Among Act.tide ∧ ({ r with work := l } : Run).Torn o := by
  obtain ⟨pre, w, e, hpre, hcalm⟩ := h.work
  rw [hw] at e
  cases pre with
  | nil =>
    obtain ⟨rfl, rfl⟩ := List.cons.inj e
    exact .inl ⟨rfl, hcalm⟩
  | cons b pre =>
    obtain ⟨rfl, hl⟩ := List.cons.inj e
    exact .inr ⟨hpre a (by simp), h.others, h.on, h.seq, pre, w, hl, fun b hb => hpre b (List.mem_cons_of_mem _ hb), hcalm⟩

/-- Where the HEATER SUPPLY is to be cut, an act leaves it so, or the supply is no longer in ON and shed; or the act is a pass that is
about to revoke the supply. -/
theorem Run.Torn.step (h : r.Torn o) (ht : r.TripsStand) (hw : r.work = a :: l) (hre : a.reclasses r.st = false) :
    (perform a { r with work := l }).Even o ∨ (perform a { r with work := l }).Torn o ∨
      ∃ g, a = .pass g ∧ (perform a { r with work := l }).st = r.st ∧
        (perform a { r with work := l }).work = .ask 2 .revoked :: .cut 2 .revoked :: .pass g :: l ∧ effClass r.st 2 ≠ 0 := by
  have turns := perform_turns a { r with work := l }
  obtain ⟨p, hp⟩ := perform_pushes a { r with work := l }
  rcases h.head hw with ⟨rfl, hcalm⟩ | ⟨htide, hrest⟩
  · refine .inl ⟨fun q hq => ?_, fun b hb => ?_⟩
    · by_cases e : q = 2
      · subst e
        exact cut_shed_clear (r := { r with work := l }) h.on
      · exact turns.clear hre q (h.others q e hq)
    · exact (List.mem_append.1 (hp.work ▸ hb)).elim (hp.calm hre rfl b) (hcalm b)
  · obtain ⟨hseq, hpush⟩ := hp.tide hre htide ⟨h.seq, ht.passes_of_on h.on⟩
    rcases hpush with hpush | ⟨g, rfl, rfl, hst, -, hclass⟩
    · have hrev : ¬ a.Revokes 2 := fun hrev => by
        rcases hrev with rfl | ⟨g, -, h2, -⟩
        · cases htide
        · exact h2 rfl
      exact (hrest.turns turns hre hrev hp.work hpush hseq).imp_right .inl
    · exact .inr (.inr ⟨g, rfl, hst, hp.work, hclass⟩)

/-! ### The owner of the HEATER SUPPLY is asked (R78, R137) -/

/-- The owner of the HEATER SUPPLY, which is in ON and not PROTECTED, is asked. -/
theorem perform_ask_supply {c : Cut} (hon : (outlet r.st 2).state = .on) (hclass : effClass r.st 2 ≠ 0) :
    perform (.ask 2 c) r = r.react supplyAsk := by
  simp only [perform, if_pos (And.intro hon hclass)]
  rfl

/-- R137: a supply whose sequencer protects it is PROTECTED once its owner has been asked. -/
theorem ask_supply_protects {c : Cut} (hon : (outlet r.st 2).state = .on) (hclass : effClass r.st 2 ≠ 0)
    (hp : supplyProtected (seq r.st).state = true) : ∃ t, perform (.ask 2 c) r = { r with st := t } ∧ ClearAt t 2 ∧
      ∀ q, q ≠ 2 → ClearAt r.st q → ClearAt t q := by
  have hgrant : (seq r.st).state ≠ .grantWait := fun e => by rw [e] at hp; cases hp
  have hask : supplyAsk r.st = ({ r.st with outlets := { r.st.outlets with heater := (seq r.st).state } }, []) := by
    rw [supplyAsk, if_neg hgrant, if_pos hp]
  refine ⟨{ r.st with outlets := { r.st.outlets with heater := (seq r.st).state } }, ?_, fun _ => ?_, fun q hq h e => ?_⟩
  · rw [perform_ask_supply hon hclass, Run.react, hask]
    rfl
  · rw [isShed, Run.Turns.effClass_supply hp]
    rfl
  · have hs := h e
    rwa [isShed, ← Run.Turns.effClass_heater hq (seq r.st).state] at hs

theorem firstActs_succ {k : Nat} (hw : r.work = a :: l) : firstActs (k + 1) r = firstActs k (perform a { r with work := l }) := by
  simp only [firstActs, hw]

/-- An outcome of at least one act. -/
def Run.Comes (P : Run → Prop) (r : Run) : Prop := ∃ k, 1 ≤ k ∧ P (firstActs k r)

theorem Run.Comes.one {P : Run → Prop} (hw : r.work = a :: l) (h : P (perform a { r with work := l })) : r.Comes P :=
  ⟨1, le_rfl, by rw [firstActs_succ hw]; exact h⟩

theorem Run.Comes.after {P : Run → Prop} (hw : r.work = a :: l) (h : (perform a { r with work := l }).Comes P) : r.Comes P := by
  obtain ⟨k, -, h⟩ := h
  exact ⟨k + 1, by omega, by rw [firstActs_succ hw]; exact h⟩

/-- The HEATER SUPPLY, in ON, is asked and cut as shed. -/
theorem supply_cut_comes (hw : r.work = .ask 2 .shed :: .cut 2 .shed :: l) (ho : r.Even (some 2))
    (hon : (outlet r.st 2).state = .on) (hclass : effClass r.st 2 ≠ 0) : r.Comes Run.Orderly := by
  have hl : ∀ b ∈ l, b.Among Act.calm := fun b hb => ho.work b (by simp [hw, hb])
  have hothers : ∀ q, q ≠ 2 → ClearAt r.st q := fun q h2 => ho.others q (by simpa using h2)
  by_cases hp : supplyProtected (seq r.st).state = true
  · obtain ⟨t, e, h2, hq⟩ := ask_supply_protects (c := .shed) (r := { r with work := .cut 2 .shed :: l }) hon hclass hp
    refine .one hw (.inl ?_)
    rw [e]
    refine ⟨fun q _ => if h : q = 2 then h ▸ h2 else hq q h (hothers q h), fun b hb => ?_⟩
    rcases List.mem_cons.1 hb with rfl | hb
    · rfl
    · exact hl b hb
  · refine .after hw ?_
    rw [perform_ask_supply (r := { r with work := .cut 2 .shed :: l }) hon hclass]
    by_cases hg : (seq r.st).state = .grantWait
    · have hask : ({ r with work := .cut 2 .shed :: l } : Run).react supplyAsk =
          { r with work := .enter .stopping 0 :: .stopping false :: .cut 2 .shed :: l } := by
        rw [Run.react, show supplyAsk r.st = (r.st, [.enter .stopping 0, .stopping false]) by rw [supplyAsk, if_pos hg]]
        rfl
      rw [hask]
      refine .one (a := .enter .stopping 0) rfl (.inr (.inl ⟨fun q h2 _ => ?_, ?_, rfl, ?_⟩))
      · have hgrid := (enter_civil r.st .stopping 0).grid
        exact fun e => by
          have hs : isShed (enter .stopping 0 r.st).1 q = isShed r.st q := isShed_grid hgrid q
          exact hs.trans (hothers q h2 (by rwa [← (outlet_grid hgrid q).2.1]))
      · exact hon
      · refine ⟨(enter .stopping 0 r.st).2 ++ [.stopping false], l, ?_, fun b hb => ?_, hl⟩
        · simp [perform, Run.react]
        · rcases List.mem_append.1 hb with hb | hb
          · have hout := outward_iff.1 (enter_civil r.st .stopping 0).acts b hb
            exact Act.among_outward hout (Act.tide_of_spares hout (sparing_iff.1 (sparing_enter .stopping 0) b hb))
          · rw [List.mem_singleton.1 hb]
            rfl
    · have hask : ({ r with work := .cut 2 .shed :: l } : Run).react supplyAsk = { r with work := .cut 2 .shed :: l } := by
        rw [Run.react, show supplyAsk r.st = (r.st, []) by rw [supplyAsk, if_neg hg, if_neg hp]]
        rfl
      rw [hask]
      refine .one (a := .cut 2 .shed) rfl (.inl ⟨fun q _ => ?_, fun b hb => ?_⟩)
      · by_cases h : q = 2
        · subst h
          exact cut_shed_clear (r := { r with work := l }) hon
        · exact (perform_turns (.cut 2 .shed) { r with work := l }).clear rfl q (hothers q h)
      · obtain ⟨p, hpush⟩ := perform_pushes (.cut 2 .shed) { r with work := l }
        rw [hpush.work] at hb
        exact (List.mem_append.1 hb).elim (hpush.calm rfl rfl b) (hl b)

end Sys2Proof.Machine
end

section
/-!
SUPPORT. A cascade on its way stays so (`Run.Orderly`), and ends with no outlet in ON or WAITING shed.
-/
namespace Sys2Proof.Machine

variable {r : Run} {a : Act} {l p : List Act} {o : Fin 16}

/-- No outlet in ON or WAITING is shed but for `o`, and the HEATER SUPPLY where it is to be cut. -/
def Run.Holds (o : Option (Fin 16)) (r : Run) : Prop := r.Even o ∨ r.Torn o

theorem Run.Holds.orderly (h : r.Holds none) : r.Orderly := h.imp_right .inl

theorem Run.Holds.close (h : r.Holds (some o)) (ho : ClearAt r.st o) : r.Holds none :=
  h.imp (·.close ho) (·.close ho)

theorem Run.Holds.even (h : r.Holds (some 2)) : r.Even (some 2) := by
  rcases h with h | h
  · exact h
  · exact h.even fun q e => Option.some.inj e

theorem Run.Holds.front {q : Option (Fin 16)} (h : ({ r with work := l } : Run).Holds q) (hw : r.work = p ++ l)
    (hp : ∀ b ∈ p, b.Among Act.tide) : r.Holds q :=
  h.imp (fun h => h.front hw fun b hb => (hp b hb).imp fun _ => Act.calm_of_tide) (·.front hw hp)

theorem Run.Holds.step {q : Option (Fin 16)} (h : r.Holds q) (ht : r.TripsStand) (hw : r.work = a :: l)
    (hre : a.reclasses r.st = false) (ha : ∀ g, a ≠ .pass g) : (perform a { r with work := l }).Holds q := by
  rcases h with h | h
  · exact .inl (h.step hw hre)
  · rcases h.step ht hw hre with h | h | ⟨g, e, -⟩
    · exact .inl h
    · exact .inr h
    · exact absurd e (ha g)

/-! ### The BRIDGE is asked and cut (R78) -/

/-- The owner of the BRIDGE sets off no more than what the display shows. -/
theorem perform_ask_bridge (c : Cut) (r : Run) : (outlet (perform (.ask 5 c) r).st 5).state = (outlet r.st 5).state ∧
    ((perform (.ask 5 c) r).work = r.work ∨ ∃ m, (perform (.ask 5 c) r).work = .shown m [] :: r.work) := by
  simp only [perform]
  split
  · refine ⟨(outlet_grid (bridgeAsk_civil r.st).grid 5).2.1, ?_⟩
    have hown : (r.react (ownerAsk 5)).work = (bridgeAsk r.st).2 ++ r.work := rfl
    rw [hown]
    unfold bridgeAsk
    split
    · exact .inr ⟨_, rfl⟩
    · exact .inl rfl
  · exact ⟨rfl, .inl rfl⟩

/-- The BRIDGE, in ON, is cut as shed. -/
theorem bridge_cut (h : r.Holds (some 5)) (ht : r.TripsStand) (hw : r.work = .cut 5 .shed :: l) (hon : (outlet r.st 5).state = .on) :
    (perform (.cut 5 .shed) { r with work := l }).Holds none :=
  (h.step ht hw rfl nofun).close (cut_shed_clear (r := { r with work := l }) hon)

/-- The BRIDGE, in ON, is asked and cut as shed. -/
theorem bridge_cut_comes (h : ({ r with work := l } : Run).Holds (some 5)) (ht : r.TripsStand)
    (hw : r.work = .ask 5 .shed :: .cut 5 .shed :: l) (hon : (outlet r.st 5).state = .on) : r.Comes Run.Orderly := by
  have hall : r.Holds (some 5) := h.front (p := [.ask 5 .shed, .cut 5 .shed]) hw (by simp [Act.Among, Act.tide])
  have hask := hall.step ht hw rfl nofun
  have htrip := ht.perform hw
  obtain ⟨hst, hwork⟩ := perform_ask_bridge .shed { r with work := .cut 5 .shed :: l }
  refine .after hw ?_
  generalize perform (.ask 5 .shed) { r with work := .cut 5 .shed :: l } = q at hask htrip hst hwork
  have hon' : (outlet q.st 5).state = .on := hst.trans hon
  rcases hwork with hwork | ⟨m, hwork⟩
  · exact .one hwork (bridge_cut hask htrip hwork hon').orderly
  · refine .after hwork (.one rfl (bridge_cut (r := { q with st := showAction m [] q.st, work := .cut 5 .shed :: l }) ?_ ?_ rfl hon').orderly)
    · exact hask.step htrip hwork rfl nofun
    · exact htrip.perform hwork

/-! ### An outlet is re-judged (R77) -/

/-- R77: an outlet whose class has changed is left not shed in ON or WAITING, or is in ON, shed, and its owner is asked. -/
theorem rejudge_outcome (o : Fin 16) (c : Class) (r : Run) : effClass r.st o = c ∧ r.rejudge o c = r ∨
    (ClearAt (r.rejudge o c).st o ∧ ∃ p, (r.rejudge o c).work = p ++ r.work ∧ (∀ b ∈ p, b.Among Act.tide) ∧
      seq (r.rejudge o c).st = seq r.st) ∨
    (r.rejudge o c = r.push [.ask o .shed, .cut o .shed] ∧ (o = 2 ∨ o = 5) ∧ (outlet r.st o).state = .on ∧ effClass r.st o ≠ 0) := by
  have hdark : ∀ x, x ≠ .on → (x = .waiting → isShed r.st o = false) → ClearAt (r.dark o x).st o := fun x hx hs e => by
    rw [Run.dark_outlet, if_pos rfl] at e
    have hst : (r.dark o x).st = darkOutlet o x r.st := rfl
    rw [hst, isShed_dark]
    exact hs (e.resolve_left hx)
  unfold Run.rejudge
  split
  · next h => exact .inl ⟨h, rfl⟩
  · split
    · next hon =>
      split
      · next hs =>
        split
        · next h25 =>
          refine .inr (.inr ⟨rfl, h25, hon, fun h0 => ?_⟩)
          rw [isShed, h0] at hs
          cases hs
        · exact .inr (.inl ⟨hdark .shed nofun nofun, [], rfl, nofun, rfl⟩)
      · next hs =>
        have hs : isShed r.st o = false := by simpa using hs
        split
        · exact .inr (.inl ⟨fun _ => hs, [], rfl, nofun, rfl⟩)
        · exact .inr (.inl ⟨fun _ => hs, [.pass .limit, .restore r.room], rfl, by simp [Act.Among, Act.tide], rfl⟩)
    · split
      · exact .inr (.inl ⟨hdark .shed nofun nofun, [], rfl, nofun, rfl⟩)
      · next hs =>
        have hs : isShed r.st o = false := by simpa using hs
        split
        · exact .inr (.inl ⟨fun _ => hs, [.preempt o], rfl, by simp [Act.Among, Act.tide], rfl⟩)
        · exact .inr (.inl ⟨fun _ => hs, [], rfl, nofun, rfl⟩)
    · next hsh =>
      split
      · exact .inr (.inl ⟨clearAt_of_state (by rw [hsh]; decide) (by rw [hsh]; decide), [], rfl, nofun, rfl⟩)
      · next hs =>
        have hs : isShed r.st o = false := by simpa using hs
        split
        · refine .inr (.inl ⟨clearAt_of_state ?_ ?_, [.judge o], rfl, by simp [Act.Among, Act.tide], rfl⟩)
          · rw [Run.push_st, hsh]; decide
          · rw [Run.push_st, hsh]; decide
        · exact .inr (.inl ⟨hdark .waiting nofun fun _ => hs, [.arbiter], rfl, by simp [Act.Among, Act.tide], rfl⟩)
    · next hon hw hs =>
      exact .inr (.inl ⟨clearAt_of_state hon hw, [], rfl, nofun, rfl⟩)

/-- An outlet that is re-judged is left not shed. -/
theorem rejudge_comes {c : Class} (hw : r.work = .rejudge o c :: l) (h : ({ r with work := l } : Run).Holds (some o))
    (ht : r.TripsStand) (hsame : effClass r.st o = c → ({ r with work := l } : Run).Holds none) : r.Comes Run.Orderly := by
  have turns : Run.Turns (.rejudge o c) { r with work := l } (Run.rejudge o c { r with work := l }) := .rejudge o c
  have htrip := ht.perform hw
  rcases rejudge_outcome o c { r with work := l } with ⟨heff, e⟩ | ⟨hclear, p, hp, htide, hs⟩ | ⟨e, h25, hon, hclass⟩
  · refine .one hw ?_
    rw [perform, e]
    exact (hsame heff).orderly
  · refine .one hw (Run.Holds.orderly (Run.Holds.close (o := o) ?_ hclear))
    rcases h with h | h
    · exact .inl (h.turns turns rfl hp fun b hb => (htide b hb).imp fun _ => Act.calm_of_tide)
    · refine h.turns turns rfl (fun hrev => ?_) hp htide (hs ▸ h.seq)
      rcases hrev with e | ⟨g, e, -⟩ <;> cases e
  · refine .after hw ?_
    have hasks : perform (.rejudge o c) { r with work := l } = ({ r with work := l } : Run).push [.ask o .shed, .cut o .shed] := e
    rw [hasks] at htrip ⊢
    rcases h25 with rfl | rfl
    · have heven := h.even.front (r := ({ r with work := l } : Run).push [.ask 2 .shed, .cut 2 .shed]) (l := l)
        (p := [.ask 2 .shed, .cut 2 .shed]) rfl (by simp [Act.Among, Act.calm])
      exact supply_cut_comes rfl heven hon hclass
    · exact bridge_cut_comes (l := l) h htrip rfl hon

/-! ### Requests -/

/-- A request that is taken outside an action is an action of its own. -/
theorem take_comes_idle {q : Req} (hw : r.work = .take q :: l) (h : r.Holds none) (hact : r.acting = 0) : r.Comes Run.Orderly := by
  refine .one hw ?_
  have e : perform (.take q) { r with work := l } = ({ r with work := l } : Run).action [.take q] := by
    simp only [perform, Run.take, hact, if_true]
  rw [e]
  have hfront : ({ ({ r with work := l } : Run).action [.take q] with work := l } : Run).Holds none := by
    rcases h with h | h
    · exact .inl ⟨h.others, fun b hb => h.work b (by simp [hw, hb])⟩
    · rcases h.head hw with ⟨e, -⟩ | ⟨-, hrest⟩
      · cases e
      · exact .inr ⟨hrest.others, hrest.on, hrest.seq, hrest.work⟩
  refine (hfront.front (p := [.take q, .flush, .actEnd, .restore r.room]) rfl ?_).orderly
  simp [Act.Among, Act.tide]

/-- What is left on the stack after an act that is not the cut of the supply. -/
theorem Run.Holds.tail {q : Option (Fin 16)} (h : r.Holds q) (hw : r.work = a :: l) (ha : a ≠ .cut 2 .shed) :
    ({ r with work := l } : Run).Holds q := by
  rcases h with h | h
  · exact .inl (h.tail hw)
  · rcases h.head hw with ⟨e, -⟩ | ⟨-, hrest⟩
    · exact absurd e ha
    · exact .inr hrest

/-- A change of one outlet's class alone. -/
theorem Run.Holds.reclass {t : State} (h : r.Holds none) (hq : ∀ q, q ≠ o → ClearAt r.st q → ClearAt t q)
    (hs : (outlet t 2).state = (outlet r.st 2).state) (hseq : seq t = seq r.st) : ({ r with st := t } : Run).Holds (some o) := by
  rcases h with h | h
  · exact .inl ⟨fun q hne => hq q (by simpa using hne) (h.others q nofun), h.work⟩
  · exact .inr ⟨fun q h2 hne => hq q (by simpa using hne) (h.others q h2 nofun), hs.trans h.on, (congrArg Sequencer.state hseq).trans h.seq, h.work⟩

/-- A change of one outlet's class that has come to nothing. -/
theorem Run.Holds.unclassed {t : State} (h : r.Holds none) (hq : ∀ q, ClearAt r.st q → ClearAt t q)
    (hs : (outlet t 2).state = (outlet r.st 2).state) (hseq : seq t = seq r.st) : ({ r with st := t } : Run).Holds none := by
  rcases h with h | h
  · exact .inl ⟨fun q hne => hq q (h.others q hne), h.work⟩
  · exact .inr ⟨fun q h2 hne => hq q (h.others q h2 hne), hs.trans h.on, (congrArg Sequencer.state hseq).trans h.seq, h.work⟩

theorem clearAt_of_class {s t : State} {q : Fin 16} (hs : (outlet t q).state = (outlet s q).state) (hc : effClass t q = effClass s q)
    (hl : t.outlets.shedLevel = s.outlets.shedLevel) (h : ClearAt s q) : ClearAt t q := fun e => by
  rw [isShed, hc, hl]
  exact h (by rwa [← hs])

/-- R68, R71, R77: a demand is taken within an action. -/
theorem takeDemand_comes {d : Demand} (hw : r.work = .take (.demand o d) :: l) (h : r.Holds none) (ht : r.TripsStand)
    (hact : r.acting ≠ 0) : r.Comes Run.Orderly := by
  have hl : ({ r with work := l } : Run).Holds none := h.tail hw nofun
  have e : perform (.take (.demand o d)) { r with work := l } = ({ r with work := l } : Run).takeDemand o d := by
    simp only [perform, Run.take, hact, if_false]
    rfl
  have hstate : ∀ d' q, (outlet (setDemand o d' r.st) q).state = (outlet r.st q).state := fun d' q => by
    rw [setDemand, outlet_setOutlet]
    split
    · next e => rw [e]
    · rfl
  have hother : ∀ d' q, q ≠ o → ClearAt r.st q → ClearAt (setDemand o d' r.st) q := fun d' q hq =>
    clearAt_of_class (hstate d' q) (effClass_setDemand_other hq d' r.st) rfl
  have hall : ∀ d', (outlet r.st o).state ≠ .on → (outlet r.st o).state ≠ .waiting → ∀ q, ClearAt r.st q → ClearAt (setDemand o d' r.st) q :=
    fun d' h1 h2 q hq => by
      by_cases e : q = o
      · subst e
        exact clearAt_of_state (by rw [hstate]; exact h1) (by rw [hstate]; exact h2)
      · exact hother d' q e hq
  have htrip := ht.perform hw
  rw [e] at htrip
  unfold Run.takeDemand at e htrip
  simp only at e htrip
  split at e
  · next hoff =>
    refine .one hw ?_
    rw [e]
    have hset : ({ r with st := newRequest o (setDemand o (some d) r.st), work := l } : Run).Holds none := by
      refine hl.unclassed (fun q hq => ?_) ?_ rfl
      · have hgrid := Run.Turns.newRequest_grid o (setDemand o (some d) r.st)
        exact clearAt_of_class (outlet_grid hgrid q).2.1 (effClass_of_grid (outlet_grid hgrid q).1 rfl rfl) rfl
          (hall (some d) (by rw [hoff]; decide) (by rw [hoff]; decide) q hq)
      · exact (outlet_grid (Run.Turns.newRequest_grid o (setDemand o (some d) r.st)) 2).2.1.trans (hstate _ 2)
    exact (hset.front (p := [.judge o]) rfl (by simp [Act.Among, Act.tide])).orderly
  · next htr =>
    refine .one hw ?_
    rw [e]
    have hset : ({ r with st := setDemand o (some d) r.st, work := l } : Run).Holds none :=
      hl.unclassed (hall _ (by rw [htr]; decide) (by rw [htr]; decide)) (hstate _ 2) rfl
    refine Run.Holds.orderly ?_
    rcases hset with h | h
    · exact .inl ⟨h.others, h.work⟩
    · exact .inr ⟨h.others, h.on, h.seq, h.work⟩
  · next d0 hd0 _ _ =>
    have hset := hl.reclass (o := o) (t := setDemand o (some { d with charge := d0.charge }) r.st) (hother _) (hstate _ 2) rfl
    refine .after hw ?_
    rw [e]
    refine rejudge_comes (l := .take (.charge o d.charge) :: l) rfl (hset.front (p := [.take (.charge o d.charge)]) rfl
      (by simp [Act.Among, Act.tide])) ?_ fun heff => ?_
    · rw [← e]
      exact ht.perform hw
    · refine Run.Holds.front (l := l) (p := [.take (.charge o d.charge)]) ?_ rfl (by simp [Act.Among, Act.tide])
      refine hl.unclassed (fun q hq => ?_) (hstate _ 2) rfl
      by_cases e : q = o
      · subst e
        exact clearAt_of_class (hstate _ q) heff rfl hq
      · exact hother _ q e hq
  · refine .one hw ?_
    rw [e]
    exact hl.orderly

/-- R66, R77: a state of the sequencer is taken within an action. -/
theorem takeHeater_comes {x : SeqState} (hw : r.work = .take (.heater x) :: l) (h : r.Holds none) (ht : r.TripsStand)
    (hact : r.acting ≠ 0) : r.Comes Run.Orderly := by
  have hl : ({ r with work := l } : Run).Holds none := h.tail hw nofun
  have e : perform (.take (.heater x)) { r with work := l } = { r with
      st := { r.st with outlets := { r.st.outlets with heater := x } }, work := .rejudge 2 (effClass r.st 2) :: l } := by
    simp only [perform, Run.take, hact, if_false]
    rfl
  have hother : ∀ q, q ≠ 2 → ClearAt r.st q → ClearAt { r.st with outlets := { r.st.outlets with heater := x } } q := fun q hq =>
    clearAt_of_class rfl (Run.Turns.effClass_heater hq x) rfl
  refine .after hw ?_
  have htrip := ht.perform hw
  rw [e] at htrip ⊢
  refine rejudge_comes rfl (hl.reclass hother rfl rfl) htrip fun heff => hl.unclassed (fun q hq => ?_) rfl rfl
  by_cases e : q = 2
  · subst e
    exact clearAt_of_class (s := r.st) rfl heff rfl hq
  · exact hother q e hq

/-! ### Every act -/

theorem Run.Risen.comes (h : r.Risen) : r.Comes Run.Orderly := by
  obtain ⟨pre, b, w, hw, hb, hcalm⟩ := h
  cases pre with
  | nil =>
    rcases hb with rfl | ⟨l, rfl⟩
    · refine .one hw (.inl ⟨fun q _ => cutRest_clear { r with work := w } q, ?_⟩)
      have hwork : (perform .cutRest { r with work := w }).work = w := (cutRest_pushes { r with work := w }).work
      rw [hwork]
      exact hcalm
    · refine .one hw (.inr (.inr ⟨l, .cutRest, [.flush, .actEnd, .restore r.room] ++ w, ?_, .inl rfl, fun a ha => ?_⟩))
      · simp [perform, Run.action, Run.push]
      · rcases List.mem_append.1 ha with ha | ha
        · simp only [List.mem_cons, List.not_mem_nil, or_false] at ha
          rcases ha with rfl | rfl | rfl <;> rfl
        · exact hcalm a ha
  | cons a pre =>
    obtain ⟨p, hp⟩ := perform_pushes a { r with work := pre ++ b :: w }
    exact .one (a := a) (l := pre ++ b :: w) hw (.inr (.inr ⟨p ++ pre, b, w, by rw [hp.work, List.append_assoc], hb, hcalm⟩))

/-- A cascade on its way comes on. -/
theorem Run.Orderly.comes (h : r.Orderly) (ht : r.TripsStand) (hw : r.work = a :: l) : r.Comes Run.Orderly := by
  have hholds : r.Risen ∨ r.Holds none := by
    rcases h with h | h | h
    · exact .inr (.inl h)
    · exact .inr (.inr h)
    · exact .inl h
  rcases hholds with h | hh
  · exact h.comes
  by_cases hre : a.reclasses r.st = false
  · rcases hh with h | h
    · exact .one hw (.inl (h.step hw hre))
    · rcases h.step ht hw hre with h' | h' | ⟨g, rfl, hst, hwork, hclass⟩
      · exact .one hw (.inl h')
      · exact .one hw (.inr (.inl h'))
      · refine .after hw (.one hwork ?_)
        obtain ⟨t, e, h2, hq⟩ := ask_supply_protects (c := .revoked)
          (r := { perform (.pass g) { r with work := l } with work := .cut 2 .revoked :: .pass g :: l })
          (by rw [hst]; exact h.on) (by rw [hst]; exact hclass) (by rw [hst, h.seq]; rfl)
        rw [e]
        refine .inl ⟨fun q _ => ?_, fun b hb => ?_⟩
        · by_cases e2 : q = 2
          · exact e2 ▸ h2
          · exact hq q e2 (by rw [hst]; exact h.others q e2 nofun)
        · simp only [List.mem_cons] at hb
          rcases hb with rfl | rfl | hb
          · rfl
          · rfl
          · exact h.calm b (by simp [hw, hb])
  · cases a <;> try exact absurd rfl hre
    case take q =>
      by_cases hact : r.acting = 0
      · exact take_comes_idle hw hh hact
      · cases q
        case demand o d => exact takeDemand_comes hw hh ht hact
        case heater x => exact takeHeater_comes hw hh ht hact
        all_goals exact absurd rfl hre
    case shedLevel n =>
      have hn : r.st.outlets.shedLevel < n := by simpa [Act.reclasses] using hre
      obtain ⟨m, t, e, -⟩ := shedLevel_rise { r with work := l } hn
      refine .one hw (.inr (.inr ⟨[], .action (m ++ [.cutRest]), l, ?_, .inr ⟨m, rfl⟩, fun b hb => ?_⟩))
      · rw [perform, e]
        rfl
      · rcases hh with h | h
        · exact h.work b (by simp [hw, hb])
        · exact h.calm b (by simp [hw, hb])

/-! ### The end of a cascade -/

/-- A cascade that ends within the bound ends with an empty stack. -/
theorem settle_end : ∀ (k : Nat) {r : Run}, (settle k r).overrun = false → (firstActs k r).work = [] ∧ settle k r = (firstActs k r).st
  | 0, r, h => by
    unfold settle at h ⊢
    split at h
    · next e => exact ⟨List.isEmpty_iff.1 e, by rw [if_pos e]; rfl⟩
    · cases h
  | k + 1, r, h => by
    cases hw : r.work with
    | nil => rw [firstActs_of_done _ hw, settle_done _ _ hw]; exact ⟨hw, rfl⟩
    | cons a l =>
      have e : settle (k + 1) r = settle k (perform a { r with work := l }) := by rw [settle, hw]
      rw [e] at h ⊢
      rw [firstActs_succ hw]
      exact settle_end k h

theorem Run.Orderly.clear (h : r.Orderly) (hw : r.work = []) (q : Fin 16) : ClearAt r.st q := by
  rcases h with h | h | ⟨pre, b, w, e, -⟩
  · exact h.others q nofun
  · obtain ⟨pre, w, e, -⟩ := h.work
    rw [hw] at e
    exact absurd (congrArg List.length e) (by simp)
  · rw [hw] at e
    exact absurd (congrArg List.length e) (by simp)

/-- A cascade on its way ends with no outlet in ON or WAITING shed. -/
theorem firstActs_clear (q : Fin 16) : ∀ (k : Nat) {r : Run}, r.Orderly → r.TripsStand → (firstActs k r).work = [] →
    ClearAt (firstActs k r).st q := by
  intro k
  induction k using Nat.strong_induction_on with
  | _ k ih =>
    intro r h ht hend
    cases hw : r.work with
    | nil => rw [firstActs_of_done _ hw]; exact h.clear hw q
    | cons a l =>
      obtain ⟨j, hj, hjo⟩ := h.comes ht hw
      by_cases hle : j ≤ k
      · have e : firstActs k r = firstActs (k - j) (firstActs j r) := by rw [← firstActs_add, Nat.add_sub_cancel' hle]
        rw [e] at hend ⊢
        exact ih (k - j) (by omega) hjo (ht.firstActs j) hend
      · have e : firstActs j r = firstActs k r := by
          rw [← Nat.add_sub_cancel' (Nat.le_of_not_le hle), firstActs_add, firstActs_of_done _ hend]
        rw [e] at hjo
        exact hjo.clear hend q

theorem settle_clear {k : Nat} (h : r.Orderly) (ht : r.TripsStand) (ho : (settle k r).overrun = false) (q : Fin 16) :
    ClearAt (settle k r) q := by
  obtain ⟨hend, e⟩ := settle_end k ho
  rw [e]
  exact firstActs_clear q k h ht hend

end Sys2Proof.Machine
end

section
/-!
SUPPORT. What a command that is no start leaves of the outlets, of the heat and of the positions (`Fares`), and that the cascades leave it.
-/
namespace Sys2Proof.Machine

/-- The positions with their known flags, RESET and the power state. -/
def State.berth (s : State) : (Nat × Bool) × (Nat × Bool) × Bool × PowerState :=
  ((s.movers.awning.position, s.movers.awning.known), (s.movers.step.position, s.movers.step.known), s.pins.reset, s.charge.power)

/-- What the invariants of the blocks speak of. -/
def State.stock (s : State) := (s.grid, s.warmth, s.berth)

/-- From s to t: outlets, heat and positions fare as O4 and O7 have it; RESET stays, and a part that does not start does not begin to. -/
structure Fares (s t : State) : Prop where
  idle : (∀ o, (outlet s o).Idle) → ∀ o, (outlet t o).Idle
  free : (∀ o, (outlet s o).Free) → ∀ o, (outlet t o).Free
  clear : t.overrun = false → (∀ o, ClearAt s o) → ∀ o, ClearAt t o
  drain : configuredClass s 1 = 0 → configuredClass t 1 = 0
  kept : ((outlet s 2).held = true → s.retained.heater = true) → (outlet t 2).held = true → t.retained.heater = true
  heat : t.overrun = false → s.HeatInv → t.HeatInv
  position : s.PositionInv → t.PositionInv
  overrun : t.overrun = false → s.overrun = false
  reset : t.pins.reset = s.pins.reset
  awake : s.charge.power ≠ .starting → t.charge.power ≠ .starting

variable {s t u : State} {l m : List Act} {r : Run}

theorem clearAt_grid (h : t.grid = s.grid) {o : Fin 16} (hs : ClearAt s o) : ClearAt t o :=
  clearAt_of_class (outlet_grid h o).2.1 (effClass_of_grid (outlet_grid h o).1 (congrArg Grid.active h) (congrArg Grid.heater h))
    (congrArg Grid.shedLevel h) hs

theorem idle_grid (h : t.grid = s.grid) {o : Fin 16} (hs : (outlet s o).Idle) : (outlet t o).Idle := by
  obtain ⟨-, h1, h2, -⟩ := outlet_grid h o
  unfold Outlet.Idle at *
  rwa [h1, h2]

theorem free_grid (h : t.grid = s.grid) {o : Fin 16} (hs : (outlet s o).Free) : (outlet t o).Free := by
  obtain ⟨-, h1, -, h2⟩ := outlet_grid h o
  unfold Outlet.Free at *
  rwa [h1, h2]

theorem kept_grid (h : t.grid = s.grid) (hs : (outlet s 2).held = true → s.retained.heater = true) :
    (outlet t 2).held = true → t.retained.heater = true := by
  have e := congrArg Grid.kept h
  simp only [State.grid, Prod.mk.injEq] at e
  rwa [e.1, e.2]

theorem configuredClass_active (h : t.store.active = s.store.active) (o : Fin 16) : configuredClass t o = configuredClass s o := by
  rw [configuredClass, configuredClass, cfg, cfg, h]

/-- R126: the heat follows from what the warmth holds. -/
theorem heatInv_warmth (h : t.warmth = s.warmth) (hs : s.HeatInv) : t.HeatInv := by
  simp only [State.warmth, Prod.mk.injEq] at h
  obtain ⟨hmode, hfrost, hz, hd, hl⟩ := h
  have hzone : ∀ z : Fin 3, t.climate.zones[z].demand = s.climate.zones[z].demand ∧
      t.climate.zones[z].deficit = s.climate.zones[z].deficit := fun z => by
    have e := congrArg (fun v : Vector (Bool × Nat) 3 => v[z]) hz
    simpa using e
  have h0 := hzone 0
  have h1 := hzone 1
  have h2 := hzone 2
  simp only [Fin.getElem_fin, Fin.val_zero, Fin.val_one, Fin.val_two] at h0 h1 h2
  have hdemand : heaterDemand t.climate = heaterDemand s.climate := by
    unfold heaterDemand
    rw [hmode, hfrost, h0.1, h1.1, h2.1]
  have hlevel : heatLevel t.climate = heatLevel s.climate := by
    unfold heatLevel countedDeficit
    rw [hmode, hfrost, h0.2, h1.2, h2.2]
  obtain ⟨hsd, hsl⟩ := hs
  exact ⟨by rw [hd, hdemand, hsd], by rw [hl, hlevel, hsl]⟩

/-- R142: a known position within the travel stays there. -/
theorem positionInv_berth (h : t.berth = s.berth) (ha : t.store.active = s.store.active) (hs : s.PositionInv) : t.PositionInv := by
  simp only [State.berth, Prod.mk.injEq] at h
  obtain ⟨⟨hap, hak⟩, ⟨hsp, hsk⟩, -⟩ := h
  have htravel : ∀ m, travelOf t m = travelOf s m := fun m => by rw [travelOf, travelOf, cfg, cfg, ha]
  intro m hk
  rw [htravel]
  cases m with
  | awning =>
    have := hs .awning (hak.symm.trans hk)
    exact hap.le.trans this
  | step =>
    have := hs .step (hsk.symm.trans hk)
    exact hsp.le.trans this

namespace Fares

theorem refl (s : State) : Fares s s := ⟨id, id, fun _ => id, id, id, fun _ => id, id, id, rfl, id⟩

theorem trans (h : Fares s t) (g : Fares t u) : Fares s u where
  idle hs := g.idle (h.idle hs)
  free hs := g.free (h.free hs)
  clear ho hs := g.clear ho (h.clear (g.overrun ho) hs)
  drain hs := g.drain (h.drain hs)
  kept hs := g.kept (h.kept hs)
  heat ho hs := g.heat ho (h.heat (g.overrun ho) hs)
  position hs := g.position (h.position hs)
  overrun ho := h.overrun (g.overrun ho)
  reset := g.reset.trans h.reset
  awake hs := g.awake (h.awake hs)

/-- A change beside all this. The power state may change, but to STARTING. -/
theorem of_grid (hg : t.grid = s.grid) (hw : t.warmth = s.warmth) (hp : s.PositionInv → t.PositionInv)
    (hr : t.pins.reset = s.pins.reset) (ha : s.charge.power ≠ .starting → t.charge.power ≠ .starting) : Fares s t where
  idle hs o := idle_grid hg (hs o)
  free hs o := free_grid hg (hs o)
  clear _ hs o := clearAt_grid hg (hs o)
  drain hs := (configuredClass_active (congrArg Grid.active hg) 1).trans hs
  kept hs := kept_grid hg hs
  heat _ hs := heatInv_warmth hw hs
  position := hp
  overrun ho := (congrArg Grid.overrun hg).symm.trans ho
  reset := hr
  awake := ha

theorem of_stock (h : t.stock = s.stock) : Fares s t := by
  simp only [State.stock, Prod.mk.injEq] at h
  obtain ⟨hg, hw, hb⟩ := h
  have hbb := hb
  simp only [State.berth, Prod.mk.injEq] at hbb
  obtain ⟨-, -, hr, hp⟩ := hbb
  exact of_grid hg hw (positionInv_berth hb (congrArg Grid.active hg)) hr fun e => by rwa [hp]

end Fares

/-! ### Cascades -/

/-- The act on heater demand and level leaves them those of the zones, the mode and the frost demand (R126). -/
theorem heatDemand_heatInv (s : State) : (heatDemand s).1.HeatInv := ⟨rfl, rfl⟩

theorem settle_heatInv : ∀ (k : Nat) {r : Run}, (r.st.HeatInv ∨ .heatDemand ∈ r.work) → (settle k r).overrun = false →
    (settle k r).HeatInv
  | 0, r, h, ho => by
    unfold settle at ho ⊢
    split at ho
    · next e =>
      rw [if_pos e]
      exact h.resolve_right fun hm => by rw [List.isEmpty_iff.1 e] at hm; cases hm
    · cases ho
  | k + 1, r, h, ho => by
    cases hw : r.work with
    | nil =>
      rw [settle_done _ _ hw]
      exact h.resolve_right fun hm => by rw [hw] at hm; cases hm
    | cons a l =>
      have e : settle (k + 1) r = settle k (perform a { r with work := l }) := by rw [settle, hw]
      rw [e] at ho ⊢
      refine settle_heatInv k ?_ ho
      by_cases ha : a = .heatDemand
      · subst ha
        exact .inl (heatDemand_heatInv r.st)
      · obtain ⟨p, hp⟩ := perform_pushes a { r with work := l }
        rw [hp.work]
        rcases hp.heat ha with hwarm | hmem
        · rcases h with h | h
          · exact .inl (heatInv_warmth hwarm h)
          · rw [hw] at h
            exact .inr (List.mem_append_right _ ((List.mem_cons.1 h).resolve_left fun e => ha e.symm))
        · exact .inr (List.mem_append_left _ hmem)

/-- The part of the steady state that is watched here. -/
theorem berth_of_steady (h : t.steady = s.steady) : t.berth = s.berth := by
  have ha : (t.movers.awning.position, t.movers.awning.known) = (s.movers.awning.position, s.movers.awning.known) :=
    congrArg Steady.awning h
  have hst : (t.movers.step.position, t.movers.step.known) = (s.movers.step.position, s.movers.step.known) := congrArg Steady.step h
  have hr : t.pins = s.pins := congrArg Steady.pins h
  have hp : t.charge.power = s.charge.power := congrArg Steady.power h
  rw [State.berth, State.berth, ha, hst, hr, hp]

/-- A cascade that begins where the state has changed beside outlets and positions, and with what changes the heat on the stack. -/
theorem settle_fares (k : Nat) (hg : r.st.grid = s.grid) (hw : r.st.warmth = s.warmth ∨ .heatDemand ∈ r.work)
    (hb : r.st.berth = s.berth) (hcalm : ∀ a ∈ r.work, a.Among Act.calm) (ht : r.TripsStand) : Fares s (settle k r) := by
  have hsteady := settle_steady k r
  have hberth : (settle k r).berth = s.berth := (berth_of_steady hsteady).trans hb
  have hstore : (settle k r).store.active = s.store.active :=
    (congrArg (fun x : Steady => x.store.active) hsteady :).trans (congrArg Grid.active hg)
  simp only [State.berth, Prod.mk.injEq] at hberth
  have hover : (settle k r).overrun = false → r.st.overrun = false := fun ho => (settle_sound k r ho).1
  exact {
    idle := fun hs => settle_keeps (P := fun t => ∀ o, (outlet t o).Idle) (fun a q h o => (perform_turns a q).idle o (h o))
      (fun _ _ h => h) k r fun o => idle_grid hg (hs o)
    free := fun hs => settle_keeps (P := fun t => ∀ o, (outlet t o).Free) (fun a q h o => (perform_turns a q).free o (h o))
      (fun _ _ h => h) k r fun o => free_grid hg (hs o)
    clear := fun ho hs => settle_clear (.inl ⟨fun o _ => clearAt_grid hg (hs o), hcalm⟩) ht ho
    drain := fun hs => (configuredClass_active hstore 1).trans hs
    kept := fun hs => settle_keeps (P := fun t => (outlet t 2).held = true → t.retained.heater = true)
      (fun a q h => (perform_turns a q).kept h) (fun _ _ h => h) k r (kept_grid hg hs)
    heat := fun ho hs => settle_heatInv k (hw.imp_left fun e => heatInv_warmth e hs) ho
    position := positionInv_berth ((berth_of_steady hsteady).trans hb) hstore
    overrun := fun ho => (congrArg Grid.overrun hg).symm.trans (hover ho)
    reset := hberth.2.2.1
    awake := fun hs => by rwa [hberth.2.2.2] }

/-- What a command begins a cascade with: acts that neither re-judge an outlet nor decide a request of the HEATER SUPPLY. -/
def Launch (l : List Act) : Prop := ∀ a ∈ l, a.Among Act.calm ∧ a.Among (Act.passes 2)

theorem launch_outward (h : Outward l) : Launch l := fun a ha =>
  have ho := outward_iff.1 h a ha
  ⟨Act.calm_outward ho, Act.passes_outward ho 2⟩

theorem tripsStand_begin (hl : Launch l) (k : Nat) : ({ st := s, work := l, evals := k } : Run).TripsStand :=
  ⟨fun _ hc => absurd hc (List.not_mem_nil), .inl fun a ha => (hl a ha).2⟩

theorem run_fares (hl : Launch l) (s : State) : Fares s (run l s) :=
  settle_fares cascadeBound (r := { st := s, work := l }) rfl (.inl rfl) rfl (fun a ha => (hl a ha).1) (tripsStand_begin hl 0)

theorem run_outward (hl : Outward l) (s : State) : Fares s (run l s) := run_fares (launch_outward hl) s

theorem runEval_fares (hl : Launch l) (s : State) : Fares s (runEval l s) :=
  settle_fares cascadeBound (r := { st := s, work := l, evals := 1 }) rfl (.inl rfl) rfl (fun a ha => (hl a ha).1)
    (tripsStand_begin hl 1)

theorem launch_handOut (l : List Change) : Launch (handOut l) := fun a ha =>
  have h := among_handOut l a ha
  ⟨h.imp fun _ => Act.calm_of_mild, h.imp fun _ => Act.passes_of_mild 2⟩

/-- A reaction and its cascade. -/
theorem runReact_fares {f : State → React} (h : Civil s (f s)) (hb : (f s).1.berth = s.berth) : Fares s (runReact f s) :=
  have hl := launch_outward h.acts
  settle_fares cascadeBound (r := { st := (f s).1, work := (f s).2 }) h.grid h.heat hb (fun a ha => (hl a ha).1) (tripsStand_begin hl 0)

theorem runEach_fares {l : List Act} (h : Outward l) : ∀ s : State, Fares s (runEach l s) := by
  induction l with
  | nil => exact Fares.refl
  | cons a l ih =>
    obtain ⟨ha, hl⟩ := outward_cons.1 h
    exact fun s => (run_outward (outward_cons.2 ⟨ha, outward_nil⟩) s).trans (ih hl _)

/-- A cascade after something that fares well. -/
theorem Fares.then_run (h : Fares s t) (hl : Outward l) : Fares s (run l t) := h.trans (run_outward hl t)

/-- R83: an outlet in TRIPPED is cleared. -/
theorem clearTrip_fares {o : Fin 16} (n : Fin 32) (ht : (outlet s o).state = .tripped) :
    Fares s (run [.action [.clearTrip o, .flush, .tripDone n o]] s) := by
  have hstep : run [.action [.clearTrip o, .flush, .tripDone n o]] s =
      settle 9999 { st := s, work := [.clearTrip o, .flush, .tripDone n o, .flush, .actEnd, .restore false], acting := 1 } := rfl
  rw [hstep]
  refine settle_fares _ rfl (.inl rfl) rfl (by simp [Act.Among, Act.calm]) ⟨fun _ hc => absurd hc List.not_mem_nil, ?_⟩
  by_cases ho : o = 2
  · subst ho
    refine .inr ⟨[], .clearTrip 2, [.flush, .tripDone n 2, .flush, .actEnd, .restore false], rfl, nofun, rfl, ?_, ?_, nofun⟩
    · simp [Act.Among, Act.passes, Act.decides]
    · rw [ht]; decide
  · exact .inl (by simp [Act.Among, Act.passes, Act.decides, ho])

theorem trip_launch (o : Fin 16) : Launch [.action [.trip o]] := fun a ha => by
  rw [List.mem_singleton.1 ha]
  simp [Act.Among, Act.calm, Act.passes, Act.decides]

theorem finish_stock (n : Fin 32) (f : Finish) (s : State) : (finish n f s).stock = s.stock := by
  have h := finish_sansOrders n f s
  exact (congrArg State.stock h :)

theorem finish_fares (n : Fin 32) (f : Finish) (s : State) : Fares s (finish n f s) := .of_stock (finish_stock n f s)

theorem Fares.then_finish {n : Fin 32} {f : Finish} (h : Fares s t) : Fares s (finish n f t) := h.trans (finish_fares n f t)

end Sys2Proof.Machine
end

section
/-!
SUPPORT. How outlets, heat and positions fare under the host accesses and the orders.
-/
namespace Sys2Proof.Machine

variable {s t u : State}

/-! ### Rest, waking, accesses and closes -/

/-- A change of the power state, but to STARTING. -/
theorem setPower_fares {p : PowerState} (hp : p ≠ .starting) (s : State) : Fares s (setPower p s) :=
  .of_grid rfl rfl id rfl fun _ => hp

theorem overNodes_stock (f : Fin 12 → Node → Node) (l : List (Fin 12)) : ∀ s : State, (overNodes f l s).stock = s.stock := by
  induction l with
  | nil => exact fun _ => rfl
  | cons i l ih => exact fun s => (ih _).trans rfl

theorem enterRest_fares (s : State) : Fares s (enterRest s) := by
  have hrun : Fares s (run [.signal .rest 1] (setPower .rest s)) := (setPower_fares (by decide) s).then_run rfl
  have hscale : ∀ t, Fares t (raise .energy (bit 2) (syncPart .charge (restScale t))) := fun t =>
    .of_stock ((rfl : (raise .energy (bit 2) (syncPart .charge (restScale t))).stock = (restScale t).stock).trans
      (overNodes_stock _ _ t))
  exact hrun.trans (hscale _)

theorem wake_fares (s : State) : Fares s (wake s) := by
  have hrun : Fares s (run [.signal .rest 0] (setPower .active s)) := (setPower_fares (by decide) s).then_run rfl
  have hdue : ∀ k t, Fares t (raise .energy (bit 3) (syncPart .charge (allDue k t))) := fun k t =>
    .of_stock ((rfl : (raise .energy (bit 3) (syncPart .charge (allDue k t))).stock = (allDue k t).stock).trans
      (overNodes_stock _ _ t))
  exact hrun.trans (hdue _ _)

theorem close_fares (s : State) : Fares s (close s) := .of_stock (by
  obtain ⟨d, h⟩ := syncAll_digest parts s
  rw [close, h]
  rfl)

theorem closeFrom_fares (old s : State) : Fares s (closeFrom old s) := .of_stock (by
  obtain ⟨d, h⟩ := closeFrom_digest old s
  rw [h]
  rfl)

theorem setIdle_fares (k : Nat) (s : State) : Fares s (setIdle k s) := .of_stock rfl

theorem access_fares (s : State) : Fares s (access s) := by
  unfold access
  split
  · exact (wake_fares s).trans (close_fares _)
  · exact setIdle_fares 0 s

theorem wakeEvent_fares (s : State) : Fares s (wakeEvent s) := by
  unfold wakeEvent
  split
  · exact wake_fares s
  · exact setIdle_fares 0 s

theorem inRun_fares {f : State → State} (h : Fares s (f s)) : Fares s (inRun f s) := by
  unfold inRun
  split
  · exact h.trans (close_fares _)
  · exact .refl s

theorem live_fares {f : State → State} (h : Fares s (f s)) : Fares s (live f s) := by
  unfold live
  split
  · exact .refl s
  · exact h.trans (closeFrom_fares s _)

/-! ### Host accesses -/

theorem hostRead_fares (a : BitVec 13) (s : State) : Fares s (hostReadOf a s) := by
  unfold hostReadOf
  split
  · exact .of_stock rfl
  · have hbus : ∀ (w : Word) (t : State), Fares t (setBus w t) := fun _ _ => .of_stock rfl
    exact ((access_fares s).trans (hbus _ _)).trans (closeFrom_fares s _)

theorem OnlyLights.stock (h : OnlyLights s t) : t.stock = s.stock := by
  obtain ⟨_, rfl⟩ := h
  rfl

theorem cancelRecall_civil (n : Fin 32) (s : State) : Civil s (cancelRecall n s) := by
  obtain ⟨hg, hw⟩ := (cancelRecall_onlyLights n s).grid
  refine ⟨hg, .inl hw, ?_⟩
  unfold cancelRecall
  simp only
  refine outward_append.2 ⟨outward_iff.2 fun a ha => ?_, rfl⟩
  obtain ⟨c, -, hc⟩ := List.mem_flatMap.1 ha
  exact outward_iff.1 (outward_lightDemand _ c) a hc

theorem tellCancel_civil (n : Fin 32) (s : State) : Civil s (tellCancel n s) := by
  unfold tellCancel
  split
  · exact ⟨rfl, .inl rfl, rfl⟩
  · exact ⟨rfl, .inl rfl, by split <;> rfl⟩
  · exact cancelRecall_civil n s
  · unfold cancelStore
    split <;> exact ⟨rfl, .inl rfl, rfl⟩
  · exact civil_nil s

theorem tellCancel_berth (n : Fin 32) (s : State) : (tellCancel n s).1.berth = s.berth := by
  unfold tellCancel
  split
  case h_3 =>
    obtain ⟨_, h⟩ := cancelRecall_onlyLights n s
    rw [h]
    rfl
  case h_4 => unfold cancelStore; split <;> rfl
  all_goals rfl

theorem portFault_stock (k : PortFault) (a : BitVec 13) (s : State) : (portFault k a s).stock = s.stock := by
  unfold portFault; split <;> rfl

theorem clearPending_stock (l : List Group) (s : State) : (clearPending l s).stock = s.stock := by
  have hdrop : ∀ (l : List Group) (t : State), (l.foldl (fun t g => dropGroup g t) t).stock = t.stock := fun l => by
    induction l with
    | nil => exact fun _ => rfl
    | cons g l ih => exact fun t => (ih _).trans (congrArg State.stock (dropGroup_outside g t t.port) :)
  unfold clearPending
  split
  · rfl
  · exact (rfl : (digestUpdate _ _).stock = _).trans (hdrop _ s)

theorem stateWrite_fares (n : Fin 32) (v : Word) (a : BitVec 13) (s : State) : Fares s (stateWrite n v a s) := by
  have hfault : Fares s (portFault .slotState a s) := .of_stock (portFault_stock _ _ s)
  have hcancel : Fares s (cancelTaken n s) :=
    (Fares.of_stock (s := s) (t := setSlotState n .cancel s) rfl).trans (runReact_fares (tellCancel_civil n _) (tellCancel_berth n _))
  have hpost : (post n s).stock = s.stock := by unfold post; simp only; split <;> rfl
  have hgive : (giveBack n s).stock = s.stock := by
    unfold giveBack
    simp only
    split
    · exact clearPending_stock _ _
    · rfl
  have hfinished : Fares s (if v = 3 then s else if v = 0 then giveBack n s else portFault .slotState a s) := by
    split
    · exact .refl s
    · split
      · exact .of_stock hgive
      · exact hfault
  unfold stateWrite
  split
  case h_1 => split; exacts [.of_stock hpost, hfault]
  case h_2 => split; exacts [.of_stock rfl, hfault]
  case h_3 => split; exacts [hcancel, hfault]
  case h_4 => exact hfault
  all_goals exact hfinished

theorem store_fares (a : BitVec 13) (v : Word) (s : State) : Fares s (store a v s) := by
  have hfault : ∀ k, Fares s (portFault k a s) := fun k => .of_stock (portFault_stock k a s)
  have hslot : ∀ n i, Fares s (slotWrite n i v a s) := fun n i => by
    unfold slotWrite
    split
    case h_4 => exact hfault _
    all_goals exact .of_stock rfl
  have hscene : Fares s (sceneStore a.toNat v s) := .of_stock (by unfold sceneStore invalidate; split <;> rfl)
  have hregister : Fares s (if a.toNat = 0x1001 then controlWrite v s else if a.toNat = 0x1002 then clearGroups v groups s
      else if a.toNat = 0x1003 then maskWrite v s
      else if a.toNat = 0x1000 ∨ a.toNat = 0x1004 ∨ a.toNat = 0x1005 then portFault .readOnly a s
      else portFault .unmapped a s) := by
    split
    · exact .of_stock rfl
    · split
      · exact .of_stock (clearPending_stock _ s)
      · split
        · exact .of_stock rfl
        · split <;> exact hfault _
  unfold store
  simp only
  split
  · split
    · exact stateWrite_fares _ v a s
    · exact hslot _ _
  · split
    · exact hfault _
    · split
      · exact hscene
      · split
        · exact .of_stock rfl
        · split
          · exact hfault _
          · split
            · exact .of_stock rfl
            · exact hregister

/-- A part that starts, or starts anew (R25 to R27, R187). -/
inductive Starts (s : State) : State → Prop
  | powerOn : Starts s (powerOn s)
  | assert (d : Bool) (h : s.pins.reset = false) : Starts s (resetAssert d s)
  | release (h : s.pins.reset = true) : Starts s (resetRelease s)
  | restart (h : s.pins.reset = false) : Starts s (restart s)

theorem hostWrite_fares (a : BitVec 13) (v : Word) (s : State) : Fares s (hostWrite a v s) ∨ Starts s (hostWrite a v s) := by
  unfold hostWrite
  split
  · exact .inl (.refl s)
  · next hr =>
    split
    · exact .inr (.restart (by simpa using hr))
    · exact .inl (((access_fares s).trans (store_fares a v _)).trans (closeFrom_fares s _))

/-! ### Orders -/

theorem dispatchSlot_fares {k : Kind} {body : Fin 32 → State → State} {n : Fin 32} (h : ∀ t, Fares t (body n t)) :
    Fares s (dispatchSlot k body n s) := by
  unfold dispatchSlot
  split
  · exact finish_fares n _ s
  · split
    · exact finish_fares n _ s
    · exact h s
    · next f _ => exact .trans (t := claimFollower n f s) (.of_stock rfl) (h _)

theorem order_fares {k : Kind} {body : Fin 32 → State → State} (h : ∀ n t, Fares t (body n t)) (s : State) :
    Fares s (inRun (dispatch k body) s) := by
  refine inRun_fares ?_
  unfold dispatch
  split
  · next n _ =>
    split
    · exact (Fares.of_stock (s := s) (t := takeSlot n s) rfl).trans (dispatchSlot_fares (h n))
    · exact .refl s
  · exact .refl s

theorem dispatchBad_fares (s : State) : Fares s (dispatchBad s) := by
  unfold dispatchBad
  split
  · next n _ =>
    split
    · exact (Fares.of_stock (s := s) (t := takeSlot n s) rfl).trans (finish_fares n _ _)
    · exact .refl s
  · exact .refl s

section
variable (n : Fin 32) (s)

theorem chargeSet_fares : Fares s (chargeSet n s) :=
  .then_finish (.then_run (.of_stock rfl) rfl)

theorem shedFloor_fares : Fares s (shedFloor n s) :=
  .then_finish (.then_run (.of_stock rfl) rfl)

theorem restNow_fares : Fares s (restNow n s) := by
  unfold restNow
  split
  · exact finish_fares n _ s
  · split
    · exact (enterRest_fares s).trans (finish_fares n _ _)
    · exact finish_fares n _ s

theorem auxSet_fares : Fares s (auxSet n s) :=
  .then_finish (run_outward (by exact rfl) s)

theorem tripClear_fares : Fares s (tripClear n s) := by
  unfold tripClear
  simp only
  split
  · next h => exact clearTrip_fares n h
  · exact finish_fares n _ s

theorem termsLoad_fares : Fares s (termsLoad n s) := by
  unfold termsLoad
  split
  · exact finish_fares n _ s
  · have hload : Fares s (replaceTerms (stagedTerms s (p s n 0)) s).1 := .of_stock rfl
    exact (hload.trans (runEval_fares (launch_handOut _) _)).trans (finish_fares n _ _)

theorem pumpModeSet_fares (auto : Bool) : Fares s (pumpModeSet auto s) := by
  unfold pumpModeSet
  split
  · exact .refl s
  · simp only
    split
    · exact .of_stock rfl
    · split
      · split
        · exact .then_run (.of_stock rfl) rfl
        · exact .of_stock rfl
      · exact .then_run (.of_stock rfl) rfl

theorem pumpMode_fares : Fares s (pumpMode n s) := (pumpModeSet_fares s _).trans (finish_fares n _ _)

theorem pumpReset_fares : Fares s (pumpReset n s) := by
  unfold pumpReset
  split
  · exact finish_fares n _ s
  · split
    · exact finish_fares n _ s
    · exact (runReact_fares (pumpLeaveDry_civil s) rfl).trans (finish_fares n _ _)

theorem fill_fares : Fares s (fill n s) := by
  unfold fill
  split
  · exact finish_fares n _ s
  · split
    · exact finish_fares n _ s
    · split
      · exact finish_fares n _ s
      · unfold acceptFill
        simp only
        split <;> exact .then_run (.of_stock rfl) rfl

theorem drainDump_fares : Fares s (drainDump n s) := .then_finish (run_outward (by exact rfl) s)

theorem closeDrain_fares : Fares s (closeDrain s) := by
  unfold closeDrain
  have h1 : Fares s (setHeld 1 false (run [.req (.withdraw 1)] s)) :=
    .trans (run_outward (by exact rfl) s) (.of_grid (setHeld_grid _ (by decide) false) rfl id rfl id)
  generalize setHeld 1 false (run [.req (.withdraw 1)] s) = s1 at h1
  have h2 : Fares s1 (setLatch false (run [.signal .drainOpen 0] s1)) := .trans (run_outward (by exact rfl) s1) (.of_stock rfl)
  simp only
  generalize setLatch false (run [.signal .drainOpen 0] s1) = s2 at h2
  have h3 : Fares s2 (run [.signal .frostStage 0] (setFrost (fun f => { f with stage := .watch }) s2)) :=
    .then_run (.of_stock rfl) rfl
  generalize run [.signal .frostStage 0] (setFrost (fun f => { f with stage := .watch }) s2) = s3 at h3
  have h4 : Fares s3 (showAction [.water] [] (raise .water (bit 1 ||| bit 6) s3)) := .of_stock rfl
  generalize showAction [.water] [] (raise .water (bit 1 ||| bit 6) s3) = s4 at h4
  have h := ((h1.trans h2).trans h3).trans h4
  split
  · exact h.then_run rfl
  · exact h

theorem drainClose_fares : Fares s (drainClose n s) := by
  unfold drainClose
  split
  · exact finish_fares n _ s
  · split
    · exact finish_fares n _ s
    · split
      · exact finish_fares n _ s
      · exact (closeDrain_fares s).trans (finish_fares n _ _)

theorem setMode_fares (m : ClimateMode) : Fares s (setMode m s) := by
  have hchange : Fares s (runReact (climateChange fun c => { c with mode := m }) s) := runReact_fares (climateChange_civil s _) rfl
  unfold setMode
  split
  · exact .refl s
  · simp only
    split
    · exact hchange.then_run rfl
    · exact hchange

theorem climateMode_fares : Fares s (climateMode n s) := (setMode_fares s _).trans (finish_fares n _ _)

/-- A zone's record changes beside its demand and deficit. -/
theorem setZone_warmth (z : Fin 3) (x : Zone) (h : (x.demand, x.deficit) = ((zone s z).demand, (zone s z).deficit)) :
    (setZone z x s).warmth = s.warmth := by
  have hz : (s.climate.zones.set z x).map (fun z => (z.demand, z.deficit)) = s.climate.zones.map fun z => (z.demand, z.deficit) := by
    ext i hi
    · simp only [Vector.getElem_map, Vector.getElem_set]
      split
      · next e => subst e; exact congrArg (·.1) h
      · rfl
    · simp only [Vector.getElem_map, Vector.getElem_set]
      split
      · next e => subst e; exact congrArg (·.2) h
      · rfl
  exact congrArg (fun v => (s.climate.mode, s.climate.frost, v, s.climate.demand, s.climate.level)) hz

theorem setHost_fares (z : Fin 3) (target : Int) (on : Bool) : Fares s (setHost z target on s) := by
  have hset : ∀ x : Zone, (x.demand, x.deficit) = ((zone s z).demand, (zone s z).deficit) → Fares s (setZone z x s) := fun x hx =>
    .of_grid rfl (setZone_warmth s z x hx) id rfl id
  unfold setHost
  simp only
  split
  · exact hset _ rfl
  · exact (hset { zone s z with hostTarget := target, hostOn := on, target := target, on := on } rfl).trans
      (runReact_fares (zoneFollow_civil _ z) rfl)

theorem zoneSet_fares : Fares s (zoneSet n s) := (setHost_fares s _ _ _).trans (finish_fares n _ _)

theorem heaterClear_fares : Fares s (heaterClear n s) := by
  unfold heaterClear
  split
  · exact .then_finish (.then_run (.of_stock rfl) rfl)
  · exact finish_fares n _ s

/-- A mover's record changes beside its position. -/
theorem setMover_stock (m : Mover) (x : MoverRec) (h : (x.position, x.known) = ((mover s m).position, (mover s m).known)) :
    (setMover m x s).stock = s.stock := by
  have hb : (setMover m x s).berth = s.berth := by
    cases m
    · exact congrArg (fun q => (q, (s.movers.step.position, s.movers.step.known), s.pins.reset, s.charge.power)) h
    · exact congrArg (fun q => ((s.movers.awning.position, s.movers.awning.known), q, s.pins.reset, s.charge.power)) h
  exact Prod.ext (setMover_grid s m x) (Prod.ext (setMover_warmth s m x) hb)

theorem leaveStalled_stock (m : Mover) : (leaveStalled m s).stock = s.stock := by
  unfold leaveStalled
  simp only
  split
  · exact setMover_stock s m _ rfl
  · rfl

theorem setMove_fares (m : Mover) (v : Option Move) : Fares s (setMover m { mover s m with move := v } s) :=
  .of_stock (setMover_stock s m _ rfl)

theorem acceptMove_fares : Fares s (acceptMove n s) := by
  have hleave : Fares s (leaveStalled (moverArg s n) (takeLong n .movers s)) :=
    .trans (t := takeLong n .movers s) (.of_stock rfl) (.of_stock (leaveStalled_stock _ _))
  unfold acceptMove
  simp only
  generalize leaveStalled (moverArg s n) (takeLong n .movers s) = u at hleave ⊢
  have hbegin : Fares s (run [.stowSignal (moverArg s n)] (setMover (moverArg s n) _ u)) :=
    (hleave.trans (setMove_fares u (moverArg s n) (some (hostMove n s)))).then_run rfl
  split <;> (refine hbegin.then_run ?_; rfl)

theorem move_fares : Fares s (move n s) := by
  unfold move
  simp only
  split
  · exact finish_fares n _ s
  · split
    · exact finish_fares n _ s
    · split
      · exact finish_fares n _ s
      · split
        · exact finish_fares n _ s
        · exact acceptMove_fares s n

theorem setPending_stock (m : Mover) (b : Bool) : (setPending m b s).stock = s.stock := by cases m <;> rfl

theorem moverStop_fares : Fares s (moverStop n s) :=
  .then_finish (.trans (.then_run (.of_stock (setPending_stock s (moverArg s n) false)) (by exact rfl))
    (.of_stock (setPending_stock _ (moverArg s n) false)))

theorem lookup_stock (k : Fin 32) : (lookup k s).1.stock = s.stock := by unfold lookup; simp only; (repeat' split) <;> rfl

theorem sceneRecall_fares : Fares s (sceneRecall n s) := by
  unfold sceneRecall
  split
  · exact finish_fares n _ s
  · have h := lookup_stock s (Fin.ofNat 32 (p s n 0))
    split
    · next e => rw [e] at h; exact (Fares.of_stock h).trans (finish_fares n _ _)
    · next t l hit e =>
      rw [e] at h
      exact .then_run (.trans (.of_stock h) (.of_stock rfl)) rfl

theorem lightSet_fares : Fares s (lightSet n s) := by
  unfold lightSet
  split
  · exact finish_fares n _ s
  · exact .then_run (.of_stock rfl) rfl

theorem settingsFetch_fares : Fares s (settingsFetch n s) := by
  have hwindow : ∀ m, Fares s { s with ram := { s.ram with window := m } } := fun _ => .of_stock rfl
  exact (hwindow _).trans (finish_fares n _ _)

theorem settingsStore_fares : Fares s (settingsStore n s) := by
  unfold settingsStore
  split
  · exact finish_fares n _ s
  · split
    · exact .of_stock rfl
    · exact finish_fares n _ s

end

end Sys2Proof.Machine
end

section
/-!
SUPPORT. How outlets, heat and positions fare under the commands beside the host's and the orders; every command.
-/
namespace Sys2Proof.Machine

variable {s t u : State}

section
variable (s)

/-! ### Store events and the start -/

theorem endStore_fares (f : Finish) : Fares s (endStore f s) := by
  unfold endStore
  simp only
  split
  · exact .then_finish (.of_stock rfl)
  · exact .of_stock rfl

theorem setFlash_fares (f : Flash) : Fares s (setFlash f s) := .of_stock rfl
theorem setPhase_fares (x : StorePhase) : Fares s (setPhase x s) := .of_stock rfl

theorem validateEnd_fares : Fares s (validateEnd s) := by
  unfold validateEnd
  split
  · split
    · exact endStore_fares s _
    · split
      · exact .of_stock rfl
      · exact endStore_fares s _
  · exact .refl s

theorem eraseEnd_fares (ok : Bool) : Fares s (eraseEnd ok s) := by
  unfold eraseEnd
  split
  · split
    · exact .of_stock rfl
    · exact endStore_fares s _
  · exact .refl s

theorem programEnd_fares (ok : Bool) : Fares s (programEnd ok s) := by
  unfold programEnd
  split
  · split
    · exact (setFlash_fares s _).trans (setPhase_fares _ _)
    · exact endStore_fares s _
  · exact .refl s

theorem verifyEnd_fares (l : List FlashCell) : Fares s (verifyEnd l s) := by
  unfold verifyEnd
  split
  · split
    · exact endStore_fares s _
    · next c cs _ =>
      generalize Mem.writeCells 0xFFFF s.store.flash.cells ((c :: cs).map fun d => (d.offset, d.word)) = m
      exact (setFlash_fares s _).trans (endStore_fares _ _)
  · exact .refl s

theorem timeoutIn_fares (x : StorePhase) (r : Nat) : Fares s (timeoutIn x r s) := by
  unfold timeoutIn
  split
  · exact endStore_fares s _
  · exact .refl s

theorem linkChoose_stock (k : Nat) : (linkChoose k s).stock = s.stock := by
  obtain ⟨_, h⟩ := linkChoose_outside k s
  rw [h]
  rfl

theorem linkBegins_stock (k : Nat) : (linkBegins k s).stock = s.stock := by
  have hdue : (startDue k s).stock = s.stock := overNodes_stock _ _ s
  unfold linkBegins
  simp only
  split
  · exact (linkChoose_stock _ k).trans hdue
  · exact hdue

theorem quietEnd_stock (k : Nat) : (quietEnd k s).stock = s.stock := by
  unfold quietEnd
  split
  · simp only
    split
    · rfl
    · exact (linkBegins_stock _ _).trans rfl
  · rfl

theorem initialEvaluation_fares : Fares s (initialEvaluation s) := by
  have h : (evaluate (fun _ => true) (fun _ => true) { s with interlock := { s.interlock with evaluated := true } }).1.stock =
      s.stock := rfl
  exact (Fares.of_stock h).trans (runEval_fares (launch_handOut _) _)

theorem serviceInput_fares (b : Bool) : Fares s (if s.pins.reset then setService b s else closeFrom s (setService b s)) := by
  have h : Fares s (setService b s) := .of_stock rfl
  split
  · exact h
  · exact h.trans (closeFrom_fares s _)

theorem runEach_launch {l : List Act} (h : Launch l) : ∀ s : State, Fares s (runEach l s) := by
  induction l with
  | nil => exact Fares.refl
  | cons a l ih =>
    have ha : Launch [a] := fun b hb => h b (List.mem_cons.2 (.inl (List.mem_singleton.1 hb)))
    exact fun s => (run_fares ha s).trans (ih (fun b hb => h b (List.mem_cons_of_mem a hb)) _)

/-- R187: the owners of the blocks ask; the report of a tripped supply re-judges nothing. -/
theorem launch_activeActs : Launch (activeActs s) := by
  have hreport : Launch [.report 2 .on .tripped] := fun a ha => by
    rw [List.mem_singleton.1 ha]
    exact ⟨rfl, rfl⟩
  have hif : ∀ (c : Prop) [Decidable c] (l : List Act), Launch l → Launch (if c then l else []) := fun c _ l hl => by
    split
    · exact hl
    · exact nofun
  have happend : ∀ l m : List Act, Launch l → Launch m → Launch (l ++ m) := fun l m hl hm a ha =>
    (List.mem_append.1 ha).elim (hl a) (hm a)
  unfold activeActs
  refine happend _ _ (happend _ _ (happend _ _ (happend _ _ (happend _ _ (happend _ _ ?_ ?_) ?_) ?_) ?_) ?_) ?_
  case refine_5 => exact hif _ _ hreport
  all_goals exact hif _ _ (launch_outward rfl)

theorem startComplete_fares : Fares s (startComplete s) := by
  unfold startComplete
  split
  · exact .refl s
  · have hfull : ∀ t : State, Fares t (fullUpdate t) := fun _ => .of_stock rfl
    have hactive : ∀ t : State, Fares t (becomeActive t) := fun t => .of_grid rfl rfl id rfl fun _ => nofun
    have hdue : ∀ t : State, (recordsDue t).stock = t.stock := fun t => by
      unfold recordsDue
      split
      · rfl
      · exact linkBegins_stock t _
    have h := (((initialEvaluation_fares s).trans (hfull _)).trans (hactive _)).trans (.of_stock (hdue _))
    simp only
    generalize recordsDue (becomeActive (fullUpdate (initialEvaluation s))) = t at h
    have hacts : Fares t (runEach (activeActs t) (clearStop t)) :=
      Fares.trans (t := clearStop t) (.of_stock rfl) (runEach_launch (launch_activeActs t) _)
    exact (h.trans hacts).trans (close_fares _)

/-! ### The second close -/

theorem fullSecond_fares (v : Nat) (a : Int) : Fares s (runReact (fullSecond v a) s) := by
  have h : Civil s (fullSecond v a s) ∧ (fullSecond v a s).1.berth = s.berth := by
    unfold fullSecond
    simp only
    split <;> exact ⟨⟨rfl, .inl rfl, rfl⟩, rfl⟩
  exact runReact_fares h.1 h.2

theorem emptySecond_fares (v : Nat) (a : Int) : Fares s (runReact (emptySecond v a) s) := by
  have h : Civil s (emptySecond v a s) ∧ (emptySecond v a s).1.berth = s.berth := by
    unfold emptySecond
    simp only
    split <;> exact ⟨⟨rfl, .inl rfl, rfl⟩, rfl⟩
  exact runReact_fares h.1 h.2

theorem floorSecond_fares (v : Nat) : Fares s (runReact (floorSecond v) s) := by
  have h : Civil s (floorSecond v s) ∧ (floorSecond v s).1.berth = s.berth := by
    unfold floorSecond
    simp only
    split <;> split <;> exact ⟨⟨rfl, .inl rfl, rfl⟩, rfl⟩
  exact runReact_fares h.1 h.2

theorem chargeSecond_fares (v : Nat) (a : Int) : Fares s (chargeSecond v a s) := by
  have hbank : Fares s (tallySecond a (setBank v a s)) := .of_stock rfl
  have hkeep : ∀ t, Fares t (keepTally t) := fun _ => .of_stock rfl
  have h := (((hbank.trans (fullSecond_fares _ v a)).trans (emptySecond_fares _ v a)).trans (hkeep _)).trans (floorSecond_fares _ v)
  exact h.then_run rfl

theorem idleSecond_fares : Fares s (idleSecond s) := by
  have hset : Fares s (setIdle (s.charge.idle + 1) s) := setIdle_fares _ s
  unfold idleSecond
  split
  · simp only
    split
    · exact hset.trans (enterRest_fares _)
    · exact hset
  · exact .refl s

theorem windSecond_fares : Fares s (runReact windSecond s) := by
  have h : Civil s (windSecond s) ∧ (windSecond s).1.berth = s.berth := by
    unfold windSecond
    simp only
    split <;> split
    case isFalse.isTrue => exact ⟨⟨rfl, .inl rfl, outward_append.2 ⟨rfl, by split <;> rfl⟩⟩, rfl⟩
    all_goals exact ⟨⟨rfl, .inl rfl, rfl⟩, rfl⟩
  exact runReact_fares h.1 h.2

theorem windClose_fares : Fares s (windClose s) := by
  have h : Fares s (if windCrossed s && s.charge.power != .starting then wakeEvent s else s) := by
    split
    · exact wakeEvent_fares s
    · exact .refl s
  exact h.trans (windSecond_fares _)

/-- A reaction that is civil and leaves the positions as they are. -/
def Staid (s : State) (x : React) : Prop := Civil s x ∧ x.1.berth = s.berth

theorem Staid.of_stock {x : React} (h : x.1.stock = s.stock) (hl : Outward x.2) : Staid s x := by
  simp only [State.stock, Prod.mk.injEq] at h
  exact ⟨⟨h.1, .inl h.2.1, hl⟩, h.2.2⟩

theorem Staid.fares {f : State → React} (h : Staid s (f s)) : Fares s (runReact f s) := runReact_fares h.1 h.2

theorem setNode_stock (i : Fin 12) (x : Node) : (setNode i x s).stock = s.stock := rfl

theorem setZone_stock (z : Fin 3) (x : Zone) (h : (x.demand, x.deficit) = ((zone s z).demand, (zone s z).deficit)) :
    (setZone z x s).stock = s.stock :=
  Prod.ext (rfl : (setZone z x s).grid = s.grid) (Prod.ext (setZone_warmth s z x h) rfl)

theorem handReading_staid (i : Fin 12) (b : Bool) : Staid s (handReading i b s) := by
  unfold handReading
  split
  case h_4 => exact .of_stock s (setZone_stock s _ _ rfl) rfl
  all_goals exact .of_stock s rfl rfl

theorem handStale_staid (i : Fin 12) : Staid s (handStale i s) := by
  unfold handStale
  split
  · exact .of_stock s rfl rfl
  · exact handReading_staid s i false

theorem handLoss_staid (i : Fin 12) : Staid s (handLoss i s) := by
  unfold handLoss
  split <;> exact .of_stock s rfl rfl

theorem testStale_staid (i : Fin 12) : Staid s (testStale i s) := by
  unfold testStale
  simp only
  split
  · split
    · obtain ⟨⟨hg, hw, ha⟩, hb⟩ := handStale_staid (setNode i { node s i with stale := true } s) i
      exact ⟨⟨hg, hw, ha⟩, hb⟩
    · exact .of_stock s rfl rfl
  · exact .of_stock s rfl rfl

theorem ageNodes_fares (l : List (Fin 12)) : ∀ s : State, Fares s (ageNodes l s) := by
  induction l with
  | nil => exact .refl
  | cons i l ih => exact fun s => ((Fares.of_stock (setNode_stock s i _)).trans (testStale_staid _ i).fares).trans (ih _)

/-- R80: the closing second leaves demand, state, charge and inhibit count of every outlet. -/
theorem measureOutlets_grid : (measureOutlets s).grid = s.grid := by
  have hout : ∀ o, outlet (measureOutlets s) o = measureOutlet (outlet s o) := fun o => by
    simp [outlet, measureOutlets]
  have hrec : ∀ x : Outlet, ((measureOutlet x).demand, (measureOutlet x).state, (measureOutlet x).charge, (measureOutlet x).inhibit) =
      (x.demand, x.state, x.charge, x.inhibit) ∧ (measureOutlet x).held = x.held := fun x => by
    unfold measureOutlet
    split <;> exact ⟨rfl, rfl⟩
  refine Grid.ext (funext fun o => ?_) rfl rfl rfl ?_ rfl
  · simp only [State.grid, hout]
    exact (hrec _).1
  · simp only [State.grid, hout, (hrec _).2]
    rfl

theorem secondClose_fares (l : List Sample) : Fares s (secondClose l s) := by
  have htick : Fares s (tick s) := .of_stock rfl
  have h := ((htick.trans (chargeSecond_fares _ (meanVolts l) (meanAmps l))).trans (idleSecond_fares _)).trans (windClose_fares _)
  unfold secondClose
  simp only
  generalize windClose (idleSecond (chargeSecond (meanVolts l) (meanAmps l) (tick s))) = t at h
  have hmeasure : ∀ u : State, Fares u (measure s (measureOutlets u)) := fun u =>
    .of_grid ((rfl : (measure s (measureOutlets u)).grid = (measureOutlets u).grid).trans (measureOutlets_grid u)) rfl id rfl id
  exact (h.trans (ageNodes_fares _ t)).trans (hmeasure _)

theorem thresholdClose_fares (f : State → Bool) (l : List Sample) : Fares s (thresholdClose f l s) := by
  unfold thresholdClose
  split
  · exact secondClose_fares s l
  · exact .refl s

/-! ### Inputs -/

theorem setLine_stock (i : FilteredInput) (x : Line) : (setLine i x s).stock = s.stock := by
  have h := (setLine_outside i x s).1
  cases i with
  | vehicle v => cases v <;> rfl
  | pressureLow => rfl
  | endStop e => cases e <;> rfl

theorem vehicleTaken_fares (i : VehicleInput) (b : Bool) : Fares s (vehicleTaken i b s) := by
  have hsignal : ∀ t, Fares t (signalTaken i b t) := fun t => .then_run (.of_stock (setLine_stock t _ _)) (by exact rfl)
  have hsource : ∀ t, Fares t (sourceTaken i b t) := fun t => by
    have hset : (setSource i b t).stock = t.stock := by unfold setSource; split <;> rfl
    exact (Fares.of_stock hset).trans (runEach_fares (by unfold sourceActs; split <;> rfl) _)
  have hwake : Fares s (if wakesBy i b && s.charge.power == .rest then wake s else s) := by
    split
    · exact wake_fares s
    · exact .refl s
  have hidle : ∀ t : State, (idleCheck (if wakesBy i b then setIdle 0 t else t)).stock = t.stock := fun t => by
    unfold idleCheck; split <;> split <;> rfl
  have hacts : ∀ t, Fares t (runEach (inputActs i b) t) := runEach_fares (by unfold inputActs; split <;> rfl)
  have hrelay : ∀ t, Fares t (runEach (relayActs i b t) t) := fun t => runEach_fares (by unfold relayActs; split <;> rfl) t
  unfold vehicleTaken
  split
  · split
    · exact (hsignal s).trans (hsource _)
    · exact ((((hwake.trans (hsignal _)).trans (hacts _)).trans (hsource _)).trans (hrelay _)).trans (.of_stock (hidle _))
  · exact .refl s

theorem pullInEnd_fares (o : Fin 16) : Fares s (pullInEnd o s) := by
  unfold pullInEnd
  split
  · exact .of_grid (setOutlet_grid s rfl fun e => by rw [e]) rfl id rfl id
  · exact .refl s

theorem recordSample_fares (o : Fin 16) (k : Nat) : Fares s (recordSample o k s) := by
  have hstall : (stallTick o s).stock = s.stock := by unfold stallTick; split <;> rfl
  have hout : ∀ q, outlet (stallTick o s) q = outlet s q := fun q => by unfold stallTick; split <;> rfl
  refine (Fares.of_stock hstall).trans (.of_grid (setOutlet_grid _ ?_ fun e => ?_) rfl id rfl id)
  · simp only [State.grid, hout]
  · rw [hout, e]

theorem currentSample_fares (o : Fin 16) (k : Nat) : Fares s (currentSample o k s) := by
  have h := recordSample_fares s o k
  unfold currentSample
  split
  · simp only
    split
    · exact h.trans (run_fares (trip_launch o) _)
    · exact h
  · exact .refl s

theorem tripIf_fares (b : Bool) (o : Fin 16) (k : Nat) : Fares s (tripIf b o k s) := by
  unfold tripIf
  split
  · exact currentSample_fares s o k
  · exact .refl s

/-! ### Node link -/

theorem resultActs_staid (c : LinkCmd) (r : CmdResult) : Staid s (resultActs c r s) := by
  unfold resultActs
  split
  case h_3 => split <;> exact .of_stock s rfl rfl
  all_goals exact .of_stock s rfl rfl

theorem raiseIf_fares (c : Prop) [Decidable c] (g : Group) (b : BitVec 32) : Fares s (if c then raise g b s else s) := by
  split
  · exact .of_stock rfl
  · exact .refl s

theorem goodEnd_fares (x : Txn) (r : Role) (w : Word) (l : List Word) (k : Nat) : Fares s (goodEnd x r w l k s) := by
  unfold goodEnd
  simp only
  have h1 : Fares s (endTxn (setDue x.record k (setNode x.record (goodNode r w l (resting s) (node s x.record)) s))) := .of_stock rfl
  exact (((h1.trans (raiseIf_fares _ _ _ _)).trans (handReading_staid _ _ _).fares).trans (raiseIf_fares _ _ _ _)).trans
    (resultActs_staid _ _ _).fares

theorem goodReply_fares (w : Word) (l : List Word) (k : Nat) : Fares s (goodReply w l k s) := by
  unfold goodReply
  split
  · split
    · split
      · exact goodEnd_fares s _ _ _ _ _
      · exact .refl s
    · exact .refl s
  · exact .refl s

theorem missHanded_fares (i : Fin 12) (c stale : Prop) [Decidable c] [Decidable stale] :
    Fares s (if c then
        if stale then runReact (handLoss i) (raise .link (bit i.val) s)
        else runReact (handStale i) (runReact (handLoss i) (raise .link (bit i.val) s))
      else runReact (testStale i) s) := by
  have hraise : (raise .link (bit i.val) s).stock = s.stock := rfl
  have hloss : Fares s (runReact (handLoss i) (raise .link (bit i.val) s)) :=
    (Fares.of_stock hraise).trans (handLoss_staid _ i).fares
  split
  · split
    · exact hloss
    · exact hloss.trans (handStale_staid _ i).fares
  · exact (testStale_staid s i).fares

theorem missEnd_fares (m : MissKind) (k : Nat) : Fares s (missEnd m k s) := by
  unfold missEnd
  split
  · exact .refl s
  · next x _ =>
    simp only
    have h1 : Fares s (endTxn (setDue x.record k (setNode x.record (missNode m (resting s) (node s x.record)) s))) := .of_stock rfl
    exact (h1.trans (missHanded_fares _ _ _ _)).trans (resultActs_staid _ _ _).fares

theorem ackExpiry_fares (k : Nat) : Fares s (ackExpiry k s) := by
  unfold ackExpiry
  split
  · exact missEnd_fares s _ _
  · exact .refl s

theorem quietAfter_fares (k : Nat) : Fares s (quietAfter k s) := by
  unfold quietAfter
  split
  · exact missEnd_fares s _ _
  · exact .refl s

theorem replyWordFault_stock (k : Nat) (w : Word) (a b : Bool) : (replyWordFault k w a b s).stock = s.stock := by
  unfold replyWordFault
  split
  · split <;> rfl
  · rfl

theorem replyGap_stock : (replyGap s).stock = s.stock := by unfold replyGap; split <;> rfl
theorem requestSent_stock : (requestSent s).stock = s.stock := by unfold requestSent; split <;> rfl

theorem turnaround_stock (k : Nat) : (turnaround k s).stock = s.stock := by
  unfold turnaround
  split
  · exact linkChoose_stock s _
  · rfl

theorem pollDue_stock (i : Fin 12) (k : Nat) : (pollDue i k s).stock = s.stock := by
  unfold pollDue
  split
  · exact linkChoose_stock s _
  · rfl

/-! ### Water, climate, movers -/

theorem pressureLow_fares (b : Bool) : Fares s (pressureLow b s) := by
  have htake : Fares s (takeLine .pressureLow b s) := .of_stock (setLine_stock s _ _)
  have htaken : ∀ t, Staid t (pressureTaken b t) := fun t => by
    unfold pressureTaken pumpStart
    (repeat' split) <;> exact .of_stock t rfl rfl
  unfold pressureLow
  split
  · simp only
    split
    · exact htake
    · exact htake.trans (htaken _).fares
  · exact .refl s

/-- A timer's row that runs a cascade where its time has come. -/
theorem runIf_fares {c : Prop} [Decidable c] {l : List Act} (h : t.stock = s.stock) (hl : Outward l) :
    Fares s (if c then run l t else s) := by
  split
  · exact .then_run (.of_stock h) hl
  · exact .refl s

theorem pumpRunLimit_fares : Fares s (pumpRunLimit s) := runIf_fares s rfl (by exact rfl)
theorem padTimeout_fares : Fares s (padTimeout s) := runIf_fares s rfl (by exact rfl)
theorem heatTimeout_fares : Fares s (heatTimeout s) := runIf_fares s rfl (by exact rfl)
theorem grantTimeout_fares : Fares s (grantTimeout s) := runIf_fares s rfl (by exact rfl)
theorem seqExpiry_fares (x : SeqState) (f : State → Bool) {l : List Act} (hl : Outward l) : Fares s (seqExpiry x f l s) :=
  runIf_fares s rfl hl
theorem supplyHoldEnd_fares : Fares s (supplyHoldEnd s) := runIf_fares s rfl (by exact rfl)

theorem fillPulse_staid : Staid s (fillPulse s) := by
  have hcount : ∀ g : Fill, Staid s (if g.target ≤ metered (setFill g s) g then fillEnd (.done false) (setFill g s)
      else (setFill g s, [])) := fun g => by
    split
    · unfold fillEnd
      split <;> exact .of_stock s rfl rfl
    · exact .of_stock s rfl rfl
  unfold fillPulse
  split
  · exact .of_stock s rfl rfl
  · exact hcount _

theorem fillTimeout_fares (x : OutletState) (f : Fill → Nat) (k : Nat) (o : Outcome) : Fares s (fillTimeout x f k o s) := by
  unfold fillTimeout
  split
  · exact runIf_fares s rfl (by exact rfl)
  · exact .refl s

theorem blindGrace_stock : (blindGrace s).stock = s.stock := by
  unfold blindGrace
  simp only
  (repeat' split) <;> rfl

/-- A mover's record changes; a position it has then lies within the travel. -/
theorem setMover_fares (m : Mover) {x : MoverRec} (h : x.known = true → x.position ≤ travelOf s m) : Fares s (setMover m x s) := by
  have hsame : mover (setMover m x s) m = x := mover_setMover s m x
  have hother : ∀ k, k ≠ m → mover (setMover m x s) k = mover s k := fun k hk => mover_setMover_other s x hk
  have htravel : ∀ k, travelOf (setMover m x s) k = travelOf s k := fun k => by cases m <;> rfl
  refine .of_grid (setMover_grid s m x) (setMover_warmth s m x) (fun hp k hk => ?_) (by cases m <;> rfl) (by cases m <;> exact id)
  rw [htravel]
  by_cases hkm : k = m
  · subst hkm
    rw [hsame] at hk ⊢
    exact h hk
  · rw [hother k hkm] at hk ⊢
    exact hp k hk

theorem pulsed_le (m : Mover) (d : Dir) (n : Nat) : pulsed s m d n ≤ travelOf s m := by
  cases d with
  | out => exact Nat.min_le_right _ _
  | inward => exact Nat.min_le_right _ _

/-- R142: a pulse leaves the position within the travel. -/
theorem hallPulse_fares (m : Mover) : Fares s (runReact (hallPulse m) s) := by
  have hpulse : ∀ (d : Dir) (x : MoverRec), x.position = pulsed s m d (mover s m).position → Fares s (setMover m x s) :=
    fun d x hx => setMover_fares s m fun _ => hx.le.trans (pulsed_le s m d _)
  have hrest : Fares s (run (restPulse m s).2 (restPulse m s).1) := by
    unfold restPulse
    simp only
    split
    · exact run_outward (by exact rfl) s
    · refine .then_run (hpulse ‹Dir› _ ?_) rfl
      split <;> rfl
  have hdrive : ∀ v, Fares s (run (drivePulse m v s).2 (drivePulse m v s).1) := fun v => by
    unfold drivePulse
    simp only
    split
    · exact .then_run (hpulse v.dir _ rfl) rfl
    · split
      · exact .then_run (.trans (hpulse v.dir _ rfl) (.of_stock rfl)) rfl
      · exact .then_run (hpulse v.dir _ rfl) rfl
  unfold runReact hallPulse
  split
  · split
    · exact hdrive _
    · exact hrest
  · exact hrest

theorem stopAsserted_fares (e : EndStop) : Fares s (run (stopAsserted e s).2 (stopAsserted e s).1) := by
  have hset : ∀ x : MoverRec, x.position = (if e = .out1 then travelOf s (stopMover e) else 0) → Fares s (setMover (stopMover e) x s) :=
    fun x hx => setMover_fares s _ fun _ => by
      rw [hx]
      split
      · exact le_rfl
      · exact Nat.zero_le _
  unfold stopAsserted
  simp only
  split
  · refine .then_run (hset _ rfl) ?_
    simp [Act.outward]
  · exact .then_run (hset _ rfl) rfl

theorem stopReleased_fares (e : EndStop) : Fares s (run (stopReleased e s).2 (stopReleased e s).1) := by
  unfold stopReleased
  simp only
  split
  · exact run_outward (by exact rfl) s
  · exact .then_run (setMover_fares s _ nofun) rfl

theorem endStopTaken_fares (e : EndStop) (b : Bool) : Fares s (endStopTaken e b s) := by
  unfold endStopTaken
  split
  · refine Fares.trans (t := takeLine (.endStop e) b s) (.of_stock (setLine_stock s (.endStop e) _)) ?_
    unfold runReact
    split
    · exact stopAsserted_fares _ e
    · exact stopReleased_fares _ e
  · exact .refl s

theorem moveExpiry_fares (m : Mover) (f : Move → Bool) (g : Move → Outcome) : Fares s (moveExpiry m f g s) := by
  unfold moveExpiry
  split
  · exact runIf_fares s rfl (by exact rfl)
  · exact .refl s

end

/-! ### Every command -/

/-- A command leaves outlets, heat and positions as `Fares` has it, or it is a start. -/
def Treads (i : Instr) (s : State) : Prop := ∀ t, exec i s = .next t → Fares s t ∨ Starts s t

theorem Treads.of_fares {i : Instr} (h : Fares s t ∨ Starts s t) (he : exec i s = .next t := by rfl) : Treads i s :=
  fun u hu => by
    obtain rfl : t = u := by simpa using he.symm.trans hu
    exact h

theorem Treads.live {i : Instr} {f : State → State} (h : Fares s (f s)) (he : exec i s = .next (live f s) := by rfl) :
    Treads i s := .of_fares (.inl (live_fares h)) he

theorem Treads.inRun {i : Instr} {f : State → State} (h : Fares s (f s)) (he : exec i s = .next (inRun f s) := by rfl) :
    Treads i s := .of_fares (.inl (inRun_fares h)) he

theorem Treads.host {i : Instr} {a : BitVec 13} {v : Word} (he : exec i s = .next (hostWrite a v s) := by rfl) :
    Treads i s := .of_fares (hostWrite_fares a v s) he

theorem Treads.order {i : Instr} {k : Kind} {body : Fin 32 → State → State} (h : ∀ n t, Fares t (body n t))
    (he : exec i s = .next (Machine.inRun (dispatch k body) s) := by rfl) : Treads i s :=
  .of_fares (.inl (order_fares h s)) he

theorem exec_treads (i : Instr) (s : State) : Treads i s := by
  cases i
  case hostRead a => exact .of_fares (.inl (hostRead_fares a s))
  case slotWordWrite | slotPost | slotCancelPosted | slotCancelTaken | slotCancelLate | slotGiveBack | slotStateFault | sceneWrite
      | stagingWrite | digestWrite | unmappedWrite | registerWrite | restart | attnEn | ordAutoclr | noticeClear | noticeMask =>
    exact .host
  case badKind => exact .inRun (dispatchBad_fares s)
  case chargeSet => exact .order fun n t => chargeSet_fares t n
  case shedFloor => exact .order fun n t => shedFloor_fares t n
  case restNow => exact .order fun n t => restNow_fares t n
  case auxSet => exact .order fun n t => auxSet_fares t n
  case tripClear => exact .order fun n t => tripClear_fares t n
  case termsLoad => exact .order fun n t => termsLoad_fares t n
  case pumpMode => exact .order fun n t => pumpMode_fares t n
  case pumpReset => exact .order fun n t => pumpReset_fares t n
  case fill => exact .order fun n t => fill_fares t n
  case drainDump => exact .order fun n t => drainDump_fares t n
  case drainClose => exact .order fun n t => drainClose_fares t n
  case climateMode => exact .order fun n t => climateMode_fares t n
  case zoneSet => exact .order fun n t => zoneSet_fares t n
  case heaterClear => exact .order fun n t => heaterClear_fares t n
  case move => exact .order fun n t => move_fares t n
  case moverStop => exact .order fun n t => moverStop_fares t n
  case sceneRecall => exact .order fun n t => sceneRecall_fares t n
  case lightSet => exact .order fun n t => lightSet_fares t n
  case settingsFetch => exact .order fun n t => settingsFetch_fares t n
  case settingsStore => exact .order fun n t => settingsStore_fares t n
  case validateEnd => exact .inRun (validateEnd_fares s)
  case eraseEnd ok => exact .inRun (eraseEnd_fares s ok)
  case eraseTimeout => exact .inRun (timeoutIn_fares s .erase 1)
  case programEnd ok => exact .inRun (programEnd_fares s ok)
  case programTimeout => exact .inRun (timeoutIn_fares s .program 2)
  case verifyEnd l => exact .inRun (verifyEnd_fares s l)
  case serviceInput b => exact .of_fares (.inl (serviceInput_fares s b))
  case powerOn => exact .of_fares (.inr .powerOn)
  case resetAssert d =>
    refine .of_fares (t := if s.pins.reset then s else resetAssert d s) ?_
    split
    · exact .inl (.refl s)
    · next h => exact .inr (.assert d (by simpa using h))
  case resetRelease =>
    refine .of_fares (t := if s.pins.reset then resetRelease s else s) ?_
    split
    · next h => exact .inr (.release h)
    · exact .inl (.refl s)
  case linkStartQuiet k => exact .live (.of_stock (quietEnd_stock s k))
  case startComplete => exact .of_fares (.inl (startComplete_fares s))
  case secondClose l => exact .live (secondClose_fares s l)
  case fullSync | emptySync | voltageFloorEntry | voltageFloorExit | restEntry | readingStale | windHighSet | windHighClear =>
    exact .live (thresholdClose_fares s _ _)
  case filteredInputEdge i b => exact .of_fares (.inl (.of_stock (setLine_stock s i _)))
  case vehicleInput i b => exact .live (vehicleTaken_fares s i b)
  case valvePullInEnd o => exact .of_fares (.inl (pullInEnd_fares s o))
  case immediateTrip o k => exact .of_fares (.inl ((tripIf_fares s _ o k).trans (closeFrom_fares s _)))
  case sustainedTrip o k => exact .of_fares (.inl ((tripIf_fares s _ o k).trans (closeFrom_fares s _)))
  case currentSample o k => exact .of_fares (.inl ((currentSample_fares s o k).trans (closeFrom_fares s _)))
  case turnaroundEnd k => exact .inRun (.of_stock (turnaround_stock s k))
  case pollDue i k => exact .inRun (.of_stock (pollDue_stock s i k))
  case requestSent => exact .inRun (.of_stock (requestSent_stock s))
  case ackWindowExpiry k => exact .inRun (ackExpiry_fares s k)
  case replyGapExpiry => exact .inRun (.of_stock (replyGap_stock s))
  case replyWordFault k w a b => exact .inRun (.of_stock (replyWordFault_stock s k w a b))
  case replyQuietEnd k => exact .inRun (quietAfter_fares s k)
  case goodReply w l k => exact .inRun (goodReply_fares s w l k)
  case pressureLow b => exact .live (pressureLow_fares s b)
  case pumpRunLimit => exact .inRun (pumpRunLimit_fares s)
  case fillFlowPulse => exact .inRun (fillPulse_staid s).fares
  case fillWaitTimeout | fillFlowTimeout => exact .inRun (fillTimeout_fares s _ _ _ _)
  case frostBlindGrace => exact .inRun (.of_stock (blindGrace_stock s))
  case padTimeout => exact .inRun (padTimeout_fares s)
  case heatTimeout => exact .inRun (heatTimeout_fares s)
  case retryHoldEnd | ignitionLimit | runOnEnd | cooldownMinimum | cooldownMaximum =>
    refine .inRun (seqExpiry_fares s _ _ ?_)
    rfl
  case grantWaitTimeout => exact .inRun (grantTimeout_fares s)
  case supplyHoldEnd => exact .inRun (supplyHoldEnd_fares s)
  case hallPulse m => exact .live (hallPulse_fares s m)
  case endStop e b => exact .live (endStopTaken_fares s e b)
  case grantWindowExpiry | stallWindowExpiry | moveTimeout => exact .inRun (moveExpiry_fares s _ _ _)
  case windPulse => exact .live (.of_stock rfl)
  case rampTick => exact .inRun (runEach_fares (l := channels.map Act.ramp) rfl s)

end Sys2Proof.Machine
end

section
/-!
PROOF. Charge, heat and positions of the blocks' invariants (O4): the starts keep them, and by `Fares` so does every other command.
-/
namespace Sys2Proof.Machine

variable {s t : State} {k : StartKind}

theorem SameButHeld.idle {q : Fin 16} (h : SameButHeld s t q) (hs : (outlet s q).Idle) : (outlet t q).Idle := by
  obtain ⟨b, hb⟩ := h
  rw [hb]
  exact hs

theorem startBlocks_idle (hs : ∀ o, (outlet s o).Idle) (o : Fin 16) : (outlet (startBlocks k s) o).Idle :=
  (startBlocks_sameButHeld k s o).idle (hs o)

theorem restartOutlet_idle {x : Outlet} (o : Fin 16) (hx : x.Idle) : (restartOutlet o x).Idle := by
  unfold restartOutlet
  split
  · exact hx
  · exact fun _ => rfl

theorem freshSecond_idle {x : Outlet} (hx : x.Idle) : (freshSecond x).Idle := by
  unfold freshSecond
  split <;> exact hx

/-- What a release starts from: the outlets' records, with a fresh second where they are ON. -/
theorem outlet_releaseBase (s : State) (o : Fin 16) : outlet (releaseBase s) o = freshSecond (outlet s o) := by
  have hout : (releaseBase s).outlets = (freshSeconds { s with pins := { s.pins with reset := false } }).outlets :=
    (sweep_outside _).2.2.2
  unfold outlet
  rw [hout]
  show (s.outlets.table.map freshSecond)[o] = _
  simp

/-- R27: RESET asserted keeps the retained record, and nothing else of the blocks than their start has. -/
theorem resetAssert_of_start {P : State → Prop} {d : Bool} {s : State} (h : P (startBlocks .restart (resetBase d s)))
    (hp : ∀ b r, P b → P { b with retained := r }) : P (resetAssert d s) := hp _ s.retained h

theorem resetAssert_idle (d : Bool) (hs : ∀ o, (outlet s o).Idle) : ∀ o, (outlet (resetAssert d s) o).Idle :=
  resetAssert_of_start (P := fun b => ∀ o, (outlet b o).Idle)
    (startBlocks_idle fun q => by rw [outlet_resetBase]; exact restartOutlet_idle q (hs q)) fun _ _ h => h

theorem resetRelease_idle (hs : ∀ o, (outlet s o).Idle) (o : Fin 16) : (outlet (resetRelease s) o).Idle := by
  rw [resetRelease_eq]
  refine startBlocks_idle (fun q => ?_) o
  rw [outlet_releaseBase]
  exact freshSecond_idle (hs q)

theorem powerOn_idle (s : State) (o : Fin 16) : (outlet (powerOn s) o).Idle := by
  have houtlet : ∀ q, outlet (settlePins (loadSettings (powerOnBase s))) q = {} := fun q => by
    show (Vector.replicate 16 ({} : Outlet))[q] = {}
    simp
  exact startBlocks_idle (fun q => by rw [houtlet]; exact fun _ => rfl) o

theorem Starts.idle (h : Starts s t) (hs : ∀ o, (outlet s o).Idle) : ∀ o, (outlet t o).Idle := by
  cases h with
  | powerOn => exact powerOn_idle s
  | assert d _ => exact resetAssert_idle d hs
  | release _ => exact resetRelease_idle hs
  | restart _ => exact resetRelease_idle (resetAssert_idle _ hs)

/-- R140: no zone asks for heat after a start. -/
theorem startBlocks_heatInv (k : StartKind) (s : State) : (startBlocks k s).HeatInv := by
  unfold State.HeatInv
  rw [startBlocks_climate]
  generalize startWater k (startCharge k (startBase k s)) = u
  simp only [startClimate, seqFlags, setHeld_climate]
  refine ⟨?_, ?_⟩
  · unfold heaterDemand startZone
    simp only
    split <;> simp
  · unfold heatLevel countedDeficit startZone
    simp only
    split <;> simp

theorem Starts.heatInv (h : Starts s t) : t.HeatInv := by
  cases h with
  | assert d _ => exact resetAssert_of_start (P := State.HeatInv) (startBlocks_heatInv _ _) fun _ _ h => h
  | _ => exact startBlocks_heatInv _ _

theorem travelOf_startMover (m n : Mover) : travelOf (startMover k m s) n = travelOf s n := by
  unfold startMover
  cases m <;> rfl

/-- R162: a position that is known after a start lies within the travel. -/
theorem startMover_position (m : Mover) : (mover (startMover k m s) m).known = true →
    (mover (startMover k m s) m).position ≤ travelOf s m := by
  unfold startMover
  rw [mover_setMover]
  simp only
  split
  · exact fun _ => Nat.zero_le _
  · split
    · exact fun _ => le_rfl
    · cases k with
      | powerOn => exact nofun
      | restart =>
        simp only [Bool.and_eq_true, decide_eq_true_eq]
        exact fun h => h.2

theorem startMover_other {m n : Mover} (h : n ≠ m) : mover (startMover k m s) n = mover s n := mover_setMover_other _ _ h

theorem startBlocks_positionInv (k : StartKind) (s : State) : (startBlocks k s).PositionInv := by
  have hmover : ∀ m, mover (startBlocks k s) m =
      mover (startMovers k (startClimate k (startWater k (startCharge k (startBase k s))))) m := fun m => by
    simp only [mover, startBlocks_movers]
  have htravel : ∀ m, travelOf (startBlocks k s) m =
      travelOf (startMovers k (startClimate k (startWater k (startCharge k (startBase k s))))) m := fun m => by
    rw [startBlocks_eq]
    rfl
  intro m
  rw [hmover, htravel]
  generalize startClimate k (startWater k (startCharge k (startBase k s))) = u
  unfold startMovers
  cases m with
  | awning =>
    rw [startMover_other (by decide), travelOf_startMover, travelOf_startMover]
    exact startMover_position .awning
  | step =>
    rw [travelOf_startMover]
    exact startMover_position .step

theorem Starts.positionInv (h : Starts s t) : t.PositionInv := by
  cases h with
  | assert d _ => exact resetAssert_of_start (P := State.PositionInv) (startBlocks_positionInv _ _) fun _ _ h => h
  | _ => exact startBlocks_positionInv _ _

/-- Settles O4: a command keeps the three invariants by `Fares`, or it is a start and establishes what it does not keep. -/
theorem stepKeepsBlockInvariants : Obligations.StepKeepsBlockInvariants := by
  intro s t hstep
  unfold step at hstep
  split at hstep
  · obtain rfl : s = t := by simpa using hstep
    exact ⟨id, fun h _ => h, id⟩
  · next c l _ =>
    rcases exec_treads c { s with pending := l } t hstep with hfares | hstarts
    · exact ⟨hfares.idle, fun h ho => hfares.heat ho h, hfares.position⟩
    · exact ⟨hstarts.idle, fun _ _ => hstarts.heatInv, fun _ => hstarts.positionInv⟩

end Sys2Proof.Machine
end

section
/-!
SUPPORT. A part that starts: nothing is judged, no owner is told, and no outlet is ON but one held through the restart (`State.Drowsy`).
The acts that run in it (`Act.dozes`) keep it so.
-/
namespace Sys2Proof.Machine

variable {s t u : State} {l m : List Act} {r : Run}

/-- The part is in STARTING, as a start leaves it. -/
def State.Drowsy (s : State) : Prop := s.charge.power = .starting ∧ s.Waking

/-- What `Drowsy` speaks of, the owner table apart. -/
structure Lull where
  power : PowerState
  evaluated : Bool
  demand : Bool
  seq : SeqState
  awning : Option Move
  step : Option Move
  nodes : Vector Node 12
  kept : Bool
  outlets : Fin 16 → Option Demand × OutletState
  heater : SeqState
  active : Image

def State.lull (s : State) : Lull where
  power := s.charge.power
  evaluated := s.interlock.evaluated
  demand := s.climate.demand
  seq := (seq s).state
  awning := s.movers.awning.move
  step := s.movers.step.move
  nodes := s.link.nodes
  kept := s.retained.heater
  outlets o := ((outlet s o).demand, (outlet s o).state)
  heater := s.outlets.heater
  active := s.store.active

/-- A change beside the outlets and the nodes. -/
theorem State.Drowsy.of_parts (h : s.Drowsy) (hp : t.charge.power = s.charge.power) (he : t.interlock.evaluated = s.interlock.evaluated)
    (ho : s.disp.owners = [] → t.disp.owners = []) (hd : t.climate.demand = s.climate.demand) (hq : (seq t).state = (seq s).state)
    (ha : t.movers.awning.move = s.movers.awning.move) (hst : t.movers.step.move = s.movers.step.move)
    (hn : (∀ i, (node s i).stale = true) → ∀ i, (node t i).stale = true) (hk : t.retained.heater = s.retained.heater)
    (hout : ∀ o, ((outlet t o).state = (outlet s o).state ∨ (outlet t o).state = .tripped) ∧ effClass t o = effClass s o) :
    t.Drowsy := by
  obtain ⟨hpower, heval, howners, hdemand, hseq, hawning, hstep, hnodes, hkept, houtlets⟩ := h
  refine ⟨hp.trans hpower, he.trans heval, ho howners, hd.trans hdemand, hq ▸ hseq, ha.trans hawning, hst.trans hstep, hn hnodes,
    fun hon => hk.trans (hkept ?_), fun o => ?_⟩
  · exact (hout 2).1.elim (fun e => e.symm.trans hon) fun e => by rw [e] at hon; cases hon
  · obtain ⟨hw, hs, hc⟩ := houtlets o
    obtain ⟨e | e, hclass⟩ := hout o
    · rw [e, hclass]
      exact ⟨hw, hs, hc⟩
    · rw [e]
      exact ⟨nofun, nofun, nofun⟩

theorem effClass_of_lull (h : t.lull = s.lull) (o : Fin 16) : effClass t o = effClass s o :=
  effClass_of_grid (congrArg (·.1) (congrFun (congrArg Lull.outlets h) o) :) (congrArg Lull.active h) (congrArg Lull.heater h)

theorem State.Drowsy.of_lull (h : s.Drowsy) (hl : t.lull = s.lull) (ho : s.disp.owners = [] → t.disp.owners = []) : t.Drowsy := by
  have hnode : ∀ i, node t i = node s i := fun i => by
    rw [node, node, show t.link.nodes = s.link.nodes from congrArg Lull.nodes hl]
  exact h.of_parts (congrArg Lull.power hl) (congrArg Lull.evaluated hl) ho (congrArg Lull.demand hl) (congrArg Lull.seq hl)
    (congrArg Lull.awning hl) (congrArg Lull.step hl) (fun hn i => by rw [hnode]; exact hn i) (congrArg Lull.kept hl)
    fun o => ⟨.inl (congrArg (·.2) (congrFun (congrArg Lull.outlets hl) o) :), effClass_of_lull hl o⟩

theorem State.Drowsy.class_of_on (h : s.Drowsy) {o : Fin 16} (hon : (outlet s o).state = .on) : effClass s o = 0 := by
  obtain ⟨-, -, -, -, -, -, -, -, -, houtlets⟩ := h
  exact ((houtlets o).2.2 hon).2

theorem State.Drowsy.no_candidate (h : s.Drowsy) : Run.candidate s = none := by
  cases hc : Run.candidate s with
  | none => rfl
  | some c =>
    obtain ⟨hon, hclass⟩ := Run.Turns.candidate_on hc
    exact absurd (h.class_of_on hon) hclass

theorem State.Drowsy.not_waiting (h : s.Drowsy) (o : Fin 16) : (outlet s o).state ≠ .waiting ∧ (outlet s o).state ≠ .shed := by
  obtain ⟨-, -, -, -, -, -, -, -, -, houtlets⟩ := h
  exact ⟨(houtlets o).1, (houtlets o).2.1⟩

theorem State.Drowsy.not_toShed (h : s.Drowsy) (o : Fin 16) : Run.toShed s o = false := by
  unfold Run.toShed
  rw [Bool.and_eq_false_iff]
  by_cases hon : (outlet s o).state = .on
  · exact .inr (by rw [isShed, h.class_of_on hon]; rfl)
  · exact .inl (by simp [hon, (h.not_waiting o).1])

/-! ### The acts that run -/

/-- An act that runs while the part starts. -/
def Act.dozes : Act → Bool
  | .signal _ _ | .raise _ _ | .shown _ _ | .postFloat | .floatResult _ | .shedEval | .limitEval | .shedLevel _ | .limit _ | .seqShed
    | .heaterTest | .action _ | .flush | .flushEnd | .actEnd | .restore _ | .drain | .arbiter | .pass .limit | .overLimit _ | .cutRest
    | .ask _ _ | .cut _ _ | .trip _ | .report _ _ _ | .stowSignal _ | .moveEnd _ _ _ => true
  | _ => false

/-- A cascade in a part that starts. -/
structure Run.Dozes (r : Run) : Prop where
  drowsy : r.st.Drowsy
  deferred : r.deferred = []
  work : ∀ a ∈ r.work, a.Among Act.dozes

namespace Run.Dozes

variable {r' : Run} {p : List Act}

/-- An act that changes nothing of this, and puts on the stack what may run. -/
theorem of_lull (h : r.Dozes) (hl : r'.st.lull = r.st.lull) (hw : r'.work = p ++ r.work) (hp : ∀ a ∈ p, a.Among Act.dozes)
    (ho : r'.st.disp.owners = r.st.disp.owners := by rfl) (hd : r'.deferred = r.deferred := by rfl) : r'.Dozes where
  drowsy := h.drowsy.of_lull hl fun e => ho.trans e
  deferred := hd.trans h.deferred
  work a ha := by
    rw [hw] at ha
    exact (List.mem_append.1 ha).elim (hp a) (h.work a)

/-- An act that puts nothing on the stack. -/
theorem quiet (h : r.Dozes) (hl : r'.st.lull = r.st.lull) (hw : r'.work = r.work := by rfl)
    (ho : r'.st.disp.owners = r.st.disp.owners := by rfl) (hd : r'.deferred = r.deferred := by rfl) : r'.Dozes :=
  h.of_lull (p := []) hl hw nofun ho hd

theorem react (h : r.Dozes) {f : State → React} (hl : (f r.st).1.lull = r.st.lull) (hp : ∀ a ∈ (f r.st).2, a.Among Act.dozes)
    (ho : (f r.st).1.disp.owners = r.st.disp.owners) : (r.react f).Dozes := h.of_lull hl rfl hp ho

end Run.Dozes

theorem among_dozes_of_all (h : l.all (fun a => a.dozes && match a with | .action _ => false | _ => true) = true) :
    ∀ a ∈ l, a.Among Act.dozes := fun a ha => by
  have h := List.all_eq_true.1 h a ha
  rw [Bool.and_eq_true] at h
  exact Act.among_of (fun m e => by subst e; cases h.2) h.1

/-! ### Each act -/

section
variable (h : r.Dozes)
include h

theorem signal_dozes (g : Signal) (v : Nat) : (r.signal g v).Dozes := by
  have heval : r.st.interlock.evaluated = false := h.drowsy.2.1
  unfold Run.signal
  split
  · exact h
  · rw [heval]
    exact h.quiet rfl

theorem pass_dozes : (r.pass .limit).Dozes := by
  unfold Run.pass
  split
  · exact h
  · rw [h.drowsy.no_candidate]
    exact h

theorem cut_dozes (o : Fin 16) (c : Cut) : (r.cut o c).Dozes := by
  unfold Run.cut
  rw [if_neg fun e => e.2 (h.drowsy.class_of_on e.1)]
  exact h

theorem ask_dozes (o : Fin 16) (c : Cut) : (perform (.ask o c) r).Dozes := by
  have e : perform (.ask o c) r = r := if_neg fun e => e.2 (h.drowsy.class_of_on e.1)
  rw [e]
  exact h

theorem cutRest_dozes : r.cutRest.Dozes := by
  have hnone : outletsAll.filter (Run.toShed r.st) = [] := List.filter_eq_nil_iff.2 fun o _ => by simp [h.drowsy.not_toShed o]
  unfold Run.cutRest
  rw [hnone]
  exact h

theorem shedLevel_dozes (n : Nat) : (r.shedLevel n).Dozes := by
  have hset := h.quiet (r' := r.onState fun s => { s with outlets := { s.outlets with shedLevel := n } }) rfl
  have hask : ∀ o, ∀ a ∈ Run.askShed (r.onState fun s => { s with outlets := { s.outlets with shedLevel := n } }).st o, a.dozes = true ∧
      ∀ m, a ≠ .action m := fun o a ha => by
    unfold Run.askShed at ha
    split at ha
    · rcases List.mem_pair.1 ha with rfl | rfl <;> exact ⟨rfl, nofun⟩
    · cases ha
  unfold Run.shedLevel
  simp only
  generalize (r.onState fun s => { s with outlets := { s.outlets with shedLevel := n } }) = q at hset hask ⊢
  split
  · refine hset.of_lull (p := [.action (Run.askShed q.st 2 ++ Run.askShed q.st 5 ++ [.cutRest])]) rfl rfl fun a ha => ?_
    rw [List.mem_singleton.1 ha]
    intro b hb
    rcases List.mem_append.1 hb with hb | hb
    · exact ((List.mem_append.1 hb).elim (hask 2 b) (hask 5 b)).symm
    · rw [List.mem_singleton.1 hb]
      exact ⟨nofun, rfl⟩
  · split
    · have hnone : (outletsAll.filter fun o => (outlet q.st o).state == .shed && !isShed q.st o) = [] :=
        List.filter_eq_nil_iff.2 fun o _ => by simp [(hset.drowsy.not_waiting o).2]
      unfold Run.unshed
      rw [hnone]
      exact hset.of_lull (p := [.action [.arbiter]]) rfl rfl (by simp [Act.Among, Act.dozes])
    · exact hset

theorem limit_dozes (n : Nat) : (r.limit n).Dozes := by
  have hset := h.quiet (r' := r.onState fun s => { s with outlets := { s.outlets with limit := n } }) rfl
  unfold Run.limit
  simp only
  split
  · exact hset.of_lull (p := [.action [.arbiter]]) rfl rfl (by simp [Act.Among, Act.dozes])
  · split
    · exact hset.of_lull (p := [.action _]) rfl rfl (by simp [Run.passLimit, Act.Among, Act.dozes])
    · exact hset

theorem overLimit_dozes (b : Bool) : (r.overLimit b).Dozes := by
  unfold Run.overLimit
  split
  · exact h.quiet rfl
  · exact h

theorem arbiter_dozes : r.arbiter.Dozes := by
  have hnone : (outletsAll.filter fun o => (outlet r.st o).state == .waiting) = [] :=
    List.filter_eq_nil_iff.2 fun o _ => by simp [(h.drowsy.not_waiting o).1]
  have horder : Run.waitingOrder r.st = [] := by rw [Run.waitingOrder, hnone]; rfl
  unfold Run.arbiter
  rw [horder]
  exact h.quiet rfl

theorem flush_dozes : r.flush.Dozes := by
  unfold Run.flush
  split
  · next c _ _ => exact h.of_lull (p := [.report c.1 c.2.1 c.2.2, .flush]) rfl rfl (among_dozes_of_all rfl)
  · split
    · exact h.of_lull (p := [.flushEnd, .flush]) rfl rfl (among_dozes_of_all rfl)
    · split
      · exact h.of_lull (p := [.arbiter, .flush]) rfl rfl (among_dozes_of_all rfl)
      · exact h

theorem actEnd_dozes : r.actEnd.Dozes := by
  have hsync := h.quiet (r' := { r with acting := r.acting - 1 }.onState (syncPart .outlets)) rfl
  unfold Run.actEnd Run.drainIfDone
  split
  · exact hsync.of_lull (p := [.drain]) rfl rfl (among_dozes_of_all rfl)
  · exact hsync

theorem drain_dozes : r.drain.Dozes := by
  unfold Run.drain
  rw [h.deferred]
  exact h

theorem action_dozes (ha : (Act.action l).Among Act.dozes) : (r.action l).Dozes := by
  refine h.of_lull (p := l ++ [.flush, .actEnd, .restore r.room]) rfl rfl fun a hm => ?_
  rcases List.mem_append.1 hm with hm | hm
  · obtain ⟨hn, hd⟩ := ha a hm
    exact Act.among_of hn hd
  · exact among_dozes_of_all (l := [.flush, .actEnd, .restore r.room]) rfl a hm

/-- R82: the outlet that trips is in no other state the start speaks of. -/
theorem trip_dozes (o : Fin 16) : (r.trip o).Dozes := by
  have hout : ∀ q, (outlet (r.trip o).st q).state = (outlet r.st q).state ∨ (outlet (r.trip o).st q).state = .tripped := fun q => by
    have e : outlet (r.trip o).st q = outlet (darkOutlet o .tripped r.st) q := rfl
    rw [e, outlet_dark]
    split
    · exact .inr rfl
    · exact .inl rfl
  exact ⟨h.drowsy.of_parts rfl rfl id rfl rfl rfl rfl id rfl fun q => ⟨hout q, effClass_dark o q .tripped r.st⟩, h.deferred, h.work⟩

theorem report_dozes (o : Fin 16) (x y : OutletState) : (r.react (ownerReport o x y)).Dozes := by
  have e : ownerReport o x y r.st = (r.st, []) := if_pos h.drowsy.1
  exact h.react (by rw [e]) (by rw [e]; nofun) (by rw [e])

theorem seqShed_dozes : (r.react seqShed).Dozes := by
  have hseq : (seq r.st).state = .off ∨ (seq r.st).state = .stopping := h.drowsy.2.2.2.2.1
  rcases hseq with e | e
  · have hf : seqShed r.st = (r.st, [.heaterTest]) := by rw [seqShed, e]
    exact h.react (by rw [hf]) (by rw [hf]; exact among_dozes_of_all rfl) (by rw [hf])
  · have hf : seqShed r.st = (r.st, []) := by rw [seqShed, e]
    exact h.react (by rw [hf]) (by rw [hf]; nofun) (by rw [hf])

theorem heaterTest_dozes : (r.react heaterTest).Dozes := by
  have hdemand : r.st.climate.demand = false := h.drowsy.2.2.2.1
  have e : heaterTest r.st = (r.st, []) := by simp [heaterTest, startConditions, hdemand]
  exact h.react (by rw [e]) (by rw [e]; nofun) (by rw [e])

theorem moveEnd_dozes (m : Mover) (f : Outcome) (x : Word) : (r.react (moveEnd m f x)).Dozes := by
  have hmove : (mover r.st m).move = none := by
    obtain ⟨-, -, -, -, -, hawning, hstep, -⟩ := h.drowsy
    cases m
    · exact hawning
    · exact hstep
  have e : moveEnd m f x r.st = (r.st, []) := by unfold moveEnd; rw [hmove]
  exact h.react (by rw [e]) (by rw [e]; nofun) (by rw [e])

theorem stowSignal_dozes (m : Mover) : (r.react (stowSignal m)).Dozes := by
  have hset : (setPending m false r.st).lull = r.st.lull := by cases m <;> rfl
  have hdisp : (setPending m false r.st).disp = r.st.disp := by cases m <;> rfl
  refine h.react ?_ ?_ ?_ <;> unfold stowSignal <;> simp only
  · split
    · exact hset
    · rfl
  · exact among_dozes_of_all rfl
  · split
    · rw [hdisp]
    · rfl

theorem shedEval_dozes : (r.react shedEval).Dozes := by
  by_cases e : shedOf r.st = r.st.charge.shedLevel
  · have hf : shedEval r.st = (r.st, []) := if_pos e
    exact h.react (by rw [hf]) (by rw [hf]; nofun) (by rw [hf])
  · have hf : shedEval r.st = _ := if_neg e
    exact h.react (by rw [hf]; rfl) (by rw [hf]; exact among_dozes_of_all rfl) (by rw [hf])

theorem limitEval_dozes : (r.react limitEval).Dozes := by
  by_cases e : limitOf r.st = r.st.charge.limit
  · have hf : limitEval r.st = (r.st, []) := if_pos e
    exact h.react (by rw [hf]) (by rw [hf]; nofun) (by rw [hf])
  · have hf : limitEval r.st = _ := if_neg e
    exact h.react (by rw [hf]; rfl) (by rw [hf]; exact among_dozes_of_all rfl) (by rw [hf])

theorem postFloat_dozes : (r.react postFloat).Dozes := by
  have hchoose : ∀ f, chooseIfIdle (setLink f r.st) = setLink f r.st := fun f => if_neg fun e => e.2 h.drowsy.1
  cases e : recordOf r.st .solar with
  | none =>
    have hf : postFloat r.st = (r.st, [.floatResult .missed]) := by rw [postFloat, e]
    exact h.react (by rw [hf]) (by rw [hf]; exact among_dozes_of_all rfl) (by rw [hf])
  | some i =>
    have hf : postFloat r.st = (setLink (fun k => { k with solar := true }) r.st, []) := by rw [postFloat, e]; simp only [hchoose]
    exact h.react (by rw [hf]; rfl) (by rw [hf]; nofun) (by rw [hf]; rfl)

end

theorem afterReports_lull (s : State) : (afterReports s).lull = s.lull ∧ (afterReports s).disp.owners = s.disp.owners := by
  obtain ⟨_, _, h⟩ := afterReports_shows s
  rw [h]
  exact ⟨rfl, rfl⟩

/-- What runs while the part starts keeps it starting. -/
theorem perform_dozes {a : Act} (ha : a.Among Act.dozes) (h : r.Dozes) : (perform a r).Dozes := by
  cases a
  case signal g v => exact signal_dozes h g v
  case raise | shown => exact h.quiet rfl
  case restore => exact h.quiet rfl
  case postFloat => exact postFloat_dozes h
  case floatResult => exact h.quiet rfl
  case shedEval => exact shedEval_dozes h
  case limitEval => exact limitEval_dozes h
  case shedLevel n => exact shedLevel_dozes h n
  case limit n => exact limit_dozes h n
  case seqShed => exact seqShed_dozes h
  case heaterTest => exact heaterTest_dozes h
  case action l => exact action_dozes h ha
  case flush => exact flush_dozes h
  case flushEnd => exact h.quiet (afterReports_lull r.st).1 rfl (afterReports_lull r.st).2
  case actEnd => exact actEnd_dozes h
  case drain => exact drain_dozes h
  case arbiter => exact arbiter_dozes h
  case pass g =>
    cases g with
    | limit => exact pass_dozes h
    | room o => cases ha
  case overLimit b => exact overLimit_dozes h b
  case cutRest => exact cutRest_dozes h
  case ask o c => exact ask_dozes h o c
  case cut o c => exact cut_dozes h o c
  case trip o => exact trip_dozes h o
  case report o x y => exact report_dozes h o x y
  case stowSignal m => exact stowSignal_dozes h m
  case moveEnd m f x => exact moveEnd_dozes h m f x
  all_goals cases ha

theorem settle_drowsy : ∀ (k : Nat) {r : Run}, r.Dozes → (settle k r).Drowsy
  | 0, r, h => by
    unfold settle
    split
    · exact h.drowsy
    · exact h.drowsy.of_lull rfl id
  | k + 1, r, h => by
    unfold settle
    split
    · exact h.drowsy
    · next a l e =>
      have ha : ∀ b ∈ a :: l, b.Among Act.dozes := e ▸ h.work
      exact settle_drowsy k (perform_dozes (ha a List.mem_cons_self)
        (r := { r with work := l }) ⟨h.drowsy, h.deferred, fun b hb => ha b (List.mem_cons_of_mem a hb)⟩)

theorem State.Drowsy.run (h : s.Drowsy) (hl : ∀ a ∈ l, a.Among Act.dozes) : (run l s).Drowsy := settle_drowsy _ ⟨h, rfl, hl⟩

end Sys2Proof.Machine
end

section
/-!
SUPPORT. What a command does to a part that starts: it goes on starting, or starts anew, or becomes ACTIVE.
-/
namespace Sys2Proof.Machine

variable {s t u : State} {l : List Act}

/-- A change beside all that is said of a part that starts. -/
theorem State.Drowsy.quiet (h : s.Drowsy) (hl : t.lull = s.lull := by rfl) (ho : t.disp.owners = s.disp.owners := by rfl) : t.Drowsy :=
  h.of_lull hl fun e => ho.trans e

theorem State.Drowsy.runReact (h : s.Drowsy) {f : State → React} (hl : (f s).1.lull = s.lull) (ho : (f s).1.disp.owners = s.disp.owners)
    (ha : ∀ a ∈ (f s).2, a.Among Act.dozes) : (Machine.runReact f s).Drowsy := (h.quiet hl ho).run ha

theorem runReact_nil_drowsy {s : State} {f : State → React} (hf : (f s).2 = []) (hl : (f s).1.Drowsy) :
    (Machine.runReact f s).Drowsy := by
  rw [Machine.runReact, hf, run_nil]
  exact hl

theorem runEach_drowsy {l : List Act} (hl : ∀ a ∈ l, a.Among Act.dozes) : ∀ {s : State}, s.Drowsy → (runEach l s).Drowsy := by
  induction l with
  | nil => exact id
  | cons a l ih =>
    exact fun h => ih (fun b hb => hl b (List.mem_cons_of_mem a hb)) (h.run fun b hb => by
      rw [List.mem_singleton.1 hb]
      exact hl a List.mem_cons_self)

theorem closeFrom_drowsy (old : State) (h : s.Drowsy) : (closeFrom old s).Drowsy := by
  obtain ⟨d, e⟩ := closeFrom_digest old s
  rw [e]
  exact h.quiet

theorem live_drowsy {f : State → State} (h : s.Drowsy) (hf : (f s).Drowsy) : (live f s).Drowsy := by
  unfold live
  split
  · exact h
  · exact closeFrom_drowsy s hf

theorem inRun_drowsy (h : s.Drowsy) (f : State → State) : inRun f s = s := if_neg (by simp [blocksRun, h.1])

/-! ### Host accesses -/

theorem access_drowsy (h : s.Drowsy) : (access s).Drowsy := by
  unfold access
  rw [h.1]
  exact h.quiet

theorem hostRead_drowsy (h : s.Drowsy) (a : BitVec 13) : (hostReadOf a s).Drowsy := by
  unfold hostReadOf
  split
  · exact h.quiet
  · exact closeFrom_drowsy _ ((access_drowsy h).quiet)

theorem portFault_drowsy (h : s.Drowsy) (k : PortFault) (a : BitVec 13) : (portFault k a s).Drowsy := by
  have hl : (portFault k a s).lull = s.lull := by unfold portFault; split <;> rfl
  have ho : (portFault k a s).disp.owners = s.disp.owners := by unfold portFault; split <;> rfl
  exact h.quiet hl ho

theorem dropGroup_drowsy (h : s.Drowsy) (g : Group) : (dropGroup g s).Drowsy :=
  h.quiet (congrArg State.lull (dropGroup_outside g s s.port) :) (congrArg (fun t : State => t.disp.owners) (dropGroup_outside g s s.port) :)

theorem clearPending_drowsy (h : s.Drowsy) (l : List Group) : (clearPending l s).Drowsy := by
  have hdrop : ∀ (l : List Group) {t : State}, t.Drowsy → (l.foldl (fun t g => dropGroup g t) t).Drowsy := fun l => by
    induction l with
    | nil => exact fun h => h
    | cons g l ih => exact fun h => ih (dropGroup_drowsy h g)
  unfold clearPending
  split
  · exact h
  · exact (hdrop _ h).quiet

/-- R6: no order is in hand, so nobody is told. -/
theorem cancelTaken_drowsy (h : s.Drowsy) (n : Fin 32) : (cancelTaken n s).Drowsy := by
  have howners : (setSlotState n .cancel s).disp.owners = [] := h.2.2.1
  have htell : tellCancel n (setSlotState n .cancel s) = (setSlotState n .cancel s, []) := by
    rw [tellCancel, ownerBlock, howners]
    rfl
  have hset : (setSlotState n .cancel s).Drowsy := h.quiet
  exact runReact_nil_drowsy (by rw [htell]) (by rw [htell]; exact hset)

theorem stateWrite_drowsy (h : s.Drowsy) (n : Fin 32) (v : Word) (a : BitVec 13) : (stateWrite n v a s).Drowsy := by
  have hfault : (portFault .slotState a s).Drowsy := portFault_drowsy h _ a
  have hpost : (post n s).Drowsy := by
    unfold post
    simp only
    split <;> exact h.quiet
  have hgive : (giveBack n s).Drowsy := by
    have hset : (setSlotState n .empty s).Drowsy := h.quiet
    unfold giveBack
    simp only
    split
    · exact clearPending_drowsy hset _
    · exact hset
  have hservice : ∀ f, (service n f (dropHeld n (dropIntake n s))).Drowsy := fun f =>
    h.of_lull rfl fun e => by rw [service_owners, dropHeld, dropIntake, e]; rfl
  have hfinished : (if v = 3 then s else if v = 0 then giveBack n s else portFault .slotState a s).Drowsy := by
    split
    · exact h
    · split
      · exact hgive
      · exact hfault
  unfold stateWrite
  split
  case h_1 => split; exacts [hpost, hfault]
  case h_2 => split; exacts [hservice _, hfault]
  case h_3 => split; exacts [cancelTaken_drowsy h n, hfault]
  case h_4 => exact hfault
  all_goals exact hfinished

theorem store_drowsy (h : s.Drowsy) (a : BitVec 13) (v : Word) : (store a v s).Drowsy := by
  have hfault : ∀ k, (portFault k a s).Drowsy := fun k => portFault_drowsy h k a
  have hslot : ∀ n i, (slotWrite n i v a s).Drowsy := fun n i => by
    unfold slotWrite
    split
    case h_4 => exact hfault _
    all_goals exact h.quiet
  have hscene : (sceneStore a.toNat v s).Drowsy :=
    h.quiet (by unfold sceneStore invalidate; split <;> rfl) (by unfold sceneStore invalidate; split <;> rfl)
  have hregister : (if a.toNat = 0x1001 then controlWrite v s else if a.toNat = 0x1002 then clearGroups v groups s
      else if a.toNat = 0x1003 then maskWrite v s
      else if a.toNat = 0x1000 ∨ a.toNat = 0x1004 ∨ a.toNat = 0x1005 then portFault .readOnly a s
      else portFault .unmapped a s).Drowsy := by
    split
    · exact h.quiet
    · split
      · exact clearPending_drowsy h _
      · split
        · exact h.quiet
        · split <;> exact hfault _
  unfold store
  simp only
  split
  · split
    · exact stateWrite_drowsy h _ v a
    · exact hslot _ _
  · split
    · exact hfault _
    · split
      · exact hscene
      · split
        · exact h.quiet
        · split
          · exact hfault _
          · split
            · exact h.quiet
            · exact hregister

theorem hostWrite_drowsy (h : s.Drowsy) (a : BitVec 13) (v : Word) : (hostWrite a v s).Drowsy ∨ Starts s (hostWrite a v s) := by
  unfold hostWrite
  split
  · exact .inl h
  · next hr =>
    split
    · exact .inr (.restart (by simpa using hr))
    · exact .inl (closeFrom_drowsy _ (store_drowsy (access_drowsy h) a v))

/-! ### The second close -/

theorem fullSecond_drowsy (h : s.Drowsy) (v : Nat) (a : Int) : (runReact (fullSecond v a) s).Drowsy := by
  refine h.runReact ?_ ?_ ?_ <;> unfold fullSecond <;> simp only <;> split
  case refine_3.isTrue => exact among_dozes_of_all rfl
  case refine_3.isFalse => nofun
  all_goals rfl

theorem emptySecond_drowsy (h : s.Drowsy) (v : Nat) (a : Int) : (runReact (emptySecond v a) s).Drowsy := by
  refine h.runReact ?_ ?_ ?_ <;> unfold emptySecond <;> simp only <;> split
  case refine_3.isTrue => exact among_dozes_of_all rfl
  case refine_3.isFalse => nofun
  all_goals rfl

theorem floorSecond_drowsy (h : s.Drowsy) (v : Nat) : (runReact (floorSecond v) s).Drowsy := by
  refine h.runReact ?_ ?_ ?_ <;> unfold floorSecond <;> simp only <;> split <;> split
  case refine_3.isTrue.isTrue | refine_3.isFalse.isTrue => exact among_dozes_of_all rfl
  case refine_3.isTrue.isFalse | refine_3.isFalse.isFalse => nofun
  all_goals rfl

theorem chargeSecond_drowsy (h : s.Drowsy) (v : Nat) (a : Int) : (chargeSecond v a s).Drowsy := by
  have hbank : (tallySecond a (setBank v a s)).Drowsy := h.quiet
  have hempty := emptySecond_drowsy (fullSecond_drowsy hbank v a) v a
  have hkeep : (keepTally (runReact (emptySecond v a) (runReact (fullSecond v a) (tallySecond a (setBank v a s))))).Drowsy :=
    hempty.quiet
  exact (floorSecond_drowsy hkeep v).run (among_dozes_of_all rfl)

theorem idleSecond_drowsy (h : s.Drowsy) : idleSecond s = s := if_neg fun e => by rw [h.1] at e; cases e.1

theorem windClose_drowsy (h : s.Drowsy) : (windClose s).Drowsy := by
  have hwake : (if windCrossed s && s.charge.power != .starting then wakeEvent s else s) = s := if_neg (by simp [h.1])
  unfold windClose
  rw [hwake]
  refine h.runReact ?_ ?_ ?_ <;> unfold windSecond <;> simp only <;> split <;> split
  case refine_3.isTrue.isTrue => exact among_dozes_of_all rfl
  case refine_3.isFalse.isTrue =>
    rw [if_pos h.1]
    exact among_dozes_of_all rfl
  case refine_3.isTrue.isFalse | refine_3.isFalse.isFalse => nofun
  all_goals rfl

/-- R32: a reading that is stale does not become so. -/
theorem ageNodes_drowsy (l : List (Fin 12)) : ∀ {s : State}, s.Drowsy → (ageNodes l s).Drowsy := by
  induction l with
  | nil => exact id
  | cons i l ih =>
    intro s h
    have hstale : ∀ i, (node s i).stale = true := by
      obtain ⟨-, -, -, -, -, -, -, hnodes, -⟩ := h
      exact hnodes
    have hnode : ∀ (x : Node) (j : Fin 12), node (setNode i x s) j = if j = i then x else node s j := fun x j => by
      show (s.link.nodes.set i x)[j] = _
      simp only [Fin.getElem_fin, Vector.getElem_set, node]
      split
      · next e => rw [if_pos (Fin.ext e.symm)]
      · next e => rw [if_neg fun h => e (congrArg Fin.val h).symm]
    have hset : (setNode i { node s i with age := min ((node s i).age + 1) Config.ageMax } s).Drowsy :=
      h.of_parts rfl rfl id rfl rfl rfl rfl (fun hn j => by
        rw [hnode]
        split
        · exact hn i
        · exact hn j) rfl fun o => ⟨.inl rfl, effClass_of_grid rfl rfl rfl⟩
    have htest : ∀ t : State, (node t i).stale = true → testStale i t = (t, []) := fun t ht => by rw [testStale, ht]; rfl
    have hstill := htest (setNode i { node s i with age := min ((node s i).age + 1) Config.ageMax } s)
      (by rw [hnode, if_pos rfl]; exact hstale i)
    exact ih (runReact_nil_drowsy (by rw [hstill]) (by rw [hstill]; exact hset))

theorem outlet_measureOutlets (s : State) (o : Fin 16) : outlet (measureOutlets s) o = measureOutlet (outlet s o) := by
  simp [outlet, measureOutlets]

theorem secondClose_drowsy (h : s.Drowsy) (l : List Sample) : (secondClose l s).Drowsy := by
  have htick : (tick s).Drowsy := by
    obtain ⟨hp, he, ho, hd, hq, ha, hst, hrest⟩ := h
    refine State.Drowsy.of_parts (s := s) ⟨hp, he, ho, hd, hq, ha, hst, hrest⟩ rfl rfl id rfl rfl ?_ ?_ id rfl
      fun o => ⟨.inl rfl, effClass_of_grid rfl rfl rfl⟩
    · show (s.movers.awning.move.map _) = _
      rw [ha]
      rfl
    · show (s.movers.step.move.map _) = _
      rw [hst]
      rfl
  have hcharge := chargeSecond_drowsy htick (meanVolts l) (meanAmps l)
  have hwind : (windClose (idleSecond (chargeSecond (meanVolts l) (meanAmps l) (tick s)))).Drowsy := by
    rw [idleSecond_drowsy hcharge]
    exact windClose_drowsy hcharge
  have hage := ageNodes_drowsy (roster (windClose (idleSecond (chargeSecond (meanVolts l) (meanAmps l) (tick s))))) hwind
  unfold secondClose
  simp only
  generalize ageNodes _ _ = u at hage
  have hmeasure : ∀ x : Outlet, (measureOutlet x).state = x.state ∧ (measureOutlet x).demand = x.demand := fun x => by
    unfold measureOutlet
    split <;> exact ⟨rfl, rfl⟩
  have hgrid := measureOutlets_grid u
  have hmeasured : (measureOutlets u).Drowsy := hage.of_parts rfl rfl id rfl rfl rfl rfl id rfl fun o =>
    ⟨.inl (outlet_grid hgrid o).2.1, effClass_of_grid (outlet_grid hgrid o).1 rfl rfl⟩
  exact hmeasured.quiet

theorem thresholdClose_drowsy (h : s.Drowsy) (f : State → Bool) (l : List Sample) : (thresholdClose f l s).Drowsy := by
  unfold thresholdClose
  split
  · exact secondClose_drowsy h l
  · exact h

/-! ### Inputs, outlets, movers -/

theorem setLine_drowsy (h : s.Drowsy) (i : FilteredInput) (x : Line) : (setLine i x s).Drowsy := by
  refine h.quiet ?_ ?_ <;> cases i with
  | vehicle v => cases v <;> rfl
  | pressureLow => rfl
  | endStop e => cases e <;> rfl

theorem vehicleTaken_drowsy (h : s.Drowsy) (i : VehicleInput) (b : Bool) : (vehicleTaken i b s).Drowsy := by
  have hsignal : (signalTaken i b s).Drowsy := (setLine_drowsy h _ _).run (among_dozes_of_all rfl)
  have hset : (setSource i b (signalTaken i b s)).Drowsy := by
    unfold setSource
    split <;> exact hsignal.quiet
  unfold vehicleTaken
  rw [if_pos h.1]
  split
  · refine runEach_drowsy ?_ hset
    unfold sourceActs
    split
    · exact among_dozes_of_all rfl
    · exact among_dozes_of_all rfl
    · nofun
  · exact h

theorem pullInEnd_drowsy (h : s.Drowsy) (o : Fin 16) : (pullInEnd o s).Drowsy := by
  unfold pullInEnd
  split
  · have hgrid : (setOutlet o { outlet s o with pullIn := false } s).grid = s.grid := setOutlet_grid s rfl fun e => by rw [e]
    exact h.of_parts rfl rfl id rfl rfl rfl rfl id rfl fun q =>
      ⟨.inl (outlet_grid hgrid q).2.1, effClass_of_grid (outlet_grid hgrid q).1 rfl rfl⟩
  · exact h

theorem recordSample_drowsy (h : s.Drowsy) (o : Fin 16) (k : Nat) : (recordSample o k s).Drowsy := by
  have hstall : (stallTick o s).Drowsy := by
    obtain ⟨hp, he, ho, hd, hq, ha, hst, hrest⟩ := h
    unfold stallTick
    split
    · refine State.Drowsy.of_parts (s := s) ⟨hp, he, ho, hd, hq, ha, hst, hrest⟩ rfl rfl id rfl rfl ?_ ?_ id rfl
        fun o => ⟨.inl rfl, effClass_of_grid rfl rfl rfl⟩
      · show (s.movers.awning.move.map _) = _
        rw [ha]
        rfl
      · show (s.movers.step.move.map _) = _
        rw [hst]
        rfl
    · exact ⟨hp, he, ho, hd, hq, ha, hst, hrest⟩
  have hout : ∀ q, outlet (stallTick o s) q = outlet s q := fun q => by unfold stallTick; split <;> rfl
  have hgrid : (recordSample o k s).grid = (stallTick o s).grid := by
    refine setOutlet_grid _ ?_ fun e => ?_
    · simp only [State.grid, hout]
    · rw [hout, e]
  exact hstall.of_parts rfl rfl id rfl rfl rfl rfl id rfl fun q =>
    ⟨.inl (outlet_grid hgrid q).2.1, effClass_of_grid (outlet_grid hgrid q).1 rfl rfl⟩

theorem currentSample_drowsy (h : s.Drowsy) (o : Fin 16) (k : Nat) : (currentSample o k s).Drowsy := by
  have hrecord := recordSample_drowsy h o k
  unfold currentSample
  split
  · simp only
    split
    · exact hrecord.run (by simp [Act.Among, Act.dozes])
    · exact hrecord
  · exact h

theorem tripIf_drowsy (h : s.Drowsy) (b : Bool) (o : Fin 16) (k : Nat) : (tripIf b o k s).Drowsy := by
  unfold tripIf
  split
  · exact currentSample_drowsy h o k
  · exact h

theorem pressureLow_drowsy (h : s.Drowsy) (b : Bool) : (pressureLow b s).Drowsy := by
  have htake : (takeLine .pressureLow b s).Drowsy := setLine_drowsy h _ _
  unfold pressureLow
  split
  · simp only
    rw [if_pos h.1]
    exact htake
  · exact h

/-- A mover's record changes beside its move. -/
theorem setMover_drowsy (h : s.Drowsy) (m : Mover) {x : MoverRec} (hx : x.move = (mover s m).move) : (setMover m x s).Drowsy := by
  refine h.quiet ?_ ?_ <;> cases m
  · exact congrArg (fun v => { s.lull with awning := v }) hx
  · exact congrArg (fun v => { s.lull with step := v }) hx
  · rfl
  · rfl

theorem hallPulse_drowsy (h : s.Drowsy) (m : Mover) : (runReact (hallPulse m) s).Drowsy := by
  have hmove : (mover s m).move = none := by
    obtain ⟨-, -, -, -, -, hawning, hstep, -⟩ := h
    cases m
    · exact hawning
    · exact hstep
  have hrest : hallPulse m s = restPulse m s := by unfold hallPulse; rw [hmove]
  rw [runReact, hrest]
  unfold restPulse
  simp only
  split
  · exact h.run nofun
  · refine (setMover_drowsy h m ?_).run (among_dozes_of_all rfl)
    split <;> rfl

theorem endStopTaken_drowsy (h : s.Drowsy) (e : EndStop) (b : Bool) : (endStopTaken e b s).Drowsy := by
  have htake : (takeLine (.endStop e) b s).Drowsy := setLine_drowsy h _ _
  unfold endStopTaken
  split
  · generalize takeLine (.endStop e) b s = u at htake
    unfold runReact
    split
    · unfold stopAsserted
      simp only
      split
      · refine (setMover_drowsy htake _ ?_).run ?_
        · rfl
        split
        · split
          · exact among_dozes_of_all rfl
          · nofun
        · split
          · exact among_dozes_of_all rfl
          · nofun
      · refine (setMover_drowsy htake _ ?_).run (among_dozes_of_all ?_) <;> rfl
    · unfold stopReleased
      simp only
      split
      · exact htake.run nofun
      · refine (setMover_drowsy htake _ ?_).run (among_dozes_of_all ?_) <;> rfl
  · exact h

theorem quietEnd_drowsy (h : s.Drowsy) (k : Nat) : (quietEnd k s).Drowsy := by
  unfold quietEnd
  split
  · simp only
    rw [if_pos (show (setLink (fun k => { k with phase := .idle }) s).charge.power = .starting from h.1)]
    exact h.quiet
  · exact h

/-- R187: the part becomes ACTIVE. -/
theorem startComplete_active (hr : s.pins.reset = false) (hp : s.charge.power = .starting) :
    (startComplete s).charge.power = .active := by
  have hdue : ∀ t : State, (recordsDue t).charge = t.charge := fun t => by
    unfold recordsDue linkBegins
    split
    · rfl
    · simp only
      split
      · obtain ⟨_, h⟩ := linkChoose_outside (nowMs t 0) (startDue (nowMs t 0) t)
        rw [h]
        exact overNodes_charge _ _ t
      · exact overNodes_charge _ _ t
  unfold startComplete
  rw [if_neg (by simp [hr, hp])]
  simp only
  generalize fullUpdate (initialEvaluation s) = v
  have hactive : (recordsDue (becomeActive v)).charge.power = .active := by rw [hdue]; rfl
  generalize recordsDue (becomeActive v) = w at hactive
  rw [close]
  obtain ⟨d, e⟩ := syncAll_digest parts (runEach (activeActs w) (clearStop w))
  rw [e]
  exact (congrArg Steady.power (runEach_steady (activeActs w) (clearStop w)) :).trans hactive

/-! ### Every command -/

/-- What a command makes of a part that starts. -/
def Rouses (i : Instr) (s : State) : Prop :=
  ∀ t, exec i s = .next t → t.Drowsy ∨ Starts s t ∨ (s.pins.reset = false ∧ t.charge.power ≠ .starting)

theorem Rouses.of_next {i : Instr} (h : t.Drowsy ∨ Starts s t ∨ (s.pins.reset = false ∧ t.charge.power ≠ .starting))
    (he : exec i s = .next t := by rfl) : Rouses i s := fun u hu => by
  obtain rfl : t = u := by simpa using he.symm.trans hu
  exact h

theorem Rouses.live {i : Instr} {f : State → State} (h : s.Drowsy) (hf : (f s).Drowsy)
    (he : exec i s = .next (live f s) := by rfl) : Rouses i s := .of_next (.inl (live_drowsy h hf)) he

theorem Rouses.inRun {i : Instr} {f : State → State} (h : s.Drowsy) (he : exec i s = .next (inRun f s) := by rfl) : Rouses i s :=
  .of_next (.inl h) (he.trans (congrArg _ (inRun_drowsy h f)))

theorem Rouses.host {i : Instr} {a : BitVec 13} {v : Word} (h : s.Drowsy) (he : exec i s = .next (hostWrite a v s) := by rfl) :
    Rouses i s := .of_next ((hostWrite_drowsy h a v).imp_right .inl) he

theorem exec_rouses (i : Instr) (h : s.Drowsy) : Rouses i s := by
  cases i
  case hostRead a => exact .of_next (.inl (hostRead_drowsy h a))
  case slotWordWrite | slotPost | slotCancelPosted | slotCancelTaken | slotCancelLate | slotGiveBack | slotStateFault | sceneWrite
      | stagingWrite | digestWrite | unmappedWrite | registerWrite | restart | attnEn | ordAutoclr | noticeClear | noticeMask =>
    exact .host h
  case serviceInput b =>
    refine .of_next (t := if s.pins.reset then setService b s else closeFrom s (setService b s)) (.inl ?_)
    have hset : (setService b s).Drowsy := h.quiet
    split
    · exact hset
    · exact closeFrom_drowsy s hset
  case powerOn => exact .of_next (.inr (.inl .powerOn))
  case resetAssert d =>
    refine .of_next (t := if s.pins.reset then s else resetAssert d s) ?_
    split
    · exact .inl h
    · next hr => exact .inr (.inl (.assert d (by simpa using hr)))
  case resetRelease =>
    refine .of_next (t := if s.pins.reset then resetRelease s else s) ?_
    split
    · next hr => exact .inr (.inl (.release hr))
    · exact .inl h
  case linkStartQuiet k => exact .live h (quietEnd_drowsy h k)
  case startComplete =>
    refine .of_next (t := startComplete s) ?_
    cases hr : s.pins.reset with
    | true => exact .inl (by rw [startComplete, if_pos (.inl hr)]; exact h)
    | false => exact .inr (.inr ⟨rfl, by rw [startComplete_active hr h.1]; nofun⟩)
  case secondClose l => exact .live h (secondClose_drowsy h l)
  case fullSync | emptySync | voltageFloorEntry | voltageFloorExit | restEntry | readingStale | windHighSet | windHighClear =>
    exact .live h (thresholdClose_drowsy h _ _)
  case filteredInputEdge i b => exact .of_next (.inl (setLine_drowsy h i _))
  case vehicleInput i b => exact .live h (vehicleTaken_drowsy h i b)
  case valvePullInEnd o => exact .of_next (.inl (pullInEnd_drowsy h o))
  case immediateTrip o k => exact .of_next (.inl (closeFrom_drowsy s (tripIf_drowsy h _ o k)))
  case sustainedTrip o k => exact .of_next (.inl (closeFrom_drowsy s (tripIf_drowsy h _ o k)))
  case currentSample o k => exact .of_next (.inl (closeFrom_drowsy s (currentSample_drowsy h o k)))
  case pressureLow b => exact .live h (pressureLow_drowsy h b)
  case hallPulse m => exact .live h (hallPulse_drowsy h m)
  case endStop e b => exact .live h (endStopTaken_drowsy h e b)
  case windPulse => exact .live (f := Machine.windPulse) h h.quiet
  all_goals exact .inRun h

end Sys2Proof.Machine
end

section
/-!
PROOF. No outlet in ON or WAITING is inhibited or shed (O7): a start establishes it, and every other command keeps it.
-/
namespace Sys2Proof.Machine

variable {s t u : State} {k : StartKind}

/-! ### The class of DRAIN VALVE -/

/-- A list of checks that finds no failure has every check hold. -/
theorem needAll_none {l : List (Nat × Bool)} (h : Image.needAll l = none) : ∀ c ∈ l, c.2 = true := by
  induction l with
  | nil => nofun
  | cons c l ih =>
    obtain ⟨o, ok⟩ := c
    cases ok with
    | false => cases h
    | true => exact fun d hd => (List.mem_cons.1 hd).elim (fun e => by rw [e]) (ih h d)

/-- R180: a valid image has DRAIN VALVE PROTECTED. -/
theorem outletClass_drain_of_valid {i : Image} (h : Image.judge i = .valid) : Image.outletClass i 1 = 0 := by
  have hfields : Image.fieldCheck i = none := by
    unfold Image.judge at h
    split at h
    · split at h <;> cases h
    · split at h
      · cases h
      · assumption
  have houtlets : Image.needAll ((List.range 16).flatMap (Image.outletChecks i)) = none := by
    unfold Image.fieldCheck at hfields
    cases hc : Image.needAll (Image.chargeChecks i) with
    | some x => rw [hc] at hfields; cases hfields
    | none =>
      cases ho : Image.needAll ((List.range 16).flatMap (Image.outletChecks i)) with
      | some x => rw [hc, ho] at hfields; cases hfields
      | none => rfl
  have hcheck := needAll_none houtlets (0x014, Image.outletClass i 1 == 0)
    (List.mem_flatMap.2 ⟨1, by simp, by simp [Image.outletChecks]⟩)
  exact beq_iff_eq.1 hcheck

theorem outletClass_drain_default : Image.outletClass Image.default 1 = 0 := by decide

/-- R186: DRAIN VALVE is PROTECTED in the settings a start loads. -/
theorem configuredClass_loadSettings (s : State) : configuredClass (settlePins (loadSettings s)) 1 = 0 := by
  obtain ⟨hresult, hvalid, hdefault⟩ := settlePins_loadSettings_store s
  show Image.outletClass (settlePins (loadSettings s)).store.active 1 = 0
  by_cases h : (settlePins (loadSettings s)).store.result = .valid
  · rw [(hvalid h).1]
    exact outletClass_drain_of_valid (hresult.symm.trans h)
  · rw [(hdefault h).1]
    exact outletClass_drain_default

/-! ### The blocks at a start -/

/-- R140: the supply is held through the start, and the sequencer starts in STOPPING. -/
def heldThrough (k : StartKind) (s : State) : Bool := k == .restart && s.retained.heater && (outlet s 2).state == .on

/-- R140: the sequencer's state at a start. -/
def startSeq (k : StartKind) (s : State) : SeqState := if heldThrough k s then .stopping else .off

theorem startSeq_active (k : StartKind) (s : State) : (startSeq k s).active = heldThrough k s := by
  unfold startSeq
  cases heldThrough k s <;> rfl

theorem startWater_supply (k : StartKind) (s : State) : outlet (startWater k s) 2 = outlet s 2 ∧
    (startWater k s).retained.heater = s.retained.heater := by
  refine ⟨?_, by simp [startWater, setLatch, setFrost]⟩
  unfold startWater setHeld
  rw [outlet_setOutlet, if_neg (by decide)]
  rfl

/-- R129: the held flag of the supply and the retained flag go with the sequencer's state. -/
theorem seqFlags_supply (s : State) : (seq (seqFlags s)).state = (seq s).state ∧ (seqFlags s).outlets.heater = s.outlets.heater ∧
    (outlet (seqFlags s) 2).held = (seq s).state.active ∧ (seqFlags s).retained.heater = (seq s).state.active := by
  have hout : outlet (seqFlags s) 2 = { outlet s 2 with held := (seq s).state.active } := by
    have e : outlet (seqFlags s) 2 = outlet (setHeld 2 (seq s).state.active s) 2 := rfl
    rw [e, setHeld, outlet_setOutlet, if_pos rfl]
  exact ⟨rfl, rfl, by rw [hout], rfl⟩

theorem startClimate_supply (k : StartKind) (s : State) : (seq (startClimate k s)).state = startSeq k s ∧
    (startClimate k s).outlets.heater = startSeq k s ∧ (outlet (startClimate k s) 2).held = heldThrough k s ∧
    (startClimate k s).retained.heater = heldThrough k s := by
  rw [← startSeq_active]
  cases k with
  | powerOn => exact seqFlags_supply _
  | restart =>
    have hstart : startSeq .restart s = if (s.retained.heater && (outlet s 2).state == .on) = true then .stopping else .off := rfl
    rw [hstart]
    exact seqFlags_supply _

theorem setMover_kept (m : Mover) (x : MoverRec) (s : State) : (setMover m x s).retained.heater = s.retained.heater := by
  cases m <;> rfl

section
variable (k : StartKind) (s : State)

/-- R140: the sequencer, the class of the supply and the two flags after a start. -/
theorem startBlocks_supply : (seq (startBlocks k s)).state = startSeq k s ∧ (startBlocks k s).outlets.heater = startSeq k s ∧
    (outlet (startBlocks k s) 2).held = heldThrough k s ∧ (startBlocks k s).retained.heater = heldThrough k s := by
  have hbefore : heldThrough k (startWater k (startCharge k (startBase k s))) = heldThrough k s := by
    obtain ⟨hout, hkept⟩ := startWater_supply k (startCharge k (startBase k s))
    unfold heldThrough
    rw [hout, hkept]
    rfl
  have hafter : (seq (startBlocks k s)).state = (seq (startClimate k (startWater k (startCharge k (startBase k s))))).state ∧
      (startBlocks k s).outlets = (startClimate k (startWater k (startCharge k (startBase k s)))).outlets ∧
      (startBlocks k s).retained.heater = (startClimate k (startWater k (startCharge k (startBase k s)))).retained.heater := by
    refine ⟨by rw [seq, startBlocks_climate]; rfl, startBlocks_outlets k s, ?_⟩
    rw [startBlocks_eq]
    exact (setMover_kept _ _ _).trans (setMover_kept _ _ _)
  obtain ⟨hseq, hheater, hheld, hkept⟩ := startClimate_supply k (startWater k (startCharge k (startBase k s)))
  obtain ⟨hseq', hout', hkept'⟩ := hafter
  rw [hseq', hkept', hout', outlet, hout', ← outlet, hseq, hheater, hheld, hkept]
  unfold startSeq
  rw [hbefore]
  exact ⟨rfl, rfl, rfl, rfl⟩

/-- What a start begins from, where it leaves a part that starts: no order in hand, and no outlet in WAITING or SHED, or in ON but
one held through the restart. -/
structure Wakeable : Prop where
  owners : s.disp.owners = []
  drain : configuredClass s 1 = 0
  outlets : ∀ o, (outlet s o).state ≠ .waiting ∧ (outlet s o).state ≠ .shed ∧
    ((outlet s o).state = .on → (o = 1 ∨ o = 2) ∧ (outlet s o).inhibit = 0)
  supply : (outlet s 2).state = .on → heldThrough k s = true

variable {k s}

theorem configuredClass_startBlocks (o : Fin 16) : configuredClass (startBlocks k s) o = configuredClass s o :=
  configuredClass_active (congrArg Store.active (startBlocks_frame k s).store) o

theorem startBlocks_drowsy (h : Wakeable k s) : (startBlocks k s).Drowsy := by
  obtain ⟨hseq, hheater, -, hkept⟩ := startBlocks_supply k s
  have hout : ∀ o, (outlet (startBlocks k s) o).state = (outlet s o).state := fun o => by
    obtain ⟨b, hb⟩ := startBlocks_sameButHeld k s o
    rw [hb]
  refine ⟨startBlocks_power k s, startBlocks_evaluated k s, ?_, ?_, ?_, startBlocks_move k s .awning, startBlocks_move k s .step, ?_, ?_, ?_⟩
  · rw [(startBlocks_frame k s).disp]
    exact h.owners
  · rw [startBlocks_climate]
    simp [startClimate, seqFlags]
  · rw [hseq]
    unfold startSeq
    split
    · exact .inr rfl
    · exact .inl rfl
  · intro i
    have hlink : (startBlocks k s).link = {} := (startBlocks_frame k s).link
    rw [node, hlink]
    show ((Vector.replicate 12 ({} : Node))[i]).stale = true
    simp
  · rw [hout, hkept]
    exact h.supply
  · intro o
    obtain ⟨hwaiting, hshed, hon⟩ := h.outlets o
    rw [hout]
    refine ⟨hwaiting, hshed, fun e => ⟨(hon e).1, ?_⟩⟩
    rcases (hon e).1 with rfl | rfl
    · rw [effClass, if_neg fun e => absurd e.1 (by decide), if_neg fun e => absurd e.1 (by decide), configuredClass_startBlocks]
      exact h.drain
    · have hstopping : (startBlocks k s).outlets.heater = .stopping := by rw [hheater, startSeq, if_pos (h.supply e)]
      rw [effClass, if_neg fun e => absurd e.1 (by decide), hstopping, if_pos ⟨rfl, rfl⟩]

end

/-- A part that starts meets the invariant where the outlets held through are not inhibited. -/
theorem State.Drowsy.clearInv (h : s.Drowsy) (hi : ∀ o, (outlet s o).state = .on → (outlet s o).inhibit = 0)
    (hd : configuredClass s 1 = 0) (hk : (outlet s 2).held = true → s.retained.heater = true) : s.ClearInv := by
  refine ⟨fun o ho => ?_, fun o ho => absurd ho (h.not_waiting o).2, hd, hk, fun _ => h.1, fun _ => h.2⟩
  have hon := ho.resolve_right (h.not_waiting o).1
  exact ⟨hi o hon, by rw [isShed, h.class_of_on hon]; rfl⟩

theorem startBlocks_clearInv (h : Wakeable k s) : (startBlocks k s).ClearInv := by
  obtain ⟨-, -, hheld, hkept⟩ := startBlocks_supply k s
  refine (startBlocks_drowsy h).clearInv (fun o hon => ?_) ((configuredClass_startBlocks 1).trans h.drain) fun e => ?_
  · obtain ⟨b, hb⟩ := startBlocks_sameButHeld k s o
    rw [hb] at hon ⊢
    exact ((h.outlets o).2.2 hon).2
  · rw [hkept, ← hheld]
    exact e

/-! ### Power-on and RESET -/

theorem powerOn_clearInv (s : State) : (powerOn s).ClearInv := by
  have hout : ∀ o, outlet (settlePins (loadSettings (powerOnBase s))) o = {} := fun o => by
    show (Vector.replicate 16 ({} : Outlet))[o] = {}
    simp
  refine startBlocks_clearInv ⟨rfl, configuredClass_loadSettings _, fun o => ?_, fun e => ?_⟩
  · rw [hout]
    exact ⟨nofun, nofun, nofun⟩
  · rw [hout] at e
    cases e

theorem restartOutlet_on {o : Fin 16} {x : Outlet} : (restartOutlet o x).state ≠ .waiting ∧ (restartOutlet o x).state ≠ .shed ∧
    ((restartOutlet o x).state = .on → (o = 1 ∨ o = 2) ∧ x.held = true ∧ (restartOutlet o x).inhibit = 0) := by
  unfold restartOutlet
  split
  · next h =>
    simp only [isHeld, Bool.and_eq_true, Bool.or_eq_true, beq_iff_eq] at h
    obtain ⟨⟨ho, hheld⟩, hon⟩ := h
    have hstate : ∀ y : Outlet, y.state = x.state → y.state ≠ .waiting ∧ y.state ≠ .shed := fun y hy => by
      rw [hy, hon]
      exact ⟨nofun, nofun⟩
    exact ⟨(hstate _ rfl).1, (hstate _ rfl).2, fun _ => ⟨ho, hheld, rfl⟩⟩
  · exact ⟨nofun, nofun, nofun⟩

/-- The retained flag may be another where it is set with the supply in ON, or held. -/
theorem State.ClearInv.of_retained {r : Retained} (h : s.ClearInv) (hon : (outlet s 2).state = .on → r.heater = true)
    (hheld : (outlet s 2).held = true → r.heater = true) : ({ s with retained := r } : State).ClearInv := by
  obtain ⟨hc, hs, hd, -, hr, hw⟩ := h
  refine ⟨hc, hs, hd, hheld, hr, fun hp => ?_⟩
  obtain ⟨he, ho, hdem, hseq, ha, hst, hn, -, hout⟩ := hw hp
  exact ⟨he, ho, hdem, hseq, ha, hst, hn, hon, hout⟩

theorem resetBase_outside (d : Bool) (s : State) : (resetBase d s).retained = s.retained ∧ (resetBase d s).disp = {} ∧
    (resetBase d s).store.active = s.store.active := by
  unfold resetBase tearDigest restartOutlets
  exact ⟨rfl, rfl, rfl⟩

theorem resetBase_wakeable (d : Bool) (hd : configuredClass s 1 = 0) (hk : (outlet s 2).held = true → s.retained.heater = true) :
    Wakeable .restart (resetBase d s) := by
  obtain ⟨hretained, hdisp, hactive⟩ := resetBase_outside d s
  refine ⟨by rw [hdisp], (configuredClass_active hactive 1).trans hd, fun o => ?_, fun e => ?_⟩
  · rw [outlet_resetBase]
    obtain ⟨hw, hs, hon⟩ := restartOutlet_on (o := o) (x := outlet s o)
    exact ⟨hw, hs, fun e => ⟨(hon e).1, (hon e).2.2⟩⟩
  · have hon := e
    rw [outlet_resetBase] at hon
    rw [heldThrough, hretained, hk (restartOutlet_on.2.2 hon).2.1, e]
    rfl

theorem resetAssert_eq (d : Bool) (s : State) :
    resetAssert d s = { startBlocks .restart (resetBase d s) with retained := s.retained } := rfl

/-- R88: only an outlet held through the restart stays ON, and what it was retained for goes on. -/
theorem resetAssert_clearInv (d : Bool) (h : s.ClearInv) : (resetAssert d s).ClearInv := by
  obtain ⟨-, -, hdrain, hkept, -, -⟩ := h
  have hwake := resetBase_wakeable d hdrain hkept
  have hthrough : heldThrough .restart (resetBase d s) = true → s.retained.heater = true := fun e => by
    rw [heldThrough, (resetBase_outside d s).1] at e
    simp only [Bool.and_eq_true] at e
    exact e.1.2
  have hon : (outlet (startBlocks .restart (resetBase d s)) 2).state = .on → s.retained.heater = true := fun e => by
    obtain ⟨b, hb⟩ := startBlocks_sameButHeld .restart (resetBase d s) 2
    rw [hb] at e
    exact hthrough (hwake.supply e)
  have hheld : (outlet (startBlocks .restart (resetBase d s)) 2).held = true → s.retained.heater = true := fun e => by
    rw [(startBlocks_supply .restart (resetBase d s)).2.2.1] at e
    exact hthrough e
  rw [resetAssert_eq]
  exact (startBlocks_clearInv hwake).of_retained hon hheld

theorem freshSecond_state (x : Outlet) : (freshSecond x).state = x.state ∧ (freshSecond x).inhibit = x.inhibit := by
  unfold freshSecond
  split <;> exact ⟨rfl, rfl⟩

theorem resetRelease_clearInv (h : s.ClearInv) (hr : s.pins.reset = true) : (resetRelease s).ClearInv := by
  obtain ⟨hclear, -, -, -, hstarting, hwaking⟩ := h
  obtain ⟨-, howners, -, -, -, -, -, hkept, hout⟩ := hwaking (hstarting hr)
  have hbase : ∀ o, (outlet (releaseBase s) o).state = (outlet s o).state ∧ (outlet (releaseBase s) o).inhibit = (outlet s o).inhibit :=
    fun o => by rw [outlet_releaseBase]; exact freshSecond_state _
  have hretained : (releaseBase s).retained = s.retained := by
    rw [releaseBase_eq_sweep]
    exact (settlePins_loadSettings_outside _).2.2.1.trans (sweep_outside _).2.2.1
  have hdisp : (releaseBase s).disp = s.disp := by
    rw [releaseBase_eq_sweep]
    exact (settlePins_loadSettings_disp _).trans (sweep_disp _)
  rw [resetRelease_eq]
  refine startBlocks_clearInv ⟨?_, configuredClass_loadSettings _, fun o => ?_, fun e => ?_⟩
  · rw [hdisp]
    exact howners
  · obtain ⟨hw, hs, hon⟩ := hout o
    rw [(hbase o).1, (hbase o).2]
    exact ⟨hw, hs, fun e => ⟨(hon e).1, (hclear o (.inl e)).1⟩⟩
  · have hon := (hbase 2).1.symm.trans e
    simp [heldThrough, hretained, hkept hon, e]

theorem resetAssert_reset (d : Bool) (s : State) : (resetAssert d s).pins.reset = true := by rw [resetAssert_pins]

theorem Starts.clearInv (hs : Starts s t) (h : s.ClearInv) : t.ClearInv := by
  cases hs with
  | powerOn => exact powerOn_clearInv s
  | assert d _ => exact resetAssert_clearInv d h
  | release hr => exact resetRelease_clearInv h hr
  | restart _ =>
    have hbegin : ({ s with restarts := s.restarts + 1 } : State).ClearInv := h
    exact resetRelease_clearInv (resetAssert_clearInv _ hbegin) (resetAssert_reset _ _)

/-- What `Fares` keeps of the invariant, the start's part apart. -/
theorem Fares.clearInv (hf : Fares s t) (h : s.ClearInv) (ho : t.overrun = false) (hr : t.pins.reset = true → t.charge.power = .starting)
    (hw : t.charge.power = .starting → t.Waking) : t.ClearInv := by
  obtain ⟨hclear, hshed, hdrain, hkept, -, -⟩ := h
  have hfree := hf.free fun o e => e.elim (fun e => (hclear o (.inl e)).1) fun e => e.elim (fun e => (hclear o (.inr e)).1) (hshed o)
  have hnot := hf.clear ho fun o e => (hclear o e).2
  exact ⟨fun o e => ⟨hfree o (e.imp_right .inl), hnot o e⟩, fun o e => hfree o (.inr (.inr e)), hf.drain hdrain, hf.kept hkept, hr, hw⟩

/-- Settles O7: a start establishes the invariant; every other command keeps it, and a part that starts goes on as it is or becomes
ACTIVE. -/
theorem stepKeepsOutletsClear : Obligations.StepKeepsOutletsClear := by
  intro s t hs hstep ho
  unfold step at hstep
  split at hstep
  · obtain rfl : s = t := by simpa using hstep
    exact hs
  · next c l _ =>
    generalize hu : ({ s with pending := l } : State) = u at hstep
    have hinv : u.ClearInv := by rw [← hu]; exact hs
    obtain ⟨-, -, -, -, hreset, hwaking⟩ := id hinv
    rcases exec_treads c u t hstep with hfares | hstarts
    · by_cases hp : u.charge.power = .starting
      · rcases exec_rouses c ⟨hp, hwaking hp⟩ t hstep with ⟨hpower, hwake⟩ | hstarts | ⟨hr, hactive⟩
        · exact hfares.clearInv hinv ho (fun _ => hpower) fun _ => hwake
        · exact hstarts.clearInv hinv
        · exact hfares.clearInv hinv ho (fun e => absurd (hfares.reset.symm.trans e) (by simp [hr])) fun e => absurd e hactive
      · have hr : u.pins.reset = false := by simpa using mt hreset hp
        exact hfares.clearInv hinv ho (fun e => absurd (hfares.reset.symm.trans e) (by simp [hr])) fun e =>
          absurd e (hfares.awake hp)
    · exact hstarts.clearInv hinv

end Sys2Proof.Machine
end

section
/-!
PROOF. The current samples, the trips and the valves' pull-in (O49).
-/
namespace Sys2Proof.Machine

variable {s t u : State} {r : Run} {o : Fin 16}

/-! ### A trip stands -/

/-- An outlet in TRIPPED stays there where no act of the stack decides on it, and reserves no charge. -/
theorem settle_tripped : ∀ (k : Nat) {r : Run}, (outlet r.st o).state = .tripped → (outlet r.st o).Idle →
    (∀ a ∈ r.work, a.Among (Act.passes o)) → (outlet (settle k r) o).state = .tripped ∧ (outlet (settle k r) o).charge = 0
  | 0, r, ht, hi, _ => by
    have hc : (outlet r.st o).charge = 0 := hi (by rw [ht]; nofun)
    unfold settle
    split
    · exact ⟨ht, hc⟩
    · exact ⟨ht, hc⟩
  | k + 1, r, ht, hi, hp => by
    unfold settle
    split
    · exact ⟨ht, hi (by rw [ht]; nofun)⟩
    · next a l hw =>
      rw [hw] at hp
      have hturns := perform_turns a { r with work := l }
      obtain ⟨p, hpush⟩ := perform_pushes a { r with work := l }
      have ha := hp a List.mem_cons_self
      refine settle_tripped k (hturns.tripped o ht (Act.passes_of_among ha)) (hturns.idle o hi) fun b hb => ?_
      rw [hpush.work] at hb
      rcases hpush.passes o ha with h | ⟨-, hne, -⟩
      · exact (List.mem_append.1 hb).elim (h b) fun e => hp b (List.mem_cons_of_mem a e)
      · exact absurd ht hne

/-- R82: the outlet trips, reserves nothing, drives nothing, and the notice is raised. -/
theorem tripNow_tripped (o : Fin 16) (s : State) : (outlet (tripNow o s) o).state = .tripped ∧ (outlet (tripNow o s) o).charge = 0 ∧
    Noticed (tripNow o s) .outlets 14 := by
  have hrun : tripNow o s = settle 9998 (perform (.trip o) { st := s, work := [.flush, .actEnd, .restore false], acting := 1 }) := rfl
  have hout : outlet (perform (.trip o) { st := s, work := [.flush, .actEnd, .restore false], acting := 1 }).st o =
      (outlet s o).darkened .tripped := by
    have e : outlet (perform (.trip o) { st := s, work := [.flush, .actEnd, .restore false], acting := 1 }).st o =
        outlet (darkOutlet o .tripped s) o := rfl
    rw [e, outlet_dark, if_pos rfl]
  have hnotice : Noticed (perform (.trip o) { st := s, work := [.flush, .actEnd, .restore false], acting := 1 }).st .outlets 14 :=
    raise_noticed .outlets (by decide) _
  have hwork : (perform (.trip o) { st := s, work := [.flush, .actEnd, .restore false], acting := 1 }).work =
      [.flush, .actEnd, .restore false] := rfl
  rw [hrun]
  generalize perform (.trip o) { st := s, work := [.flush, .actEnd, .restore false], acting := 1 } = r at *
  obtain ⟨htripped, hcharge⟩ := settle_tripped (o := o) 9998 (r := r) (by rw [hout]; rfl) (by rw [hout]; exact fun _ => rfl)
    (by rw [hwork]; simp [Act.Among, Act.passes, Act.decides])
  exact ⟨htripped, hcharge, (settle_follows 9998 r).notices _ _ hnotice⟩

/-! ### The samples -/

theorem drive_dark (h : (outlet s o).state ≠ .on) : drive s o = 0 := if_pos h

/-- R80: the overcurrent time after a sample. -/
theorem overAfter_eq (s : State) (o : Fin 16) (k : Nat) : overAfter s o k =
    if 3 * ratedOf s o < 2 * min k (Image.fullScale (cfg s) o.val) then min ((outlet s o).overMs + 10) 200 else 0 := by
  unfold overAfter above150
  simp only [decide_eq_true_eq]
  rfl

/-- What a row makes of the outlet that trips. -/
def TripsOutlet (o : Fin 16) (t : State) : Prop :=
  (outlet t o).state = .tripped ∧ (outlet t o).charge = 0 ∧ drive t o = 0 ∧ Noticed t .outlets 14

theorem TripsOutlet.closeFrom (h : TripsOutlet o t) (old : State) : TripsOutlet o (closeFrom old t) := by
  obtain ⟨d, e⟩ := closeFrom_digest old t
  rw [e]
  exact h

theorem tripNow_trips (o : Fin 16) (s : State) : TripsOutlet o (tripNow o s) := by
  obtain ⟨hstate, hcharge, hnotice⟩ := tripNow_tripped o s
  exact ⟨hstate, hcharge, drive_dark (by rw [hstate]; nofun), hnotice⟩

/-- R80, R81: a sample that trips. -/
theorem currentSample_trips {k : Nat} (hon : (outlet s o).state = .on)
    (h : 3 * ratedOf s o < min k (Image.fullScale (cfg s) o.val) ∨ 200 ≤ overAfter s o k) : TripsOutlet o (currentSample o k s) := by
  have hcond : (above300 s o k || decide (Config.sustainedTripMs ≤ overAfter s o k)) = true := by
    rw [Bool.or_eq_true, decide_eq_true_eq]
    exact h.imp_left decide_eq_true
  rw [currentSample, if_pos hon]
  simp only
  rw [if_pos hcond]
  exact tripNow_trips o _

/-- R80: a sample that does not trip is recorded. -/
theorem currentSample_records {k : Nat} (hon : (outlet s o).state = .on) (h300 : min k (Image.fullScale (cfg s) o.val) ≤ 3 * ratedOf s o)
    (hover : overAfter s o k < 200) : currentSample o k s = recordSample o k s := by
  have hcond : ¬ (above300 s o k || decide (Config.sustainedTripMs ≤ overAfter s o k)) = true := by
    rw [Bool.or_eq_true, decide_eq_true_eq]
    exact fun e => e.elim (fun e => absurd (of_decide_eq_true e) (Nat.not_lt.2 h300)) (Nat.not_le.2 hover)
  rw [currentSample, if_pos hon]
  simp only
  rw [if_neg hcond]

theorem recordSample_eq (s : State) (o : Fin 16) (k : Nat) : recordSample o k s = setOutlet o { outlet s o with
    sum := (outlet s o).sum + min k (Image.fullScale (cfg s) o.val), samples := (outlet s o).samples + 1,
    overMs := if 3 * ratedOf s o < 2 * min k (Image.fullScale (cfg s) o.val) then min ((outlet s o).overMs + 10) 200 else 0 }
    (stallTick o s) := by
  rw [← overAfter_eq]
  rfl

/-- R151: a sample of the BRIDGE adds its 10 ms to the stall timer of a move that drives. -/
theorem stallTick_move {m : Mover} {v : Move} (hm : (mover s m).move = some v) :
    (mover (stallTick 5 s) m).move = some (if v.driving then { v with stall := min (v.stall + 10) 400 } else v) := by
  have h : mover (stallTick 5 s) m = stallStep (mover s m) := by cases m <;> rfl
  rw [h, stallStep, hm]
  rfl

theorem stallTick_movers (h : o ≠ 5) : (stallTick o s).movers = s.movers := by rw [stallTick, if_neg h]

/-- Settles O49. -/
theorem samplesAndTrips : Obligations.SamplesAndTrips := by
  intro s o k
  simp only
  rw [← overAfter_eq]
  have hsample : exec (.currentSample o k) s = .next (closeFrom s (currentSample o k s)) := rfl
  refine ⟨fun hon h300 hover => ?_, fun hon h => ?_, fun hon h => ?_, fun hon h => ?_, fun hoff => ?_, fun ho hon => ?_⟩
  · rw [currentSample_records hon h300 hover] at hsample
    have hmovers : (closeFrom s (recordSample o k s)).movers = (stallTick o s).movers := by
      obtain ⟨d, e⟩ := closeFrom_digest s (recordSample o k s)
      rw [e]
      rfl
    refine ⟨_, hsample, closeFrom_sansDigest _ _, fun ho => hmovers.trans (stallTick_movers ho), fun m v ho hm => ?_⟩
    subst ho
    have hmover : mover (closeFrom s (recordSample 5 k s)) m = mover (stallTick 5 s) m := by
      cases m
      · exact congrArg Movers.awning hmovers
      · exact congrArg Movers.step hmovers
    rw [hmover]
    exact stallTick_move hm
  · exact ⟨_, hsample, (currentSample_trips hon h).closeFrom s⟩
  · have hrow : exec (.immediateTrip o k) s = .next (closeFrom s (tripIf (above300 s o k) o k s)) := rfl
    rw [tripIf, if_pos (show above300 s o k = true from decide_eq_true h)] at hrow
    exact ⟨_, hrow, (currentSample_trips hon (.inl h)).closeFrom s⟩
  · have hrow : exec (.sustainedTrip o k) s =
        .next (closeFrom s (tripIf (decide (Config.sustainedTripMs ≤ overAfter s o k)) o k s)) := rfl
    rw [tripIf, if_pos (show decide (Config.sustainedTripMs ≤ overAfter s o k) = true from decide_eq_true h)] at hrow
    exact ⟨_, hrow, (currentSample_trips hon (.inr h)).closeFrom s⟩
  · rw [currentSample, if_neg hoff] at hsample
    exact ⟨_, hsample, closeFrom_sansDigest _ _⟩
  · have hrow : exec (.valvePullInEnd o) s = .next (pullInEnd o s) := rfl
    rw [pullInEnd, if_pos hon] at hrow
    refine ⟨_, hrow, rfl, ?_⟩
    have hout : outlet (setOutlet o { outlet s o with pullIn := false } s) o = { outlet s o with pullIn := false } := by
      rw [outlet_setOutlet, if_pos rfl]
    rw [drive, hout, if_neg (not_not.2 hon), if_pos ho]
    rfl

end Sys2Proof.Machine
end

section
/-!
SUPPORT. Sums of the reserved charges, the one candidate of a revocation, the one request that waits, and what a passage of a cascade
keeps.
-/
namespace Sys2Proof.Machine

variable {s t u : State} {o q : Fin 16}

/-! ### The granted total (R64) -/

theorem grantedTotal_eq_sum (s : State) : grantedTotal s = ∑ q : Fin 16, (outlet s q).charge := by
  have htable : s.outlets.table = Vector.ofFn fun q : Fin 16 => outlet s q := Vector.ext fun i hi => by simp [outlet]
  rw [grantedTotal, htable, Vector.toList_ofFn, List.map_ofFn, List.sum_ofFn]
  rfl

/-- The total where the charge of one outlet alone differs. -/
theorem grantedTotal_change (h : ∀ q, q ≠ o → (outlet t q).charge = (outlet s q).charge) :
    grantedTotal t + (outlet s o).charge = grantedTotal s + (outlet t o).charge := by
  have hrest : ∑ q ∈ Finset.univ.erase o, (outlet t q).charge = ∑ q ∈ Finset.univ.erase o, (outlet s q).charge :=
    Finset.sum_congr rfl fun q hq => h q (Finset.ne_of_mem_erase hq)
  rw [grantedTotal_eq_sum, grantedTotal_eq_sum, ← Finset.add_sum_erase _ _ (Finset.mem_univ o),
    ← Finset.add_sum_erase _ (fun q => (outlet s q).charge) (Finset.mem_univ o), hrest]
  omega

/-! ### The candidate (R69) -/

theorem better_first (hq : FirstRevoked s q) (o : Fin 16) : Run.Turns.better s (some q) o = some q := by
  obtain ⟨-, -, hfirst⟩ := hq
  unfold Run.Turns.better
  split
  · next ho =>
    by_cases e : o = q
    · subst e
      simp
    · have hless := hfirst o e ho.1 ho.2
      simp only
      rw [if_neg]
      rintro (h | ⟨h, h'⟩) <;> rcases hless with g | ⟨g, g'⟩
      · exact lt_asymm g h
      · exact absurd g h.ne'
      · exact absurd h g.ne'
      · exact lt_asymm g' h'
  · rfl

theorem better_arrives (hq : FirstRevoked s q) {b : Option (Fin 16)}
    (hb : ∀ c, b = some c → (outlet s c).state = .on ∧ effClass s c ≠ 0) : Run.Turns.better s b q = some q := by
  cases b with
  | none => exact if_pos ⟨hq.1, hq.2.1⟩
  | some c =>
    by_cases e : c = q
    · subst e
      exact better_first hq c
    · obtain ⟨hon, hclass⟩ := hb c rfl
      have hless := hq.2.2 c e hon hclass
      unfold Run.Turns.better
      rw [if_pos ⟨hq.1, hq.2.1⟩]
      simp only
      rw [if_pos hless]

/-- The search for the candidate ends at the outlet that is revoked first. -/
theorem candidate_of_first (hq : FirstRevoked s q) : Run.candidate s = some q := by
  have hsearch : ∀ (l : List (Fin 16)) (b : Option (Fin 16)),
      (b = some q ∨ (q ∈ l ∧ ∀ c, b = some c → (outlet s c).state = .on ∧ effClass s c ≠ 0)) →
      l.foldl (Run.Turns.better s) b = some q := by
    intro l
    induction l with
    | nil => exact fun b h => h.resolve_right fun e => absurd e.1 List.not_mem_nil
    | cons o l ih =>
      intro b h
      refine ih _ ?_
      rcases h with rfl | ⟨hm, hb⟩
      · exact .inl (better_first hq o)
      · by_cases e : o = q
        · subst e
          exact .inl (better_arrives hq hb)
        · exact .inr ⟨(List.mem_cons.1 hm).resolve_left fun h => e h.symm, fun c hc => Run.Turns.better_on hc hb⟩
  rw [Run.Turns.candidate_eq]
  exact hsearch _ _ (.inr ⟨List.mem_finRange q, nofun⟩)

theorem candidate_none (h : ∀ q, (outlet s q).state = .on → effClass s q = 0) : Run.candidate s = none := by
  cases hc : Run.candidate s with
  | none => rfl
  | some c =>
    obtain ⟨hon, hclass⟩ := Run.Turns.candidate_on hc
    exact absurd (h c hon) hclass

/-! ### The waiting order (R72) -/

/-- Where one outlet alone waits, the arbiter considers it alone. -/
theorem waitingOrder_single (hq : (outlet s q).state = .waiting) (h : NoneWaitsBut s q) : Run.waitingOrder s = [q] := by
  have hfilter : (outletsAll.filter fun o => (outlet s o).state == .waiting) = [q] := by
    have hone : ∀ o ∈ outletsAll, ((outlet s o).state == .waiting) = (o == q) := fun o _ => by
      by_cases e : o = q
      · subst e
        simp [hq]
      · simp [h o e, e]
    rw [List.filter_congr hone, List.filter_beq, outletsAll, List.count_eq_one_of_mem (List.nodup_finRange 16) (List.mem_finRange q)]
    rfl
  rw [Run.waitingOrder, hfilter]
  rfl

/-! ### What a passage keeps -/

theorem firstActs_keeps {P : State → Prop} (act : ∀ a r, P r.st → P (perform a r).st) : ∀ (k : Nat) {r : Run}, P r.st →
    P (firstActs k r).st
  | 0, _, h => h
  | k + 1, r, h => by
    unfold firstActs
    split
    · exact h
    · exact firstActs_keeps act k (act _ _ h)

theorem Run.Reaches.drains {n : Nat} {r p : Run} (h : Run.Reaches n r p) : Drains r.st p.st := by
  obtain ⟨k, -, rfl⟩ := h
  exact firstActs_keeps (P := fun t => Drains r.st t) (fun a q h => h.trans (perform_keeps a q).2.2) k (.refl _)

theorem Run.Reaches.follows {n : Nat} {r p : Run} (h : Run.Reaches n r p) : r.st.Follows p.st := by
  obtain ⟨k, -, rfl⟩ := h
  exact firstActs_keeps (P := fun t => r.st.Follows t) (fun a q h => h.trans (perform_follows a q)) k (.refl _)

/-! ### The report of an outlet without an owner -/

/-- AUX has no owner to tell. -/
theorem ownerReport_eight (x y : OutletState) (s : State) : ownerReport 8 x y s = (s, []) := by
  unfold ownerReport
  split <;> rfl

theorem report_eight_reaches (x y : OutletState) {r : Run} (l : List Act) :
    Run.Reaches 1 { r with work := .report 8 x y :: l } { r with work := l } := by
  refine .step rfl ?_
  simp only [perform, Run.react, ownerReport_eight, List.nil_append]

end Sys2Proof.Machine
end

section
/-!
SUPPORT. The demand of AUX by each outcome of its decision (R68, R69), as passages of a cascade.
-/
namespace Sys2Proof.Machine

variable {s t u : State} {n : Fin 32} {o q : Fin 16} {d : Demand}

/-! ### A demand up to its decision -/

/-- The request is taken, and its decision is next. -/
theorem demand_reaches_judge (hoff : (outlet s o).state = .off) (d : Demand) (l : List Act) :
    Run.Reaches 3 { st := s, work := .req (.demand o d) :: l }
      { st := asked o d s, work := .judge o :: .flush :: .actEnd :: .restore false :: l, acting := 1 } := by
  refine .trans (a := 2) (q := { st := s, work := .take (.demand o d) :: .flush :: .actEnd :: .restore false :: l, acting := 1 })
    ⟨2, le_rfl, rfl⟩ (b := 1) (.step rfl ?_)
  show Run.takeDemand o d { st := s, work := .flush :: .actEnd :: .restore false :: l, acting := 1 } = _
  unfold Run.takeDemand
  simp only [hoff]
  rfl

/-- AUX asks, and is not decided yet. -/
theorem asked_eight (s : State) (d : Demand) : (outlet (asked 8 d s) 8).state = (outlet s 8).state ∧
    (outlet (asked 8 d s) 8).inhibit = (outlet s 8).inhibit ∧ effClass (asked 8 d s) 8 = configuredClass s 8 ∧
    isShed (asked 8 d s) 8 = isShed s 8 := by
  have hout := outlet_asked 8 8 d s
  rw [if_pos rfl] at hout
  have hclass : effClass (asked 8 d s) 8 = configuredClass s 8 := effClass_eight _
  refine ⟨by rw [hout], by rw [hout], hclass, ?_⟩
  rw [isShed, isShed, hclass, effClass_eight]
  rfl

theorem fits_asked (o : Fin 16) (d : Demand) (s : State) :
    fits (asked o d s) o = decide (grantedTotal s + d.charge ≤ s.outlets.limit) := by
  rw [fits, grantedTotal_asked, requested_asked]
  rfl

/-- The other outlets are of their class, whatever AUX asks. -/
theorem asked_other (h : q ≠ 8) (d : Demand) (s : State) : outlet (asked 8 d s) q = outlet s q ∧
    effClass (asked 8 d s) q = effClass s q := by
  have hout : outlet (asked 8 d s) q = outlet s q := by rw [outlet_asked, if_neg h]
  exact ⟨hout, effClass_of_grid (by rw [hout]) rfl rfl⟩

/-! ### The end of the action -/

/-- A change of AUX alone is told, and the action ends. -/
theorem told_reaches (s : State) (x : OutletState) (l : List Act) : ∃ t, Shows s t ∧ Run.Reaches 8
    { st := s, work := .flush :: .actEnd :: .restore false :: l, acting := 1, changed := [(8, .off, x)] } { st := t, work := l } := by
  obtain ⟨t, ht, hend⟩ := flush_reaches_told s l
  have htell : Run.Reaches 1
      { st := s, work := .flush :: .actEnd :: .restore false :: l, acting := 1, changed := [(8, .off, x)] }
      { st := s, work := .report 8 .off x :: .flush :: .actEnd :: .restore false :: l, acting := 1, told := true } := .step rfl rfl
  exact ⟨t, ht, htell.trans (b := 7) ((report_eight_reaches .off x
    (r := { st := s, work := [], acting := 1, told := true }) _).trans (b := 6) hend)⟩

/-! ### A refusal (R68) -/

/-- AUX with its demand, not granted. -/
def refusedAux (d : Demand) (x : OutletState) (s : State) : State := darkOutlet 8 x (asked 8 d s)

theorem refusedAux_outlets (d : Demand) (x : OutletState) (s : State) : (outlet (refusedAux d x s) 8).state = x ∧
    (outlet (refusedAux d x s) 8).charge = 0 ∧ (outlet (refusedAux d x s) 8).demand = some d ∧
    OtherOutletsKept s (refusedAux d x s) 8 := by
  have hout : outlet (refusedAux d x s) 8 = (outlet (asked 8 d s) 8).darkened x := by rw [refusedAux, outlet_dark, if_pos rfl]
  refine ⟨by rw [hout]; rfl, by rw [hout]; rfl, ?_, fun q hq => ?_⟩
  · rw [hout, outlet_asked, if_pos rfl]
    rfl
  · rw [refusedAux, outlet_dark, if_neg hq, (asked_other hq d s).1]

/-- R68: the decision of AUX is a refusal. -/
inductive Refuses (s : State) (d : Demand) : OutletState → Prop
  | inhibited (h : (outlet s 8).inhibit ≠ 0) : Refuses s d .inhibited
  | shed (h : (outlet s 8).inhibit = 0) (hs : isShed s 8 = true) : Refuses s d .shed
  | waiting (h : (outlet s 8).inhibit = 0) (hs : isShed s 8 = false) (hl : s.outlets.limit < grantedTotal s + d.charge)
      (hc : configuredClass s 8 ≠ 0) : Refuses s d .waiting

theorem judge_refused {x : OutletState} (h : Refuses s d x) {r : Run} (hr : r.st = asked 8 d s) : r.judge 8 = r.dark 8 x := by
  obtain ⟨-, hinhibit, hclass, hshed⟩ := asked_eight s d
  unfold Run.judge
  rw [hr, hinhibit, hshed, hclass, fits_asked]
  cases h with
  | inhibited h => rw [if_pos h]
  | shed h hs => rw [if_neg (not_not.2 h), if_pos hs]
  | waiting h hs hl hc =>
    rw [if_neg (not_not.2 h), hs, if_neg Bool.false_ne_true, decide_eq_false (Nat.not_le.2 hl), if_neg Bool.false_ne_true, if_neg hc]

theorem refused_reaches {x : OutletState} (hoff : (outlet s 8).state = .off) (h : Refuses s d x) (l : List Act) :
    ∃ t, Shows (refusedAux d x s) t ∧ Run.Reaches 12 { st := s, work := .req (.demand 8 d) :: l } { st := t, work := l } := by
  have hjudge : Run.Reaches 1 { st := asked 8 d s, work := .judge 8 :: .flush :: .actEnd :: .restore false :: l, acting := 1 }
      { st := refusedAux d x s, work := .flush :: .actEnd :: .restore false :: l, acting := 1, changed := [(8, .off, x)] } := by
    refine .step rfl ?_
    have hstate : (outlet (asked 8 d s) 8).state = .off := (asked_eight s d).1.trans hoff
    show Run.judge 8 _ = _
    rw [judge_refused h rfl]
    simp only [Run.dark, hstate]
    rfl
  obtain ⟨t, ht, hend⟩ := told_reaches (refusedAux d x s) x l
  exact ⟨t, ht, (demand_reaches_judge hoff d l).trans (b := 9) (hjudge.trans (b := 8) hend)⟩

/-! ### A grant over the limit (R69) -/

/-- R68, R69: a PROTECTED request that does not fit goes into a pass. -/
theorem demand_reaches_pass (hoff : (outlet s 8).state = .off) (hin : (outlet s 8).inhibit = 0) (hshed : isShed s 8 = false)
    (hl : s.outlets.limit < grantedTotal s + d.charge) (hc : configuredClass s 8 = 0) (l : List Act) :
    Run.Reaches 5 { st := s, work := .req (.demand 8 d) :: l }
      { st := asked 8 d s, work := .pass (.room 8) :: .flush :: .actEnd :: .restore false :: l, acting := 1 } := by
  have hjudge : Run.Reaches 1 { st := asked 8 d s, work := .judge 8 :: .flush :: .actEnd :: .restore false :: l, acting := 1 }
      { st := asked 8 d s, work := .preempt 8 :: .flush :: .actEnd :: .restore false :: l, acting := 1 } := by
    refine .step rfl ?_
    obtain ⟨-, hinhibit, hclass, hsh⟩ := asked_eight s d
    show Run.judge 8 _ = _
    unfold Run.judge
    rw [hinhibit, if_neg (not_not.2 hin), hsh, hshed, if_neg Bool.false_ne_true, fits_asked, decide_eq_false (Nat.not_le.2 hl),
      if_neg Bool.false_ne_true, hclass, if_pos hc]
    rfl
  exact (demand_reaches_judge hoff d l).trans (b := 2) (hjudge.trans (b := 1) (.step rfl rfl))

/-- The end of a pass grants AUX. -/
theorem passEnd_eight {r : Run} (hr : r.st = t) (hv : r.revoked = false) (hin : (outlet t 8).inhibit = 0) (hshed : isShed t 8 = false) :
    r.passEnd (.room 8) = (r.grant 8).push [.overLimit (decide (grantedTotal t ≤ t.outlets.limit))] := by
  subst hr
  unfold Run.passEnd
  simp only [hv, Bool.false_eq_true, if_false, hin, hshed, ne_eq, not_true_eq_false]

/-- The end of a pass that has revoked grants AUX and tells of the revocation. -/
theorem passEnd_eight_revoked {r : Run} (hr : r.st = t) (hv : r.revoked = true) (hin : (outlet t 8).inhibit = 0)
    (hshed : isShed t 8 = false) : r.passEnd (.room 8) =
      ((r.onState (raise .outlets (bit 13))).grant 8).push [.overLimit (decide (grantedTotal t ≤ t.outlets.limit))] := by
  subst hr
  have hin' : (outlet (r.onState (raise .outlets (bit 13))).st 8).inhibit = 0 := hin
  have hshed' : isShed (r.onState (raise .outlets (bit 13))).st 8 = false := hshed
  unfold Run.passEnd
  simp only [hv, if_true, hin', hshed', ne_eq, not_true_eq_false, if_false, Bool.false_eq_true]

/-- A grant reserves the charge that is asked for. -/
theorem grantedTotal_granted (hfree : (outlet s 8).charge = 0) (d : Demand) :
    grantedTotal (granted 8 d s) = grantedTotal s + d.charge := by
  have hothers : ∀ q, q ≠ 8 → (outlet (granted 8 d s) q).charge = (outlet s q).charge := fun q hq => by rw [granted_other hq]
  have h := grantedTotal_change hothers
  rwa [(granted_on 8 d s).2.1, hfree] at h

theorem granted_limit (d : Demand) (s : State) : (granted 8 d s).outlets.limit = s.outlets.limit := rfl

/-- R69: with nothing to revoke AUX goes ON over the limit, which is told where the total was within it. -/
theorem overLimit_reaches (hoff : (outlet s 8).state = .off) (hfree : (outlet s 8).charge = 0) (hin : (outlet s 8).inhibit = 0)
    (hshed : isShed s 8 = false) (hl : s.outlets.limit < grantedTotal s + d.charge) (hc : configuredClass s 8 = 0)
    (hnone : ∀ q, (outlet s q).state = .on → effClass s q = 0) (l : List Act) :
    ∃ v t, Shows v t ∧ v.outlets = (granted 8 d s).outlets ∧ (grantedTotal s ≤ s.outlets.limit → Noticed v .outlets 15) ∧
      Run.Reaches 15 { st := s, work := .req (.demand 8 d) :: l } { st := t, work := l } := by
  obtain ⟨hstate, hinhibit, -, hsh⟩ := asked_eight s d
  rw [hoff] at hstate
  rw [hin] at hinhibit
  rw [hshed] at hsh
  have hcandidate : Run.candidate (asked 8 d s) = none := candidate_none fun q hq => by
    by_cases e : q = 8
    · subst e
      rw [hstate] at hq
      cases hq
    · rw [(asked_other e d s).1] at hq
      rw [(asked_other e d s).2]
      exact hnone q hq
  have hpass : Run.Reaches 1 { st := asked 8 d s, work := .pass (.room 8) :: .flush :: .actEnd :: .restore false :: l, acting := 1 }
      { st := granted 8 d s
        work := .overLimit (decide (grantedTotal s ≤ s.outlets.limit)) :: .flush :: .actEnd :: .restore false :: l
        acting := 1, changed := [(8, .off, .on)] } := by
    refine .step rfl ?_
    have hgoal : Run.goalMet (asked 8 d s) (.room 8) = false := (fits_asked 8 d s).trans (decide_eq_false (Nat.not_le.2 hl))
    show Run.pass (.room 8) _ = _
    unfold Run.pass
    rw [hgoal, if_neg Bool.false_ne_true, hcandidate]
    simp only
    rw [passEnd_eight (t := asked 8 d s) rfl rfl hinhibit hsh, grantedTotal_asked]
    simp only [Run.grant, Run.push, hstate]
    rfl
  have htotal := grantedTotal_granted hfree d
  have hlimit := granted_limit d s
  obtain ⟨v, hv, hnotice, hover⟩ : ∃ v, v.outlets = (granted 8 d s).outlets ∧
      (grantedTotal s ≤ s.outlets.limit → Noticed v .outlets 15) ∧ Run.Reaches 1
      { st := granted 8 d s
        work := .overLimit (decide (grantedTotal s ≤ s.outlets.limit)) :: .flush :: .actEnd :: .restore false :: l
        acting := 1, changed := [(8, .off, .on)] }
      { st := v, work := .flush :: .actEnd :: .restore false :: l, acting := 1, changed := [(8, .off, .on)] } := by
    by_cases hw : grantedTotal s ≤ s.outlets.limit
    · refine ⟨raise .outlets (bit 15) (granted 8 d s), rfl, fun _ => raise_noticed .outlets (by decide) _, .step rfl ?_⟩
      show Run.overLimit _ _ = _
      unfold Run.overLimit
      rw [if_pos (by rw [htotal, hlimit, decide_eq_true hw, decide_eq_true hl]; rfl)]
      rfl
    · refine ⟨granted 8 d s, rfl, fun e => absurd e hw, .step rfl ?_⟩
      show Run.overLimit _ _ = _
      unfold Run.overLimit
      rw [if_neg (by rw [decide_eq_false hw]; nofun)]
  obtain ⟨t, ht, hend⟩ := told_reaches v .on l
  exact ⟨v, t, ht, hv, hnotice, (demand_reaches_pass hoff hin hshed hl hc l).trans (b := 10)
    (hpass.trans (b := 9) (hover.trans (b := 8) hend))⟩

end Sys2Proof.Machine
end

section
/-!
SUPPORT. AUX preempts one outlet (R69, R72), and the clearing of a trip (R83), as passages of a cascade.
-/
namespace Sys2Proof.Machine

variable {s t u : State} {n : Fin 32} {o q : Fin 16} {d e : Demand}

/-! ### A preemption -/

/-- The owner of an outlet that is revoked at once only notes it. -/
theorem ownerReport_revoked (hq : q = 0 ∨ q = 3 ∨ q = 4 ∨ q = 6 ∨ q = 9) (s : State) :
    ∃ w, ownerReport q .on .waiting s = (w, []) ∧ w.outlets = s.outlets ∧ w.store = s.store := by
  have hpump : ∃ w, showing [.water] (pumpReport .waiting) s = (w, []) ∧ w.outlets = s.outlets ∧ w.store = s.store := by
    unfold showing pumpReport
    split <;> exact ⟨_, rfl, rfl, rfl⟩
  unfold ownerReport
  split
  · exact ⟨s, rfl, rfl, rfl⟩
  · rcases hq with rfl | rfl | rfl | rfl | rfl
    · exact hpump
    all_goals exact ⟨_, rfl, rfl, rfl⟩

/-- AUX ON in the place of outlet q. -/
def preempted (q : Fin 16) (d : Demand) (s : State) : State :=
  grantOutlet 8 (raise .outlets (bit 13) (darkOutlet q .waiting (asked 8 d s)))

/-- What makes a preemption of q by AUX succeed. -/
structure Preempts (s : State) (q : Fin 16) (d e : Demand) : Prop where
  other : q ≠ 8
  off : (outlet s 8).state = .off
  free : (outlet s 8).charge = 0
  uninhibited : (outlet s 8).inhibit = 0
  clear : isShed s 8 = false
  protect : configuredClass s 8 = 0
  exceeds : s.outlets.limit < grantedTotal s + d.charge
  first : FirstRevoked s q
  kept : isShed s q = false
  demand : (outlet s q).demand = some e
  charge : e.charge = (outlet s q).charge
  alone : NoneWaitsBut s 8
  room : grantedTotal s + d.charge ≤ s.outlets.limit + (outlet s q).charge

namespace Preempts

variable (h : Preempts s q d e)
include h

theorem revoked_outlet (p : Fin 16) : outlet (darkOutlet q .waiting (asked 8 d s)) p =
    if p = q then (outlet s q).darkened .waiting else outlet (asked 8 d s) p := by
  rw [outlet_dark, (asked_other h.other d s).1]

theorem outlet_preempted (p : Fin 16) : outlet (preempted q d s) p =
    if p = 8 then outlet (granted 8 d s) 8 else if p = q then (outlet s q).darkened .waiting else outlet s p := by
  have hraise : ∀ x, outlet (raise .outlets (bit 13) x) = outlet x := fun _ => rfl
  have haux : outlet (darkOutlet q .waiting (asked 8 d s)) 8 = outlet (asked 8 d s) 8 := by
    rw [h.revoked_outlet, if_neg h.other.symm]
  rw [preempted, outlet_grant, hraise, haux]
  split
  · next e =>
    have hreq : requested (raise .outlets (bit 13) (darkOutlet q .waiting (asked 8 d s))) 8 = d.charge := by
      rw [requested, hraise, haux, outlet_asked, if_pos rfl]
    rw [hreq, outlet_granted, if_pos rfl]
    rfl
  · next hp =>
    rw [h.revoked_outlet]
    split
    · rfl
    · exact (asked_other hp d s).1

theorem preempted_aux : (outlet (preempted q d s) 8).state = .on ∧ (outlet (preempted q d s) 8).charge = d.charge := by
  rw [h.outlet_preempted, if_pos rfl]
  exact ⟨(granted_on 8 d s).1, (granted_on 8 d s).2.1⟩

theorem preempted_revoked : outlet (preempted q d s) q = (outlet s q).darkened .waiting := by
  rw [h.outlet_preempted, if_neg h.other, if_pos rfl]

/-- The total falls by the charge of q. -/
theorem grantedTotal_revoked : grantedTotal (darkOutlet q .waiting (asked 8 d s)) + (outlet s q).charge = grantedTotal s := by
  have hothers : ∀ p, p ≠ q → (outlet (darkOutlet q .waiting (asked 8 d s)) p).charge = (outlet (asked 8 d s) p).charge :=
    fun p hp => by rw [h.revoked_outlet, if_neg hp]
  have hsum := grantedTotal_change hothers
  rw [grantedTotal_asked, (asked_other h.other d s).1, h.revoked_outlet, if_pos rfl] at hsum
  exact hsum

theorem grantedTotal_preempted : grantedTotal (preempted q d s) + (outlet s q).charge = grantedTotal s + d.charge := by
  have hothers : ∀ p, p ≠ 8 → (outlet (preempted q d s) p).charge = (outlet (darkOutlet q .waiting (asked 8 d s)) p).charge :=
    fun p hp => by
      rw [h.outlet_preempted, if_neg hp, h.revoked_outlet, (asked_other hp d s).1]
  have hsum := grantedTotal_change hothers
  have haux : (outlet (darkOutlet q .waiting (asked 8 d s)) 8).charge = 0 := by
    rw [h.revoked_outlet, if_neg h.other.symm, outlet_asked, if_pos rfl]
    exact h.free
  rw [haux, h.preempted_aux.2] at hsum
  have hrevoked := h.grantedTotal_revoked
  omega

/-- q waits alone, and does not fit. -/
theorem waits (hw : u.outlets = (preempted q d s).outlets) (ha : u.store.active = s.store.active) :
    Run.waitingOrder u = [q] ∧ isShed u q = false ∧ effClass u q ≠ 0 ∧ fits u q = false := by
  have hout : ∀ p, outlet u p = outlet (preempted q d s) p := outlet_congr hw
  have hq : outlet u q = (outlet s q).darkened .waiting := (hout q).trans h.preempted_revoked
  have hheater : u.outlets.heater = s.outlets.heater := (congrArg Outlets.heater hw).trans rfl
  have hlevel : u.outlets.shedLevel = s.outlets.shedLevel := (congrArg Outlets.shedLevel hw).trans rfl
  have hlimit : u.outlets.limit = s.outlets.limit := (congrArg Outlets.limit hw).trans rfl
  have hclass : effClass u q = effClass s q := effClass_of_grid (by rw [hq]; rfl) ha hheater
  refine ⟨waitingOrder_single (by rw [hq]; rfl) fun p hp => ?_, ?_, ?_, ?_⟩
  · rw [hout, h.outlet_preempted]
    split
    · rw [(granted_on 8 d s).1]
      nofun
    · next hp8 =>
      exact h.alone p hp8
  · rw [isShed, hclass, hlevel]
    exact h.kept
  · rw [hclass]
    exact h.first.2.1
  · have htotal : grantedTotal u = grantedTotal (preempted q d s) := grantedTotal_congr fun p => by rw [hout]
    have hsum := h.grantedTotal_preempted
    have hreq : requested u q = (outlet s q).charge := by
      rw [requested, hq]
      show (match (outlet s q).demand with | some d => d.charge | none => 0) = _
      rw [h.demand]
      exact h.charge
    rw [fits, htotal, hreq, hlimit]
    refine decide_eq_false (Nat.not_le.2 ?_)
    rw [hsum]
    exact h.exceeds

/-- The pass revokes q, and grants AUX. -/
theorem pass_reaches (hq : q ≠ 2 ∧ q ≠ 5) (l : List Act) :
    Run.Reaches 3 { st := asked 8 d s, work := .pass (.room 8) :: l, acting := 1 }
      { st := preempted q d s, work := l, acting := 1, changed := [(q, .on, .waiting), (8, .off, .on)], room := true
        revoked := true } := by
  have hkept : outlet (asked 8 d s) q = outlet s q ∧ effClass (asked 8 d s) q = effClass s q := asked_other h.other d s
  obtain ⟨hstate, hinhibit, -, hshed⟩ := asked_eight s d
  have hfirst : FirstRevoked (asked 8 d s) q := by
    obtain ⟨hon, hclass, hless⟩ := h.first
    refine ⟨by rw [hkept.1, hon], by rwa [hkept.2], fun p hp hpon hpclass => ?_⟩
    have hp8 : p ≠ 8 := by
      rintro rfl
      rw [hstate, h.off] at hpon
      cases hpon
    obtain ⟨hout, hcls⟩ := asked_other hp8 d s
    rw [hout] at hpon ⊢
    rw [hcls] at hpclass ⊢
    rw [hkept.1, hkept.2]
    exact hless p hp hpon hpclass
  have hrevoke : Run.Reaches 1 { st := asked 8 d s, work := .pass (.room 8) :: l, acting := 1 }
      { st := darkOutlet q .waiting (asked 8 d s), work := .pass (.room 8) :: l, acting := 1
        changed := [(q, .on, .waiting)], room := true, revoked := true } := by
    refine .step rfl ?_
    have hgoal : Run.goalMet (asked 8 d s) (.room 8) = false := (fits_asked 8 d s).trans (decide_eq_false (Nat.not_le.2 h.exceeds))
    show Run.pass (.room 8) _ = _
    unfold Run.pass
    rw [hgoal, if_neg Bool.false_ne_true, candidate_of_first hfirst]
    simp only [hq.1, hq.2, or_self, if_false, Run.dark, Run.push, hkept.1, h.first.1]
    rfl
  have haux : outlet (darkOutlet q .waiting (asked 8 d s)) 8 = outlet (asked 8 d s) 8 := by
    rw [h.revoked_outlet, if_neg h.other.symm]
  have hclear : isShed (darkOutlet q .waiting (asked 8 d s)) 8 = false := by
    rw [← hshed.trans h.clear, isShed, isShed, effClass_eight, effClass_eight]
    rfl
  have hgrant : Run.Reaches 1
      { st := darkOutlet q .waiting (asked 8 d s), work := .pass (.room 8) :: l, acting := 1
        changed := [(q, .on, .waiting)], room := true, revoked := true }
      { st := preempted q d s
        work := .overLimit (decide (grantedTotal (darkOutlet q .waiting (asked 8 d s)) ≤ s.outlets.limit)) :: l
        acting := 1, changed := [(q, .on, .waiting), (8, .off, .on)], room := true, revoked := true } := by
    refine .step rfl ?_
    have hgoal : Run.goalMet (darkOutlet q .waiting (asked 8 d s)) (.room 8) = true := by
      have hreq : requested (darkOutlet q .waiting (asked 8 d s)) 8 = d.charge := by
        rw [requested, haux]
        exact requested_asked 8 d s
      have hsum := h.grantedTotal_revoked
      have hroom := h.room
      rw [Run.goalMet, fits, hreq]
      refine decide_eq_true ?_
      show _ ≤ s.outlets.limit
      omega
    show Run.pass (.room 8) _ = _
    unfold Run.pass
    rw [if_pos hgoal, passEnd_eight_revoked (t := darkOutlet q .waiting (asked 8 d s)) rfl rfl (by rw [haux, hinhibit, h.uninhibited])
      hclear]
    have hoff : (outlet (raise .outlets (bit 13) (darkOutlet q .waiting (asked 8 d s))) 8).state = .off := by
      rw [show outlet (raise .outlets (bit 13) (darkOutlet q .waiting (asked 8 d s))) 8 = _ from haux, hstate, h.off]
    simp only [Run.grant, Run.push, Run.onState, hoff]
    rfl
  refine .trans (a := 1) hrevoke (.trans (a := 1) (b := 1) hgrant (.step rfl ?_))
  have hsum := h.grantedTotal_preempted
  have hroom := h.room
  have hlimit : (preempted q d s).outlets.limit = s.outlets.limit := rfl
  show Run.overLimit _ _ = _
  unfold Run.overLimit
  rw [if_neg]
  simp only [Bool.and_eq_true, decide_eq_true_eq, hlimit]
  omega

/-- The changes are told, and the room that the revocation made goes to nobody. -/
theorem flush_reaches (hq : q = 0 ∨ q = 3 ∨ q = 4 ∨ q = 6 ∨ q = 9) (l : List Act) : ∃ t, t.outlets = (preempted q d s).outlets ∧
    Run.Reaches 14
      { st := preempted q d s, work := .flush :: .actEnd :: .restore false :: l, acting := 1
        changed := [(q, .on, .waiting), (8, .off, .on)], room := true, revoked := true }
      { st := t, work := l, revoked := true } := by
  obtain ⟨w, hreport, hwo, hws⟩ := ownerReport_revoked hq (preempted q d s)
  have hshows := afterReports_shows w
  obtain ⟨horder, hshed, hclass, hfits⟩ := h.waits (u := afterReports w) (hshows.outlets.trans hwo)
    (by rw [hshows.store, hws]; rfl)
  refine ⟨syncPart .outlets (afterReports w), (syncPart_outlets _ (s := afterReports w)).trans (hshows.outlets.trans hwo), ?_⟩
  have htell : Run.Reaches 2
      { st := preempted q d s, work := .flush :: .actEnd :: .restore false :: l, acting := 1
        changed := [(q, .on, .waiting), (8, .off, .on)], room := true, revoked := true }
      { st := w, work := .flush :: .actEnd :: .restore false :: l, acting := 1
        changed := [(8, .off, .on)], told := true, room := true, revoked := true } := by
    refine .trans (a := 1) (b := 1) (q := {
      st := preempted q d s, work := .report q .on .waiting :: .flush :: .actEnd :: .restore false :: l, acting := 1
      changed := [(8, .off, .on)], told := true, room := true, revoked := true }) (.step rfl rfl) (.step rfl ?_)
    simp only [perform, Run.react, hreport, List.nil_append]
  have htellAux : Run.Reaches 2
      { st := w, work := .flush :: .actEnd :: .restore false :: l, acting := 1
        changed := [(8, .off, .on)], told := true, room := true, revoked := true }
      { st := w, work := .flush :: .actEnd :: .restore false :: l, acting := 1, told := true, room := true, revoked := true } :=
    .trans (a := 1) (b := 1) (.step rfl rfl) (report_eight_reaches .off .on
      (r := { st := w, work := [], acting := 1, told := true, room := true, revoked := true }) _)
  have htold : Run.Reaches 3
      { st := w, work := .flush :: .actEnd :: .restore false :: l, acting := 1, told := true, room := true, revoked := true }
      { st := afterReports w, work := .arbiter :: .flush :: .actEnd :: .restore false :: l, acting := 1, room := true
        revoked := true } := ⟨3, le_rfl, rfl⟩
  generalize afterReports w = v at *
  have harbiter : Run.Reaches 1
      { st := v, work := .arbiter :: .flush :: .actEnd :: .restore false :: l, acting := 1, room := true, revoked := true }
      { st := v, work := .consider q :: .flush :: .actEnd :: .restore false :: l, acting := 1, revoked := true } := by
    refine .step rfl ?_
    simp only [perform, Run.arbiter, Run.push, horder, List.map_cons, List.map_nil]
    rfl
  have hconsider : Run.Reaches 1
      { st := v, work := .consider q :: .flush :: .actEnd :: .restore false :: l, acting := 1, revoked := true }
      { st := v, work := .flush :: .actEnd :: .restore false :: l, acting := 1, revoked := true } := by
    refine .step rfl ?_
    show Run.consider q _ = _
    unfold Run.consider
    simp only [hshed, hfits, hclass, Bool.false_eq_true, if_false, ite_self]
  exact htell.trans (b := 12) (htellAux.trans (b := 10) (htold.trans (b := 7) (harbiter.trans (b := 6) (hconsider.trans (b := 5)
    ⟨4, by decide, rfl⟩))))

/-- R69, R72: AUX goes ON in the place of q. -/
theorem reaches (hq : q = 0 ∨ q = 3 ∨ q = 4 ∨ q = 6 ∨ q = 9) (l : List Act) :
    ∃ t, t.outlets = (preempted q d s).outlets ∧ Noticed t .outlets 13 ∧
      Run.Reaches 22 { st := s, work := .req (.demand 8 d) :: l } { st := t, work := l, revoked := true } := by
  have hbridge : q ≠ 2 ∧ q ≠ 5 := by
    constructor <;> rintro rfl <;> simp at hq
  obtain ⟨t, ht, hend⟩ := h.flush_reaches hq l
  have hnotice : Noticed (preempted q d s) .outlets 13 := raise_noticed .outlets (by decide) (darkOutlet q .waiting (asked 8 d s))
  exact ⟨t, ht, hend.follows.notices _ _ hnotice, (demand_reaches_pass h.off h.uninhibited h.clear h.exceeds h.protect l).trans (b := 17)
    ((h.pass_reaches hbridge _).trans (b := 14) hend)⟩

end Preempts

/-! ### The end of a cascade -/

/-- A cascade ends where its acts do, whatever its registers hold. -/
theorem Run.Reaches.run_st {k : Nat} {l : List Act} {p : Run} (h : Run.Reaches k { st := s, work := l } p) (hk : k ≤ cascadeBound)
    (hp : p.work = []) : run l s = p.st := by
  obtain ⟨j, hj, rfl⟩ := h
  exact run_first j l s (by omega) hp

end Sys2Proof.Machine
end

section
/-!
SUPPORT. The clearing of a trip (R83) as passages of a cascade.
-/
namespace Sys2Proof.Machine

variable {s t u w : State} {n : Fin 32} {o q : Fin 16} {d : Demand} {j k : Nat} {l m : List Act}

/-! ### Acts that touch no register of the cascade -/

/-- From any point of a cascade at most k acts perform these ones, and leave of them this state only. -/
def Leaves (k : Nat) (l : List Act) (s w : State) : Prop :=
  ∀ (r : Run) (m : List Act), Run.Reaches k { r with st := s, work := l ++ m } { r with st := w, work := m }

theorem Leaves.mono (h : Leaves j l s w) (hk : j ≤ k) : Leaves k l s w := fun r m => by
  obtain ⟨i, hi, e⟩ := h r m
  exact ⟨i, hi.trans hk, e⟩

theorem leaves_nil (s : State) : Leaves 0 [] s s := fun _ _ => .refl _ _

theorem Leaves.append (h : Leaves j l s t) (g : Leaves k m t w) : Leaves (j + k) (l ++ m) s w := fun r a => by
  rw [List.append_assoc]
  exact (h r _).trans (g r a)

/-- An act that is a change of the state alone. -/
theorem leaves_of_perform {a : Act} (h : ∀ r : Run, r.st = s → perform a r = { r with st := t }) : Leaves 1 [a] s t :=
  fun _ _ => .step rfl (h _ rfl)

/-- A reaction, and the acts it sets off. -/
theorem leaves_react {a : Act} {f : State → React} (ha : ∀ r, perform a r = r.react f) (h : Leaves k (f s).2 (f s).1 w) :
    Leaves (1 + k) [a] s w := fun r m => .trans (.step rfl (ha _)) (h r m)

theorem leaves_shown (p c : List Part) (s : State) : Leaves 1 [.shown p c] s (showAction p c s) := leaves_of_perform fun _ h => by
  subst h
  rfl

theorem leaves_finish (n : Fin 32) (f : Finish) (s : State) : Leaves 1 [.finish n f] s (finish n f s) := leaves_of_perform fun _ h => by
  subst h
  rfl

theorem leaves_raise (g : Group) (b : BitVec 32) (s : State) : Leaves 1 [.raise g b] s (raise g b s) := leaves_of_perform fun _ h => by
  subst h
  rfl

/-! ### The arrival test -/

theorem arrive_leaves (x : Recall) (s : State) : ∃ w, w.outlets = s.outlets ∧ Leaves 1 (arrive x s).2 (arrive x s).1 w := by
  obtain ⟨-, -, hkept⟩ := (clearOwner_onlyLights x.owner channels (dropRecalls [x.owner] s)).outside
  unfold arrive
  generalize clearOwner x.owner channels (dropRecalls [x.owner] s) = t at hkept
  split
  · next m _ =>
    exact ⟨finish m _ t, (finish_outlets m _ t).trans hkept, leaves_finish m _ t⟩
  · exact ⟨raise .lights (bit 0) { t with lights := { t.lights with lastEntry := some .ok } }, hkept, leaves_raise .lights (bit 0) _⟩

/-- The arrival test of an owner leaves the outlets. -/
theorem recallTest_leaves (k : LightOwner) (s : State) : ∃ w, w.outlets = s.outlets ∧ Leaves 2 [.recallTest k] s w := by
  have hquiet : recallTest k s = (s, []) → ∃ w, w.outlets = s.outlets ∧ Leaves 2 [.recallTest k] s w := fun h =>
    ⟨s, rfl, (leaves_react (k := 0) (fun _ => rfl) (by rw [h]; exact leaves_nil s)).mono (by decide)⟩
  unfold recallTest at hquiet
  split at hquiet
  · next x hx =>
    split at hquiet
    · next harrived =>
      obtain ⟨w, hw, hacts⟩ := arrive_leaves x s
      have hreact : recallTest k s = arrive x s := by
        unfold recallTest
        rw [hx]
        exact if_pos harrived
      exact ⟨w, hw, leaves_react (k := 1) (fun _ => rfl) (by rw [hreact]; exact hacts)⟩
    · exact hquiet rfl
  · exact hquiet rfl

/-! ### The report of an outlet that goes OFF from TRIPPED -/

theorem bridgeReport_off (s : State) : ∃ w, bridgeReport .off s = (w, []) ∧ w.outlets = s.outlets := by
  unfold bridgeReport
  split
  · exact ⟨s, rfl, rfl⟩
  · next m _ =>
    split
    · exact ⟨s, rfl, rfl⟩
    · split
      · exact ⟨s, rfl, rfl⟩
      · dsimp only
        refine ⟨_, rfl, ?_⟩
        split
        · rfl
        · cases m <;> rfl

theorem fillReport_off_outlets (s : State) : ∃ w, showing [.water] (fillReport .off) s = (w, []) ∧ w.outlets = s.outlets := by
  unfold showing fillReport
  split <;> exact ⟨_, rfl, rfl⟩

theorem pumpReport_off (s : State) : ∃ w, showing [.water] (pumpReport .off) s = (w, []) ∧ w.outlets = s.outlets := by
  unfold showing pumpReport
  split <;> exact ⟨_, rfl, rfl⟩

/-- The tests and the update that end the report of a light. -/
theorem lightReport_off_leaves (c : Fin 6) (x : OutletState) (s : State) :
    ∃ w, w.outlets = s.outlets ∧ Leaves 3 (lightReport c x .off s).2 (lightReport c x .off s).1 w := by
  obtain ⟨y, hy⟩ : ∃ y, (lightReport c x .off s).1 = setChannel c y s := ⟨_, rfl⟩
  have hacts : (lightReport c x .off s).2 =
      ((channel s c).owner.elim [] fun k => [.recallTest k]) ++ [.shown [.channel c] recallParts] := by
    unfold lightReport
    simp only
    cases (channel s c).owner <;> rfl
  rw [hy, hacts]
  have hkept : (setChannel c y s).outlets = s.outlets := rfl
  cases (channel s c).owner with
  | none => exact ⟨showAction [.channel c] recallParts (setChannel c y s), hkept, (leaves_shown _ _ _).mono (by decide)⟩
  | some k =>
    obtain ⟨w, hw, htest⟩ := recallTest_leaves k (setChannel c y s)
    exact ⟨showAction [.channel c] recallParts w, hw.trans hkept, htest.append (leaves_shown _ _ w)⟩

/-- Whoever owns the outlet leaves the outlets as they are. -/
theorem offReport_leaves (o : Fin 16) (x : OutletState) (s : State) :
    ∃ w, w.outlets = s.outlets ∧ Leaves 4 [.report o x .off] s w := by
  have hquiet : (∃ w, ownerReport o x .off s = (w, []) ∧ w.outlets = s.outlets) →
      ∃ w, w.outlets = s.outlets ∧ Leaves 4 [.report o x .off] s w := fun ⟨w, h, hw⟩ =>
    ⟨w, hw, (leaves_react (k := 0) (fun _ => rfl) (by rw [h]; exact leaves_nil w)).mono (by decide)⟩
  have hreact : ∀ f : State → React, ownerReport o x .off s = f s →
      (∃ w, w.outlets = s.outlets ∧ Leaves 3 (f s).2 (f s).1 w) → ∃ w, w.outlets = s.outlets ∧ Leaves 4 [.report o x .off] s w :=
    fun f h ⟨w, hw, hacts⟩ => ⟨w, hw, leaves_react (k := 3) (fun _ => rfl) (by rw [h]; exact hacts)⟩
  unfold ownerReport at hquiet hreact
  split_ifs at hquiet hreact
  · exact hquiet ⟨s, rfl, rfl⟩
  · exact hquiet (pumpReport_off s)
  · exact hreact _ rfl ⟨showAction [] [.climate] (supplyReport .off s).1, rfl, (leaves_shown _ _ _).mono (by decide)⟩
  · exact hquiet (bridgeReport_off s)
  · exact hquiet (fillReport_off_outlets s)
  · exact hquiet ⟨_, rfl, rfl⟩
  · cases hc : channelOf o with
    | none => exact hquiet (by rw [hc]; exact ⟨s, rfl, rfl⟩)
    | some c => exact hreact _ (by rw [hc]) (lightReport_off_leaves c x s)

/-! ### The order's result -/

/-- The cascade of TRIP_CLEAR where the owners have been told, and the order is about to end. -/
def resultPoint (n : Fin 32) (o : Fin 16) (s : State) : Run :=
  { st := s, work := [.tripDone n o, .flush, .actEnd, .restore false], acting := 1 }

theorem flush_reaches_result (s : State) : ∃ u, Shows s u ∧ Run.Reaches 3
    { st := s, work := [.flush, .tripDone n o, .flush, .actEnd, .restore false], acting := 1, told := true } (resultPoint n o u) :=
  ⟨afterReports s, afterReports_shows s, ⟨3, le_rfl, rfl⟩⟩

/-- The order ends, and the action with it. -/
theorem result_reaches (n : Fin 32) (o : Fin 16) (s : State) :
    Run.Reaches 5 (resultPoint n o s) { st := syncPart .outlets (finish n (tripResult o s) s), work := [] } := ⟨5, le_rfl, rfl⟩

/-- R83: without a demand the outlet goes OFF. -/
theorem tripOff_reaches (ht : (outlet s o).state = .tripped) (hd : (outlet s o).demand = none) :
    ∃ u, u.outlets = (darkOutlet o .off s).outlets ∧
      Run.Reaches 10 { st := s, work := [.action [.clearTrip o, .flush, .tripDone n o]] } (resultPoint n o u) := by
  obtain ⟨w, hw, hreport⟩ := offReport_leaves o .tripped (darkOutlet o .off s)
  obtain ⟨u, hu, hend⟩ := flush_reaches_result (n := n) (o := o) w
  have hclear : Run.Reaches 2 { st := s, work := [.action [.clearTrip o, .flush, .tripDone n o]] }
      { st := darkOutlet o .off s, work := [.flush, .tripDone n o, .flush, .actEnd, .restore false], acting := 1
        changed := [(o, .tripped, .off)] } := by
    refine .trans (a := 1) (b := 1) (q := {
      st := s, work := [.clearTrip o, .flush, .tripDone n o, .flush, .actEnd, .restore false], acting := 1 })
      (.step rfl rfl) (.step rfl ?_)
    show Run.clearTrip o _ = _
    unfold Run.clearTrip
    simp only [hd, Option.isNone_none, if_true, Run.dark, ht]
    rfl
  exact ⟨u, hu.outlets.trans hw, hclear.trans (b := 8) (.trans (a := 1) (b := 7) (.step rfl rfl)
    ((hreport { st := w, work := [], acting := 1, told := true } _).trans (b := 3) hend))⟩

theorem asked_self (h : (outlet s o).demand = some d) : newRequest o s = asked o d s := by
  have hsame : setDemand o (some d) s = s := by
    have htable : s.outlets.table.set o (outlet s o) = s.outlets.table := Vector.set_getElem_self _
    rw [setDemand, ← h]
    show setOutlet o (outlet s o) s = s
    rw [setOutlet, htable]
  rw [asked, hsame]

/-- R83, R68: the demand of AUX is granted. -/
theorem tripGrant_reaches (ht : (outlet s 8).state = .tripped) (hd : (outlet s 8).demand = some d) (hin : (outlet s 8).inhibit = 0)
    (hshed : isShed s 8 = false) (hfit : grantedTotal s + d.charge ≤ s.outlets.limit) :
    ∃ u, u.outlets = (granted 8 d s).outlets ∧
      Run.Reaches 8 { st := s, work := [.action [.clearTrip 8, .flush, .tripDone n 8]] } (resultPoint n 8 u) := by
  obtain ⟨u, hu, hend⟩ := flush_reaches_result (n := n) (o := 8) (granted 8 d s)
  obtain ⟨hstate, hinhibit, -, hsh⟩ := asked_eight s d
  have hclear : Run.Reaches 2 { st := s, work := [.action [.clearTrip 8, .flush, .tripDone n 8]] }
      { st := asked 8 d s, work := [.judge 8, .flush, .tripDone n 8, .flush, .actEnd, .restore false], acting := 1 } := by
    refine .trans (a := 1) (b := 1) (q := {
      st := s, work := [.clearTrip 8, .flush, .tripDone n 8, .flush, .actEnd, .restore false], acting := 1 })
      (.step rfl rfl) (.step rfl ?_)
    show Run.clearTrip 8 _ = _
    unfold Run.clearTrip
    simp only [hd, Option.isNone_some, Bool.false_eq_true, if_false, Run.onState, asked_self hd]
    rfl
  have hjudge : Run.Reaches 1
      { st := asked 8 d s, work := [.judge 8, .flush, .tripDone n 8, .flush, .actEnd, .restore false], acting := 1 }
      { st := granted 8 d s, work := [.flush, .tripDone n 8, .flush, .actEnd, .restore false], acting := 1
        changed := [(8, .tripped, .on)] } := by
    refine .step rfl ?_
    show Run.judge 8 _ = _
    unfold Run.judge
    rw [hinhibit, if_neg (not_not.2 hin), hsh, hshed, if_neg Bool.false_ne_true, fits_asked, decide_eq_true hfit, if_pos rfl]
    simp only [Run.grant, hstate, ht]
    rfl
  exact ⟨u, hu.outlets, hclear.trans (b := 6) (hjudge.trans (b := 5) (.trans (a := 1) (b := 4) (.step rfl rfl)
    ((report_eight_reaches .tripped .on (r := { st := granted 8 d s, work := [], acting := 1, told := true }) _).trans (b := 3) hend)))⟩

end Sys2Proof.Machine
end

section
/-!
PROOF. AUX_SET with each outcome of the decision, TRIP_CLEAR, and what an act puts into ON (O31).
-/
namespace Sys2Proof.Machine

variable {s t u v w : State} {n : Fin 32} {o q : Fin 16} {d e : Demand} {x : OutletState} {k : Nat}

/-! ### The order AUX_SET (R84) -/

/-- The demand that AUX_SET raises. -/
def auxDemand (s : State) : Demand := { charge := ratedOf s 8 }

/-- What AUX_SET asks for. -/
def auxRequest (s : State) (n : Fin 32) : Req := if slotWord s n 3 = 1 then .demand 8 (auxDemand s) else .withdraw 8

/-- The state in which the body of an order begins: the dispatcher alone differs. -/
def State.withDisp (s : State) (e : Dispatcher) : State := { s with disp := e }

theorem ownersKept_of_sansOrders (h : t.sansOrders = s.sansOrders) : OwnersKept s t := by
  have hcharge : t.charge = s.charge := (congrArg State.charge h :)
  rw [OwnersKept, hcharge]
  exact ⟨(congrArg State.water h :), (congrArg State.climate h :), (congrArg State.movers h :), (congrArg State.lights h :),
    (congrArg State.link h :), (congrArg State.interlock h :), (congrArg State.store h :), (congrArg State.pins h :),
    (congrArg State.time h :), rfl, rfl, rfl, rfl⟩

theorem Shows.ownersKept (h : Shows s t) : OwnersKept s t := by
  obtain ⟨_, _, rfl⟩ := h
  exact ⟨rfl, rfl, rfl, rfl, rfl, rfl, rfl, rfl, rfl, rfl, rfl, rfl, rfl⟩

/-- AUX_SET ends in `t`, its cascade having ended in `v`. -/
structure AuxEnds (s : State) (n : Fin 32) (v t : State) : Prop where
  exec : Machine.exec .auxSet s = .next t
  outlets : t.outlets = v.outlets
  rest : t.sansOrders = v.sansOrders
  notices : ∀ g k, Noticed v g k → Noticed t g k
  finished : Finished t n { outcome := .ok, r0 := (outlet v 8).state.code }

namespace AuxEnds

theorem owners (h : AuxEnds s n v t) (hv : OwnersKept s v) : OwnersKept s t := by
  have hrest := ownersKept_of_sansOrders h.rest
  simp only [OwnersKept] at hrest hv ⊢
  simp only [hrest, hv, and_self]

/-- The result is the state of AUX. -/
theorem of_state (h : AuxEnds s n v t) (hx : (outlet v 8).state = x) : Finished t n { outcome := .ok, r0 := x.code } := hx ▸ h.finished

theorem outlet_eq (h : AuxEnds s n v t) (q : Fin 16) : outlet t q = outlet v q := outlet_congr h.outlets q

end AuxEnds

/-- Where the cascade of AUX_SET ends, the order does. -/
theorem auxSet_next (hw : s.MemsWf) (hd : Dispatches s n .auxSet) :
    ∃ e t, AuxEnds s n (run [.req (auxRequest s n)] (s.withDisp e)) t := by
  obtain ⟨u, d, hu, hexec⟩ := Dispatches.exec (c := .auxSet) hd rfl
  have hfinished := fun f => hu.finished hw.1 (run_drains [.req (auxRequest s n)] u)
    (run_follows [.req (auxRequest s n)] u).slots f
  obtain ⟨e, rfl⟩ := hu.rest
  have hp : p { s with disp := e } n 0 = 1 ↔ slotWord s n 3 = 1 := (BitVec.toNat_inj (y := 1) :)
  have hbody : bodyOf .auxSet n { s with disp := e } =
      finish n (done (outlet (run [.req (auxRequest s n)] (s.withDisp e)) 8).state.code)
        (run [.req (auxRequest s n)] (s.withDisp e)) := by
    have hrequest : (if p { s with disp := e } n 0 = 1 then Req.demand 8 { charge := ratedOf { s with disp := e } 8 }
        else .withdraw 8) = auxRequest s n := if_congr hp rfl rfl
    show auxSet n { s with disp := e } = _
    unfold auxSet
    rw [hrequest]
    rfl
  rw [hbody] at hexec
  have hend := hfinished (done (outlet (run [.req (auxRequest s n)] (s.withDisp e)) 8).state.code)
  change Finished (finish n _ (run [.req (auxRequest s n)] (s.withDisp e))) n _ at hend
  refine ⟨e, ?_⟩
  generalize run [.req (auxRequest s n)] (s.withDisp e) = v at hexec hend ⊢
  have hout := finish_outlets n (done (outlet v 8).state.code) v
  have hrest := finish_sansOrders n (done (outlet v 8).state.code) v
  have hnotices := fun g k (h : Noticed v g k) => finish_notices h n (done (outlet v 8).state.code)
  generalize finish n (done (outlet v 8).state.code) v = z at hexec hend hout hrest hnotices
  exact ⟨_, hexec, hout, hrest, hnotices, hend⟩

/-- AUX_SET by a passage of its cascade. -/
theorem auxSet_reaches (hw : s.MemsWf) (hd : Dispatches s n .auxSet) (hk : k ≤ cascadeBound) {P : State → Prop}
    (hreach : ∀ e, ∃ p : Run, p.work = [] ∧ P p.st ∧ Run.Reaches k { st := s.withDisp e, work := [.req (auxRequest s n)] } p) :
    ∃ v t, P v ∧ AuxEnds s n v t := by
  obtain ⟨e, t, h⟩ := auxSet_next hw hd
  obtain ⟨p, hwork, hp, hrun⟩ := hreach e
  rw [hrun.run_st hk hwork] at h
  exact ⟨p.st, t, hp, h⟩

theorem auxRequest_on (h : slotWord s n 3 = 1) : auxRequest s n = .demand 8 (auxDemand s) := if_pos h

theorem auxRequest_off (h : slotWord s n 3 = 0) : auxRequest s n = .withdraw 8 := if_neg (by rw [h]; decide)

theorem isShed_aux (s : State) : isShed s 8 = classShed (configuredClass s 8) s.outlets.shedLevel := by rw [isShed, effClass_eight]

/-! ### A demand that fits, and a withdrawal -/

theorem auxSet_granted (hw : s.MemsWf) (hd : Dispatches s n .auxSet) (h1 : slotWord s n 3 = 1) (hgrant : WouldGrant s 8) :
    ∃ t, exec .auxSet s = .next t ∧ (outlet t 8).state = .on ∧ (outlet t 8).charge = ratedOf s 8 ∧
      (outlet t 8).demand = some { charge := ratedOf s 8 } ∧ OtherOutletsKept s t 8 ∧ OwnersKept s t ∧
      Finished t n { outcome := .ok, r0 := 2 } := by
  obtain ⟨hoff, hin, hshed, hfit⟩ := hgrant
  obtain ⟨v, t, ⟨hv, howners⟩, h⟩ := auxSet_reaches hw hd (k := 12) (by decide)
    (P := fun v => v.outlets = (granted 8 (auxDemand s) s).outlets ∧ OwnersKept s v) fun e => by
      have hclear : isShed (asked 8 (auxDemand s) (s.withDisp e)) 8 = false :=
        ((asked_eight (s.withDisp e) (auxDemand s)).2.2.2).trans ((isShed_aux s).trans hshed)
      obtain ⟨v, hv, hend⟩ := flush_reaches_told (granted 8 (auxDemand s) (s.withDisp e)) []
      refine ⟨{ st := v, work := [] }, rfl, ⟨hv.outlets, hv.ownersKept⟩, ?_⟩
      rw [auxRequest_on h1]
      exact (demand_granted_reaches (s := s.withDisp e) (d := auxDemand s) hoff hin hclear hfit []).trans (b := 7)
        ((report_eight_reaches .off .on
          (r := { st := granted 8 (auxDemand s) (s.withDisp e), work := [], acting := 1, told := true }) _).trans (b := 6) hend)
  have hout : ∀ q, outlet t q = outlet (granted 8 (auxDemand s) s) q := fun q => (h.outlet_eq q).trans (outlet_congr hv q)
  obtain ⟨hon, hcharge, hdemand⟩ := granted_on 8 (auxDemand s) s
  refine ⟨t, h.exec, by rw [hout, hon], by rw [hout, hcharge]; rfl, by rw [hout, hdemand]; rfl,
    fun q hq => (hout q).trans (granted_other hq _ s), h.owners howners, h.of_state (x := .on) ?_⟩
  rw [outlet_congr hv, hon]

theorem auxSet_withdrawn (hw : s.MemsWf) (hd : Dispatches s n .auxSet) (h0 : slotWord s n 3 = 0) (hon : (outlet s 8).state = .on)
    (hnone : NoneWaitsBut s 8) :
    ∃ t, exec .auxSet s = .next t ∧ (outlet t 8).state = .off ∧ (outlet t 8).charge = 0 ∧ (outlet t 8).demand = none ∧
      OtherOutletsKept s t 8 ∧ OwnersKept s t ∧ Finished t n { outcome := .ok, r0 := 0 } := by
  obtain ⟨v, t, ⟨hv, howners⟩, h⟩ := auxSet_reaches hw hd (k := 13) (by decide)
    (P := fun v => v.outlets = (withdrawn 8 s).outlets ∧ OwnersKept s v) fun e => by
      have hon' : (outlet (s.withDisp e) 8).state = .on := hon
      obtain ⟨v, hv, hend⟩ := withdraw_reaches (s := s.withDisp e) (o := 8) [] (by rw [hon']; nofun) (by rw [hon']; nofun) hnone
        (ownerReport_eight _ _ _) rfl
      refine ⟨{ st := v, work := [] }, rfl, ⟨hv.outlets, hv.ownersKept⟩, ?_⟩
      rw [auxRequest_off h0]
      exact hend
  have hout : ∀ q, outlet t q = outlet (withdrawn 8 s) q := fun q => (h.outlet_eq q).trans (outlet_congr hv q)
  obtain ⟨hoff, hdemand, hcharge⟩ := outlet_withdrawn_same (o := 8) s
  refine ⟨t, h.exec, by rw [hout, hoff], by rw [hout, hcharge], by rw [hout, hdemand],
    fun q hq => (hout q).trans (outlet_withdrawn_other hq s), h.owners howners, h.of_state (x := .off) ?_⟩
  rw [outlet_congr hv, hoff]

/-! ### A demand that is refused, and one over the limit -/

/-- AUX_SET raises the demand, and AUX goes to x without a charge. -/
def AuxRefused (s : State) (n : Fin 32) (x : OutletState) : Prop :=
  ∃ t, exec .auxSet s = .next t ∧ (outlet t 8).state = x ∧ (outlet t 8).charge = 0 ∧
    (outlet t 8).demand = some { charge := ratedOf s 8 } ∧ OtherOutletsKept s t 8 ∧ Finished t n { outcome := .ok, r0 := x.code }

theorem Refuses.withDisp (h : Refuses s d x) (e : Dispatcher) : Refuses (s.withDisp e) d x := by
  cases h with
  | inhibited h => exact .inhibited h
  | shed h hs => exact .shed h hs
  | waiting h hs hl hc => exact .waiting h hs hl hc

theorem auxSet_refused (hw : s.MemsWf) (hd : Dispatches s n .auxSet) (h1 : slotWord s n 3 = 1) (hoff : (outlet s 8).state = .off)
    (hx : Refuses s (auxDemand s) x) : AuxRefused s n x := by
  obtain ⟨v, t, hv, h⟩ := auxSet_reaches hw hd (k := 12) (by decide)
    (P := fun v => v.outlets = (refusedAux (auxDemand s) x s).outlets) fun e => by
      obtain ⟨v, hv, hend⟩ := refused_reaches (s := s.withDisp e) hoff (hx.withDisp e) []
      refine ⟨{ st := v, work := [] }, rfl, hv.outlets, ?_⟩
      rw [auxRequest_on h1]
      exact hend
  have hout : ∀ q, outlet t q = outlet (refusedAux (auxDemand s) x s) q := fun q => (h.outlet_eq q).trans (outlet_congr hv q)
  obtain ⟨hstate, hcharge, hdemand, hothers⟩ := refusedAux_outlets (auxDemand s) x s
  refine ⟨t, h.exec, by rw [hout, hstate], by rw [hout, hcharge], by rw [hout, hdemand]; rfl,
    fun q hq => (hout q).trans (hothers q hq), h.of_state ?_⟩
  rw [outlet_congr hv, hstate]

theorem auxSet_overLimit (hw : s.MemsWf) (hd : Dispatches s n .auxSet) (h1 : slotWord s n 3 = 1) (hoff : (outlet s 8).state = .off)
    (hfree : (outlet s 8).charge = 0) (hin : (outlet s 8).inhibit = 0) (hshed : isShed s 8 = false)
    (hl : s.outlets.limit < grantedTotal s + ratedOf s 8) (hc : configuredClass s 8 = 0)
    (hnone : ∀ q, (outlet s q).state = .on → effClass s q = 0) :
    ∃ t, exec .auxSet s = .next t ∧ (outlet t 8).state = .on ∧ (outlet t 8).charge = ratedOf s 8 ∧
      OtherOutletsKept s t 8 ∧ (grantedTotal s ≤ s.outlets.limit → Noticed t .outlets 15) ∧
      Finished t n { outcome := .ok, r0 := 2 } := by
  obtain ⟨v, t, ⟨hv, hnotice⟩, h⟩ := auxSet_reaches hw hd (k := 15) (by decide)
    (P := fun v => v.outlets = (granted 8 (auxDemand s) s).outlets ∧ (grantedTotal s ≤ s.outlets.limit → Noticed v .outlets 15))
    fun e => by
      obtain ⟨v, w, hw, hv, hnotice, hend⟩ := overLimit_reaches (s := s.withDisp e) (d := auxDemand s) hoff hfree hin hshed hl hc
        hnone []
      refine ⟨{ st := w, work := [] }, rfl, ⟨hw.outlets.trans hv, fun hwithin => ?_⟩, ?_⟩
      · rw [Noticed, hw.port]
        exact hnotice hwithin
      · rw [auxRequest_on h1]
        exact hend
  have hout : ∀ q, outlet t q = outlet (granted 8 (auxDemand s) s) q := fun q => (h.outlet_eq q).trans (outlet_congr hv q)
  obtain ⟨hon, hcharge, -⟩ := granted_on 8 (auxDemand s) s
  refine ⟨t, h.exec, by rw [hout, hon], by rw [hout, hcharge]; rfl, fun q hq => (hout q).trans (granted_other hq _ s),
    fun hwithin => h.notices _ _ (hnotice hwithin), h.of_state (x := .on) ?_⟩
  rw [outlet_congr hv, hon]

theorem Preempts.withDisp (h : Preempts s q d e) (k : Dispatcher) : Preempts (s.withDisp k) q d e where
  other := h.other
  off := h.off
  free := h.free
  uninhibited := h.uninhibited
  clear := h.clear
  protect := h.protect
  exceeds := h.exceeds
  first := h.first
  kept := h.kept
  demand := h.demand
  charge := h.charge
  alone := h.alone
  room := h.room

theorem auxSet_preempts (hw : s.MemsWf) (hd : Dispatches s n .auxSet) (h1 : slotWord s n 3 = 1)
    (hq : q = 0 ∨ q = 3 ∨ q = 4 ∨ q = 6 ∨ q = 9)
    (hp : Preempts s q (auxDemand s) e) :
    ∃ t, exec .auxSet s = .next t ∧ (outlet t 8).state = .on ∧ (outlet t 8).charge = ratedOf s 8 ∧
      (outlet t q).state = .waiting ∧ (outlet t q).charge = 0 ∧ (outlet t q).demand = some e ∧
      (outlet t q).requestOrder = (outlet s q).requestOrder ∧ (∀ p, p ≠ 8 → p ≠ q → outlet t p = outlet s p) ∧
      Noticed t .outlets 13 ∧ Finished t n { outcome := .ok, r0 := 2 } := by
  obtain ⟨v, t, ⟨hv, hnotice⟩, h⟩ := auxSet_reaches hw hd (k := 22) (by decide)
    (P := fun v => v.outlets = (preempted q (auxDemand s) s).outlets ∧ Noticed v .outlets 13) fun k => by
      obtain ⟨v, hv, hnotice, hend⟩ := (hp.withDisp k).reaches hq []
      refine ⟨{ st := v, work := [], revoked := true }, rfl, ⟨hv, hnotice⟩, ?_⟩
      rw [auxRequest_on h1]
      exact hend
  have hout : ∀ q', outlet t q' = outlet (preempted q (auxDemand s) s) q' := fun q' => (h.outlet_eq q').trans (outlet_congr hv q')
  have hrevoked : outlet t q = (outlet s q).darkened .waiting := (hout q).trans hp.preempted_revoked
  obtain ⟨hon, hcharge⟩ := hp.preempted_aux
  refine ⟨t, h.exec, by rw [hout, hon], by rw [hout, hcharge]; rfl, by rw [hrevoked]; rfl, by rw [hrevoked]; rfl,
    by rw [hrevoked]; exact hp.demand, by rw [hrevoked]; rfl, fun p hp8 hpq => ?_, h.notices _ _ hnotice, h.of_state (x := .on) ?_⟩
  · rw [hout, hp.outlet_preempted, if_neg hp8, if_neg hpq]
  · rw [outlet_congr hv, hon]

/-! ### The order TRIP_CLEAR (R83) -/

/-- The outlet that TRIP_CLEAR names. -/
def tripOutlet (s : State) (n : Fin 32) : Fin 16 := Fin.ofNat 16 (slotWord s n 3).toNat

theorem tripClear_refused (hw : s.MemsWf) (hd : Dispatches s n .tripClear) (h : (outlet s (tripOutlet s n)).state ≠ .tripped) :
    ∃ t, exec .tripClear s = .next t ∧ Finished t n { outcome := .notPermitted, r0 := (outlet s (tripOutlet s n)).state.code } ∧
      t.sansOrders = s.sansOrders := by
  obtain ⟨u, d, hu, hexec⟩ := Dispatches.exec (c := .tripClear) hd rfl
  have hend := hu.finish_now hw.1 (fail .notPermitted (outlet s (tripOutlet s n)).state.code)
  obtain ⟨e, rfl⟩ := hu.rest
  have hbody : bodyOf .tripClear n { s with disp := e } =
      finish n (fail .notPermitted (outlet s (tripOutlet s n)).state.code) { s with disp := e } := if_neg h
  rw [hbody] at hexec
  generalize finish n (fail .notPermitted (outlet s (tripOutlet s n)).state.code) { s with disp := e } = z at hexec hend
  exact ⟨_, hexec, hend⟩

/-- TRIP_CLEAR ends the order in the middle of its cascade. -/
theorem tripClear_reaches (hw : s.MemsWf) (hd : Dispatches s n .tripClear) (ht : (outlet s (tripOutlet s n)).state = .tripped)
    {y : Outlets} (hreach : ∀ e, ∃ u, u.outlets = y ∧
      Run.Reaches 10 { st := s.withDisp e, work := [.action [.clearTrip (tripOutlet s n), .flush, .tripDone n (tripOutlet s n)]] }
        (resultPoint n (tripOutlet s n) u)) :
    ∃ t, exec .tripClear s = .next t ∧ t.outlets = y ∧
      Finished t n { outcome := .ok, r0 := (outlet t (tripOutlet s n)).state.code, r1 := Word.nat (grantedTotal t) } := by
  obtain ⟨u, d, hu, hexec⟩ := Dispatches.exec (c := .tripClear) hd rfl
  obtain ⟨e, he⟩ := hu.rest
  obtain ⟨v, hv, hrun⟩ := hreach e
  have hend := hu.finished hw.1 (t := v) (he ▸ hrun.drains) (he ▸ hrun.follows.slots) (tripResult (tripOutlet s n) v)
  have hbody : bodyOf .tripClear n u = syncPart .outlets (finish n (tripResult (tripOutlet s n) v) v) := by
    subst he
    exact (if_pos ht).trans ((hrun.trans (result_reaches n (tripOutlet s n) v)).run_eq (by decide))
  rw [hbody] at hexec
  have hout := finish_outlets n (tripResult (tripOutlet s n) v) v
  generalize finish n (tripResult (tripOutlet s n) v) v = z at hexec hend hout
  have hsync : Shows z (syncPart .outlets z) := showAction_shows _ _ _
  have hsame : ((syncPart .outlets z).withDigest d).outlets = v.outlets := hsync.outlets.trans hout
  refine ⟨_, hexec, hsame.trans hv, ?_⟩
  rw [outlet_congr hsame, grantedTotal_congr (s := v) fun q => by rw [outlet_congr hsame]]
  exact hend.shows (hsync.trans ⟨d, _, rfl⟩)

theorem tripClear_off (hw : s.MemsWf) (hd : Dispatches s n .tripClear) (ht : (outlet s (tripOutlet s n)).state = .tripped)
    (hnone : (outlet s (tripOutlet s n)).demand = none) :
    ∃ t, exec .tripClear s = .next t ∧ (outlet t (tripOutlet s n)).state = .off ∧ (outlet t (tripOutlet s n)).charge = 0 ∧
      OtherOutletsKept s t (tripOutlet s n) ∧ Finished t n { outcome := .ok, r0 := 0, r1 := Word.nat (grantedTotal t) } := by
  obtain ⟨t, hexec, hout, hend⟩ := tripClear_reaches hw hd ht (y := (darkOutlet (tripOutlet s n) .off s).outlets) fun e =>
    tripOff_reaches (s := s.withDisp e) ht hnone
  have hout : ∀ q, outlet t q = outlet (darkOutlet (tripOutlet s n) .off s) q := outlet_congr hout
  have hdark : outlet t (tripOutlet s n) = (outlet s (tripOutlet s n)).darkened .off := by rw [hout, outlet_dark, if_pos rfl]
  rw [hdark] at hend
  exact ⟨t, hexec, by rw [hdark]; rfl, by rw [hdark]; rfl, fun q hq => by rw [hout, outlet_dark, if_neg hq], hend⟩

theorem tripClear_granted (hw : s.MemsWf) (hd : Dispatches s n .tripClear) (h8 : tripOutlet s n = 8) (ht : (outlet s 8).state = .tripped)
    (hdemand : (outlet s 8).demand = some { charge := ratedOf s 8 }) (hin : (outlet s 8).inhibit = 0)
    (hshed : classShed (configuredClass s 8) s.outlets.shedLevel = false) (hfit : grantedTotal s + ratedOf s 8 ≤ s.outlets.limit) :
    ∃ t, exec .tripClear s = .next t ∧ (outlet t 8).state = .on ∧ (outlet t 8).charge = ratedOf s 8 ∧
      OtherOutletsKept s t 8 ∧ Finished t n { outcome := .ok, r0 := 2, r1 := Word.nat (grantedTotal t) } := by
  obtain ⟨t, hexec, hout, hend⟩ := tripClear_reaches hw hd (by rw [h8, ht]) (y := (granted 8 (auxDemand s) s).outlets) fun e => by
    obtain ⟨u, hu, hrun⟩ := tripGrant_reaches (n := n) (s := s.withDisp e) (d := auxDemand s) ht hdemand hin
      ((isShed_aux s).trans hshed) hfit
    rw [h8]
    exact ⟨u, hu, hrun.trans (b := 2) (.refl _ _)⟩
  have hout : ∀ q, outlet t q = outlet (granted 8 (auxDemand s) s) q := outlet_congr hout
  obtain ⟨hon, hcharge, -⟩ := granted_on 8 (auxDemand s) s
  rw [h8, hout, hon] at hend
  exact ⟨t, hexec, by rw [hout, hon], by rw [hout, hcharge]; rfl, fun q hq => (hout q).trans (granted_other hq _ s), hend⟩

/-! ### Acts that light or cut (R74, R76) -/

/-- The first rise of a list. -/
def Run.rise (o : Fin 16) (k : Nat) (r : Run) : Run :=
  if (outlet r.st o).inhibit = 0 ∧ ((outlet r.st o).state = .on ∨ (outlet r.st o).state = .waiting ∨ (outlet r.st o).state = .shed)
  then (r.onState (setOutlet o { outlet r.st o with inhibit := (outlet r.st o).inhibit + k })).dark o .inhibited
  else r.onState (setOutlet o { outlet r.st o with inhibit := (outlet r.st o).inhibit + k })

theorem Run.rises_rise (x : Fin 16 × Nat) (l : List (Fin 16 × Nat)) (r : Run) : r.rises (x :: l) = (r.rise x.1 x.2).rises l :=
  Run.rises_cons (r := r) x l

theorem Run.rise_inhibit (r : Run) (o q : Fin 16) (k : Nat) :
    (outlet (r.rise o k).st q).inhibit = if q = o then (outlet r.st o).inhibit + k else (outlet r.st q).inhibit := by
  unfold Run.rise
  by_cases e : q = o
  · subst e
    split
    · rw [Run.dark_outlet, if_pos rfl, if_pos rfl, Run.onState_st, outlet_setOutlet, if_pos rfl]
      rfl
    · rw [Run.onState_st, outlet_setOutlet, if_pos rfl, if_pos rfl]
  · split
    · rw [Run.dark_outlet, if_neg e, Run.onState_st, outlet_setOutlet, if_neg e]
    · rw [Run.onState_st, outlet_setOutlet, if_neg e]

/-- No rise lowers a count, and each adds its own. -/
theorem rises_inhibit (l : List (Fin 16 × Nat)) : ∀ r : Run, (∀ q, (outlet r.st q).inhibit ≤ (outlet (r.rises l).st q).inhibit) ∧
    ∀ x ∈ l, x.2 ≤ (outlet (r.rises l).st x.1).inhibit := by
  induction l with
  | nil => exact fun r => ⟨fun _ => le_rfl, nofun⟩
  | cons x l ih =>
    intro r
    obtain ⟨hgrow, hrises⟩ := ih (r.rise x.1 x.2)
    rw [Run.rises_rise]
    refine ⟨fun q => le_trans ?_ (hgrow q), fun z hz => ?_⟩
    · rw [Run.rise_inhibit]
      split
      · next e => exact e ▸ Nat.le_add_right _ _
      · exact le_rfl
    · rcases List.mem_cons.1 hz with rfl | hz
      · refine le_trans ?_ (hgrow z.1)
        rw [Run.rise_inhibit, if_pos rfl]
        exact Nat.le_add_left _ _
      · exact hrises z hz

/-- R76: an outlet whose count has risen is not in ON, WAITING or SHED. -/
theorem rises_dark (l : List (Fin 16 × Nat)) (r : Run) (hfree : ∀ q, (outlet r.st q).Free) {x : Fin 16 × Nat}
    (hx : x ∈ l) (hpos : 0 < x.2) :
    (outlet (perform (.rises l) r).st x.1).state ≠ .on ∧ (outlet (perform (.rises l) r).st x.1).state ≠ .waiting ∧
      (outlet (perform (.rises l) r).st x.1).state ≠ .shed := by
  have hkept := (Run.Turns.rises (m := l) l r).1.free x.1 (hfree x.1)
  have hcount : (outlet (r.rises l).st x.1).inhibit ≠ 0 := (hpos.trans_le ((rises_inhibit l r).2 x hx)).ne'
  have hstate : ¬ ((outlet (r.rises l).st x.1).state = .on ∨ (outlet (r.rises l).st x.1).state = .waiting ∨
      (outlet (r.rises l).st x.1).state = .shed) := fun h => hcount (hkept h)
  exact ⟨fun e => hstate (.inl e), fun e => hstate (.inr (.inl e)), fun e => hstate (.inr (.inr e))⟩

/-- Settles O31: each outcome of AUX_SET and of TRIP_CLEAR by its passage of the cascade, the acts by what each does to the outlets. -/
theorem outletOrders : Obligations.OutletOrders := by
  refine ⟨fun s n hw hd => ⟨?_, auxSet_granted hw hd, auxSet_withdrawn hw hd⟩,
    fun s n hw hd => ⟨tripClear_refused hw hd, tripClear_off hw hd, tripClear_granted hw hd⟩,
    fun s n hw hinv hd h1 hoff => ?_, fun a r o hnot hwait hon => ?_, fun l r hfree x hx hpos => rises_dark l r hfree hx hpos,
    cutRest_clear⟩
  · obtain ⟨e, t, h⟩ := auxSet_next hw hd
    exact ⟨t, h.exec, by rw [h.outlet_eq]; exact h.finished⟩
  · have hfree : (outlet s 8).charge = 0 := hinv 8 (by rw [hoff]; nofun)
    refine ⟨fun hin => auxSet_refused hw hd h1 hoff (.inhibited hin), fun hin hs => auxSet_refused hw hd h1 hoff (.shed hin hs),
      fun hin hs hl => ⟨fun hc => auxSet_refused hw hd h1 hoff (.waiting hin hs hl hc),
        fun hc hnone => auxSet_overLimit hw hd h1 hoff hfree hin hs hl hc hnone,
        fun q e hc hq hfirst hkept hdemand hcharge halone hroom => auxSet_preempts hw hd h1 hq {
          other := by rcases hq with rfl | rfl | rfl | rfl | rfl <;> decide
          off := hoff
          free := hfree
          uninhibited := hin
          clear := hs
          protect := hc
          exceeds := hl
          first := hfirst
          kept := hkept
          demand := hdemand
          charge := hcharge
          alone := halone
          room := hroom }⟩⟩
  · exact ((perform_turns a r).lit o hon).resolve_left hnot hwait

end Sys2Proof.Machine
end
